-- ==== Sys2Proof/Word.lean ====
section
/-! DEFINITION. The plain number types of the C420: bytes, belt counts, ticks, and the small
numbers that name stations, serials, racks and classes. -/

namespace Sys2Proof

/-- One byte of a frame, of a tag reply or of the profile image. -/
abbrev Byte := BitVec 8

/-- A belt count: a 16-bit position modulo 65,536 (R1). -/
abbrev Count := BitVec 16

/-- The current tick: 32 bits, wrapping (R170). -/
abbrev Tick32 := BitVec 32

/-- A station number 1 to 63; 0 is "all stations", "unconnected" or "unknown" where a rule says so. -/
abbrev Station := Fin 64

/-- A serial of an offer, 0 to 15. -/
abbrev Serial := Fin 16

/-- A rack number 1 to 4095, or NOTAG (0). -/
abbrev RackNo := Fin 4096

/-- A content class code (opening file, Content classes). -/
abbrev RackClass := Fin 16

/-- NOTAG: no number known or trusted. -/
abbrev notag : RackNo := 0

/-- Class EMPTY. -/
abbrev classEmpty : RackClass := 0

/-- Class MIXED. -/
abbrev classMixed : RackClass := 14

/-- Class UNKNOWN. -/
abbrev classUnknown : RackClass := 15

end Sys2Proof
end

