-- ==== Sys2Proof/Config.lean ====
section
/-! DEFINITION. What the specification leaves open, and the fixed numbers of the part that no
profile field sets. -/

namespace Sys2Proof

/-- DESIGN CHOICE (log 1), free value. The reported speed that a window end computes from M16 while
no profile has given K (R71 needs K): station modes LOADING and UNSET. It lies in the range R71
clamps to. Nothing constrains it; with M16 = 0 it is not consulted, since R71 then gives 0 for
every K. -/
opaque Config.unprofiledSpeed : Nat → Fin 1000

/-- DESIGN CHOICE (log 18), free value. The level of ZTX in the n-th bit time while the line driver is disabled: R161
gives the level at which the line rests, and none of the pin while ZDE is low. Nothing constrains it. -/
opaque Config.openZtx : Nat → Bool

/-- DESIGN CHOICE (log 18), free value. The level of PDO in the n-th half period of PCK where R186 gives none: outside
the three bytes of the read command. Nothing constrains it. -/
opaque Config.openPdo : Nat → Bool

/-- DESIGN CHOICE (log 18), free value. The level of an output of the key matrix at a role that does not sample it
(R124). Nothing constrains it. -/
opaque Config.openKs : Fin 4 → Fin 4 → Bool

/-- A window ends every 25 ticks (R70). -/
def Config.windowTicks : Nat := 25

/-- A HOLD of fewer than 50 ticks is short (R65). -/
def Config.shortHold : Nat := 50

/-- First re-send interval of an unanswered OFFER (R84, R86). -/
def Config.resendFast : Nat := 10

/-- Re-send interval once answered, or after the fourth send (R86, R87). -/
def Config.resendSlow : Nat := 100

/-- The DOZE reply wait (R151). -/
def Config.dozeReply : Nat := 20

/-- The STATUS timer (R173). -/
def Config.statusTicks : Nat := 50

/-- The WANT timer (R132). -/
def Config.wantTicks : Nat := 100

/-- Half period of the call lamp's FLASH (R134). -/
def Config.callFlash : Nat := 50

/-- Half period of the attention lamp's FLASH (R183). -/
def Config.attFlash : Nat := 25

/-- A neighbour unheard for this many ticks is SILENT (R172). -/
def Config.silentTicks : Nat := 200

/-- Samples that change a key's recognised state (R124), fix the straps (R185) and close the stop
chain (R176). -/
def Config.sampleRun : Nat := 3

/-- Holds of the ACK key that act as CLEAR and as FLUSH (R181). -/
def Config.holdClear : Nat := 300

/-- See `Config.holdClear`. -/
def Config.holdFlush : Nat := 800

/-- The send queue's size (R164). -/
def Config.queueSize : Nat := 16

/-- The quiet interval in microseconds (R162). -/
def Config.quietMicros : Nat := 240

/-- A back-off slot in microseconds (R162). -/
def Config.slotMicros : Nat := 500

end Sys2Proof
end

