-- ==== Sys2Proof/Syntax.lean ====
section
/-! DEFINITION. The commands of the C420: one constructor of `Instr` per row of
spec/opcode_table.json, with the operands its event brings from outside, and the types those
operands are made of. -/

namespace Sys2Proof

/-- The six eye channels (chapter 02). -/
inductive Eye where
  | entry | exit | checkA | checkB | gate | bay
  deriving DecidableEq, Repr

/-- Upstream ports. -/
inductive UpPort where
  | u0 | u1
  deriving DecidableEq, Repr

/-- Downstream ports. Branch 0 of chapter 08 is D0 and branch 1 is D1. -/
inductive DownPort where
  | d0 | d1
  deriving DecidableEq, Repr

/-- All four ports, for the neighbour records (R171). -/
inductive Port where
  | u0 | u1 | d0 | d1
  deriving DecidableEq, Repr

/-- Segment roles (R186). -/
inductive Role where
  | load | feed | merge | tunnel | divert | unload
  deriving DecidableEq, Repr

/-- Belt states (chapter 04). -/
inductive BeltState where
  | hold | spinUp | run | creep | park
  deriving DecidableEq, Repr

/-- Lock states (R76, R77). -/
inductive LockState where
  | unlocked | locked | failSlow | failFast
  deriving DecidableEq, Repr

/-- Station modes (chapter 12). -/
inductive Mode where
  | loading | scanning | active | unset
  deriving DecidableEq, Repr

/-- A set of record flags (chapter 03, flag table; bit order of the OFFER layout). -/
structure Flags where
  stray : Bool := false
  relabelled : Bool := false
  duplicate : Bool := false
  crowded : Bool := false
  slipped : Bool := false
  placed : Bool := false
  altered : Bool := false
  start : Bool := false
  misrouted : Bool := false
  deriving DecidableEq, Repr

/-- A rack's image: the first six fields of its record, carried by OFFER (chapter 03). -/
structure Image where
  number : RackNo
  cls : RackClass
  origin : Station
  steeredBy : Station
  hop : Fin 256
  flags : Flags
  deriving DecidableEq, Repr

/-- REFUSE reasons. -/
inductive RefuseReason where
  | restricted | unset | wrongPort
  deriving DecidableEq, Repr

/-- The landing answers a record can hold (chapter 03). -/
inductive LandAnswer where
  | ok | noread | mismatch
  deriving DecidableEq, Repr

/-- LANDED status values. -/
inductive LandStatus where
  | ok | noread | mismatch | skipped
  deriving DecidableEq, Repr

/-- The eighteen causes, in their order (chapter 11). -/
inductive Cause where
  | estop | beltOverload | beltOverrun | exitJam | entryJam | eyeStuck | lostRack
  | expectedMissing | strayRack | tagMismatch | neighbourSilent | crowding | routeLoop
  | misroute | circling | lineOverrun | beltUnsteady | profileFault
  deriving DecidableEq, Repr

/-- STATUS payload (frame kinds table). The role is none in UNSET (code 7); LOADING is never sent. -/
structure StatusInfo where
  role : Option Role
  mode : Mode
  belt : BeltState
  lock : LockState
  level : Fin 4
  trackCount : Fin 13
  speed : Fin 1000
  pendingCount : Fin 19
  deriving DecidableEq, Repr

/-- ATTENTION payload (frame kinds table). No cause is code 255. -/
structure AttentionInfo where
  cause : Option Cause
  severity : Fin 4
  detail : BitVec 16
  repeats : Fin 256
  reply : Bool
  pendingCount : Fin 19
  deriving DecidableEq, Repr

/-- The payload of each frame kind, its fields within the ranges of the frame kinds table. -/
inductive Payload where
  | offer (serial : Serial) (image : Image) (lengthMm : Fin 65536)
  | take (serial : Serial)
  | wait (serial : Serial)
  | refuse (serial : Serial) (reason : RefuseReason)
  | withdraw (serial : Serial)
  | landed (serial : Serial) (number : RackNo) (status : LandStatus)
  | whereIs (serial : Serial)
  | notSeen (serial : Serial)
  | stall
  | go (speed : Fin 1000)
  | dozeAsk
  | dozeAllow
  | dozeDeny
  | want (want : Fin 16)
  | rackIn (number : RackNo) (steeredBy : Station)
  | status (info : StatusInfo)
  | attention (info : AttentionInfo)
  | ask
  | ack
  | clear
  | flush
  deriving DecidableEq, Repr

/-- TO and FROM of a received frame (R161). -/
structure Hdr where
  dst : Station
  src : Station
  deriving DecidableEq, Repr

/-- A received frame. -/
structure RxFrame where
  hdr : Hdr
  payload : Payload
  deriving DecidableEq, Repr

/-- A character seen on ZRX: its byte, and whether its stop bit read high (R161, R167). -/
structure RxChar where
  byte : Byte
  stopOk : Bool
  deriving DecidableEq, Repr

/-- The pin levels sampled at a tick, true meaning high: the stop chain (R176), the straps (R185),
the SEND, EMPTY and ACK keys and the key matrix (R124). Bit n of `matrix` is the level of KR
numbered n mod 4 while KS numbered n / 4 is driven low. -/
structure PinSample where
  estop : Bool
  straps : Station
  ksend : Bool
  kempty : Bool
  kack : Bool
  matrix : BitVec 16
  deriving DecidableEq, Repr

/-- The keys whose release is the row KEY_RELEASE; the ACK key's release is a row of its own. -/
inductive OpKey where
  | send | empty | cls (n : RackClass)
  deriving DecidableEq, Repr

/-- The commands, in the order of spec/opcode_table.json. -/
inductive Instr where
  | powerOnReset
  | resetRelease (ena enb estop : Bool)
  | tick (pins : PinSample)
  | forwardEdge
  | reverseEdge
  | doubleStep
  | markFire
  | eyeRawChange (eye : Eye) (high : Bool)
  | eyeEdgeConfirm (eye : Eye)
  | eyeFirstState (eye : Eye)
  | checkMissed (eye : Eye)
  | eyeJam (eye : Eye)
  | eyeStuck (eye : Eye)
  | tagReplyComplete (b0 b1 b2 : Byte)
  | tagReplyGap (b0 : Byte) (b1 : Option Byte)
  | readerTimeout
  | recordVanish
  | residenceExposureMet
  | windowEnd
  | beltUnsteady
  | spinUpExpiry
  | offerResend
  | whereSent
  | transferAllowanceExpiry
  | offer (h : Hdr) (serial : Serial) (image : Image) (lengthMm : Fin 65536)
  | take (h : Hdr) (serial : Serial)
  | wait (h : Hdr) (serial : Serial)
  | refuse (h : Hdr) (serial : Serial) (reason : RefuseReason)
  | withdraw (h : Hdr) (serial : Serial)
  | landed (h : Hdr) (serial : Serial) (number : RackNo) (answer : LandAnswer)
  | landedSkipped (h : Hdr) (serial : Serial) (number : RackNo)
  | whereIs (h : Hdr) (serial : Serial)
  | notSeen (h : Hdr) (serial : Serial)
  | entryReady
  | slotArrivalExpiry
  | stall (h : Hdr)
  | go (h : Hdr) (speed : Fin 1000)
  | gateSettle
  | patienceExpiry
  | classKeyPress (n : RackClass)
  | sendKeyPress
  | emptyKeyPress
  | wantTimer
  | callLampFlash
  | want (h : Hdr) (n : Fin 16)
  | wantExpiry (loader : Station)
  | steerExpiry (branch : DownPort)
  | rackIn (h : Hdr) (number : RackNo) (steeredBy : Station)
  | parkDelayExpiry
  | dozeAsk (h : Hdr)
  | dozeAllow (h : Hdr)
  | dozeDeny (h : Hdr)
  | dozeReplyTimeout
  | poll
  | neighbourSilent (port : Port)
  | statusTimer
  | status (h : Hdr) (info : StatusInfo)
  | attention (h : Hdr) (info : AttentionInfo)
  | frameRejected (chars : List RxChar)
  | frameForOther (h : Hdr) (payload : Payload)
  | sendStart (quietMicros : Nat)
  | frameSent
  | collision
  | ask (h : Hdr)
  | ack (h : Hdr)
  | clear (h : Hdr)
  | flush (h : Hdr)
  | ackKeyPress
  | ackKeyRelease
  | ackKeyHoldClear
  | ackKeyHoldFlush
  | attentionLampFlash
  | estopOpen
  | estopClose
  | stationNumberRead
  | profileRead (bytes : List Byte)
  | keyRelease (key : OpKey)
  deriving DecidableEq, Repr

end Sys2Proof
end

