-- ==== Sys2Proof/Machine/State.lean ====
section
/-! DEFINITION. Everything the specification gives the C420, as plain data, block by block, and the
machine as power-on reset leaves it. Every field cites the rule that names it. -/

namespace Sys2Proof.Machine

/-- Why the machine stops. No rule of the specification stops the part, so there is no fault: nothing
raises one, and an empty type is safe. -/
inductive Fault where
  deriving DecidableEq, Repr

/-- Why a command is refused. -/
inductive Refusal where
  /-- Raised by `exec` for a command that has no meaning yet (there is none). Safe. -/
  | notModelled (mnemonic : String)
  deriving DecidableEq, Repr

/-! ### Start-up loader and profile -/

/-- Kinds of route entry (chapter 08). -/
inductive RouteKind where
  | port0 | port1 | aliasOf (c : RackClass) | demand
  deriving DecidableEq, Repr

/-- One entry of the route table (chapter 08). -/
structure RouteEntry where
  kind : RouteKind
  alternate : Bool
  deriving DecidableEq, Repr

/-- The segment profile, clamped (R186, R187). Distances in mm, times as the table gives them. -/
structure Profile where
  role : Role := .feed
  u0 : Station := 0
  u1 : Station := 0
  d0 : Station := 0
  d1 : Station := 0
  panel1 : Station := 0
  panel2 : Station := 0
  k : Nat := 1000
  length : Nat := 300
  posCheckA : Nat := 0
  posCheckB : Nat := 0
  posGate : Nat := 0
  posBay : Nat := 0
  eyeFilter : Nat := 2
  checkTol : Nat := 40
  rackMin : Nat := 480
  rackMax : Nat := 560
  entryGap : Nat := 80
  offerLead : Nat := 300
  approachLead : Nat := 150
  stopLead : Nat := 20
  transfer : Nat := 900
  arrival : Nat := 900
  jam : Nat := 600
  target : Nat := 60
  creepDiv : Nat := 4
  gain : Nat := 64
  startLevel : Nat := 300
  spinUp : Nat := 30
  follow : Bool := true
  reader : Bool := false
  strict : Bool := false
  unsteadyLimit : Nat := 10
  minExposure : Nat := 0
  trackLimit : Nat := 6
  readerTimeout : Nat := 20
  hopLimit : Nat := 48
  parkDelay : Nat := 60
  pollPeriod : Nat := 20
  dozeReach : Nat := 1500
  routes : List RouteEntry := List.replicate 16 ⟨.port0, false⟩
  fallback : DownPort := .d0
  overflow : DownPort := .d0
  loaders0 : List Station := [0, 0, 0, 0]
  loaders1 : List Station := [0, 0, 0, 0]
  wantTarget : Nat := 3
  wantExpiry : Nat := 300
  steerExpiry : Nat := 120
  patience : Nat := 20
  gateSettle : Nat := 40
  accept : BitVec 16 := 0xFFFE
  severities : List Nat := List.replicate 18 0
  masks : List Bool := List.replicate 18 true
  deriving DecidableEq, Repr

/-- The profile distances in counts (R6, R7). An eye that is not fitted keeps 0. -/
structure Counts where
  exit : Nat := 0
  checkA : Nat := 0
  checkB : Nat := 0
  gate : Nat := 0
  bay : Nat := 0
  tol : Nat := 0
  rackMin : Nat := 0
  rackMax : Nat := 0
  entryGap : Nat := 0
  offer : Nat := 0
  approach : Nat := 0
  stop : Nat := 0
  gateClear : Nat := 0
  transfer : Nat := 0
  arrival : Nat := 0
  jam : Nat := 0
  doze : Nat := 0
  deriving DecidableEq, Repr

/-- Reset, straps, mode and profile (chapter 12). -/
structure Boot where
  resetHeld : Bool := true              -- RESET is low (R184)
  mode : Mode := .loading               -- R184
  station : Option Station := none      -- R185
  strapLast : Option Station := none    -- R185, the last strap sample
  strapRun : Nat := 0                   -- R185, how many samples in a row agree, at most 3
  loaded : Bool := false                -- the profile has been read, checked and clamped (R186)
  prof : Profile := {}                  -- R187; read only where `loaded`
  cts : Counts := {}                    -- R6
  ceiling : Nat := 0                    -- R72, the exposure ceiling
  pcs : Bool := true                    -- R186, the PCS pin
  spiOut : List Byte := []              -- R186, the bytes sent on PDO
  deriving DecidableEq, Repr

/-! ### Count unit and mark comparator -/

/-- The count unit (R1 to R3). -/
structure CountUnit where
  ena : Bool := false      -- R1, the previous sample of ENA
  enb : Bool := false      -- R1, the previous sample of ENB
  count : Count := 0       -- R2
  reverse : Bool := false  -- R3
  deriving DecidableEq, Repr

/-- Mark states (chapter 01). -/
inductive MarkState where
  | absent | armed | fired | disarmed
  deriving DecidableEq, Repr

/-- A mark: its belt count and its state (R11). -/
structure Mark where
  pos : Count := 0
  st : MarkState := .absent
  deriving DecidableEq, Repr

/-- The mark group (R11, R17). -/
structure MarkGroup where
  owner : Option Nat := none
  front : Count := 0
  offer : Mark := {}
  approach : Mark := {}
  stop : Mark := {}
  gateClear : Mark := {}
  deriving DecidableEq, Repr

/-! ### Eye unit and tag port -/

/-- Channel states (R21). -/
inductive EyeState where
  | clear | blocked | receded | returned
  deriving DecidableEq, Repr

/-- A pending edge: its capture (R19), and how many consecutive samples have read the new state (R20). -/
structure PendEdge where
  count : Count
  reverse : Bool
  run : Nat
  deriving DecidableEq, Repr

/-- One eye channel (R18). -/
structure EyeChan where
  raw : Bool := false                -- the pin, high means blocked
  st : EyeState := .clear            -- R21
  settled : Bool := false            -- it has taken its first state (R24)
  firstLevel : Bool := false         -- R24, the level of the run of samples below
  firstRun : Nat := 0                -- R24
  pend : Option PendEdge := none     -- R19
  blockedFrom : Count := 0           -- R29
  jamDist : Nat := 0                 -- R29, meaningful at EXIT
  jam : Bool := false                -- R29, this channel's jam condition is present
  unaccounted : Option Count := none -- R30
  stuck : Bool := false              -- R30, this channel's stuck condition is present
  awaited : List Nat := []           -- R25, records by the model's name
  missed : List Nat := []            -- R25
  deriving DecidableEq, Repr

/-- The eye unit: six channels and ENTRY's capture pair (R18, R22). -/
structure Eyes where
  entry : EyeChan := {}
  exit : EyeChan := {}
  checkA : EyeChan := {}
  checkB : EyeChan := {}
  gate : EyeChan := {}
  bay : EyeChan := {}
  lead : Option Count := none
  leadFresh : Bool := false
  trail : Option Count := none
  trailFresh : Bool := false
  deriving DecidableEq, Repr

/-- Tag port states (R31). -/
inductive TagState where
  | idle | reading | draining
  deriving DecidableEq, Repr

/-- The tag port (R31 to R35). -/
structure TagPort where
  st : TagState := .idle
  owner : Option Nat := none     -- R32, R34
  timeout : Option Nat := none   -- R32, ticks left
  ttx : Option Byte := none      -- R31, the last byte sent on TTX
  deriving DecidableEq, Repr

/-! ### Rack track -/

/-- Record states (chapter 03). -/
inductive RecState where
  | entering | riding | head | atBay | offered | taken | leaving
  deriving DecidableEq, Repr

/-- Exit passages (chapter 03). -/
inductive ExitPass where
  | none | spanning | passed
  deriving DecidableEq, Repr

/-- The upstream port and serial under which a rack was taken (chapter 03). -/
structure EntryRef where
  port : UpPort
  serial : Serial
  deriving DecidableEq, Repr

/-- A rack record (chapter 03; `takenAt` and `whereSent` are the exit side's, R83). -/
structure Rec where
  id : Nat                             -- the model's own name for the record
  number : RackNo
  cls : RackClass
  origin : Station
  steeredBy : Station
  hop : Fin 256
  flags : Flags
  localFlags : Flags := {}             -- R103, those set on this segment since creation
  front : Count
  length : Option Nat := none          -- counts
  residence : Nat := 0                 -- R46
  state : RecState
  entryOpen : Bool                     -- entry passage OPEN
  exitPass : ExitPass := .none
  entry : Option EntryRef := none
  exitPort : Option DownPort := none
  exitSerial : Option Serial := none
  answered : Bool := false             -- offer answer, meaningful in OFFERED (R39)
  landing : Option LandAnswer := none  -- R39
  takenAt : Option Count := none       -- R83, R88
  whereSent : Bool := false            -- R83, R92
  deriving DecidableEq, Repr

/-! ### Drive unit -/

/-- Span words (R69). -/
inductive SpanWord where
  | free | stalled
  deriving DecidableEq, Repr

/-- The drive unit (R82). -/
structure Drive where
  belt : BeltState := .hold
  level : Nat := 0
  resume : Nat := 0
  holdFrom : Option BeltState := none  -- R65, the state the HOLD was entered from
  holdTicks : Nat := 0                 -- R65, stops at 50
  spinLeft : Option Nat := none        -- R66
  spinFollows : Bool := false          -- R66, R68: the wanted motion has asked for motion in this SPIN-UP
  winEdges : Int := 0                  -- R70
  winLeft : Option Nat := none         -- R70, ticks left in the window
  history : List Nat := []             -- R70, newest last
  m16 : Nat := 0                       -- R71
  vmeas : Fin 1000 := 0                -- R71
  lock : LockState := .unlocked        -- R76, R77
  inBand : Nat := 0                    -- R77
  outBand : Nat := 0                   -- R77
  satHigh : Nat := 0                   -- R75
  satLow : Nat := 0                    -- R75
  unsteady : Nat := 0                  -- R79
  span0 : SpanWord := .free            -- R69
  span1 : SpanWord := .free            -- R69
  t16 : Nat := 0                       -- R73, the target last computed
  deriving DecidableEq, Repr

/-! ### Hand-off engine -/

/-- An entry of the lost list (R83). -/
structure LostEntry where
  number : RackNo
  serial : Serial
  port : DownPort
  deriving DecidableEq, Repr

/-- The exit side (R83; patience R121). -/
structure ExitSide where
  serial0 : Serial := 0
  serial1 : Serial := 0
  sendCount : Nat := 0
  resend : Option Nat := none
  lost : List LostEntry := []
  plainLoss : Bool := false
  patience : Option Nat := none
  deriving DecidableEq, Repr

/-- A route with its three marks (R114, R137). -/
structure Route where
  port : DownPort
  alternate : Bool
  demand : Bool
  deriving DecidableEq, Repr

/-- A landing slot that is not FREE (R95): RESERVED, or LANDING for a record. -/
structure Slot where
  landing : Option Nat           -- none: RESERVED; some id: LANDING for that record
  port : UpPort
  serial : Serial
  image : Image
  takenAt : Count
  route : Option Route           -- R114, the slot route at a DIVERT
  deriving DecidableEq, Repr

/-- The two landing slots' names. -/
inductive SlotName where
  | a | b
  deriving DecidableEq, Repr

/-- A waiting-offer record that is NOTED (R95), with the noted route at a DIVERT (R114). -/
structure Noted where
  serial : Serial
  image : Image
  route : Option Route
  deriving DecidableEq, Repr

/-- An entry of a landing log (R95). -/
structure LandLog where
  serial : Serial
  number : RackNo
  status : LandStatus
  deriving DecidableEq, Repr

/-- The entry side (R95). A slot or waiting-offer record that is none is FREE or NONE. -/
structure EntrySide where
  slotA : Option Slot := none
  slotB : Option Slot := none
  newest : SlotName := .a        -- which of two held slots was reserved later
  noted0 : Option Noted := none
  noted1 : Option Noted := none
  log0 : List LandLog := []
  log1 : List LandLog := []
  stall0 : Bool := false
  stall1 : Bool := false
  lastGranted : UpPort := .u1    -- R110
  deriving DecidableEq, Repr

/-! ### Gate, routes, bay, idle logic -/

/-- Gate positions (chapter 06). -/
inductive GatePos where
  | straight | branch | moving
  deriving DecidableEq, Repr

/-- The gate unit (R114, R115). STRAIGHT is the setting for D0 and BRANCH for D1. -/
structure Gate where
  pos : GatePos := .straight
  commanded : DownPort := .d0
  settle : Option Nat := none
  held : Option DownPort := none
  rackRoute : Option Route := none
  deriving DecidableEq, Repr

/-- An entry of the heard-want table (R135). -/
structure HeardWant where
  station : Station
  want : Fin 16
  heardAt : Tick32
  fresh : Bool
  deriving DecidableEq, Repr

/-- An entry of a steered list (R135). -/
structure Steered where
  number : RackNo
  station : Station
  sentAt : Tick32
  deriving DecidableEq, Repr

/-- The route unit (R135). -/
structure RouteUnit where
  wants : List HeardWant := []
  steered0 : List Steered := []
  steered1 : List Steered := []
  lastChoice : DownPort := .d1
  deriving DecidableEq, Repr

/-- Lamp states (R134, R183). -/
inductive LampState where
  | off | steady | flash
  deriving DecidableEq, Repr

/-- A lamp: its state, the pin level, and the ticks left in a flash phase (R134, R183). -/
structure Lamp where
  st : LampState := .off
  high : Bool := false
  left : Option Nat := none
  deriving DecidableEq, Repr

/-- A key (R123, R124): its recognised state (none before the first run of samples), and the run of
samples that read `cand`. -/
structure KeySt where
  pressed : Option Bool := none
  cand : Bool := false
  run : Nat := 0
  deriving DecidableEq, Repr

/-- A press of the ACK key that goes on (R181): its time in ticks, and which holds have acted. -/
structure AckHold where
  ticks : Nat
  clearDone : Bool
  flushDone : Bool
  deriving DecidableEq, Repr

/-- The bay unit (R123). -/
structure Bay where
  selected : Option RackClass := none
  released : Bool := false
  want : Nat := 0
  wantTimer : Option Nat := none
  lamp : Lamp := {}
  sendKey : KeySt := {}
  emptyKey : KeySt := {}
  ackKey : KeySt := {}
  classKeys : List KeySt := List.replicate 16 {}
  ackHold : Option AckHold := none
  deriving DecidableEq, Repr

/-- Idle phases (chapter 09). -/
inductive Phase where
  | awake | timing | asking | parked
  deriving DecidableEq, Repr

/-- Reply marks (R149). -/
inductive ReplyMark where
  | none | allow | deny
  deriving DecidableEq, Repr

/-- The idle logic (R149). -/
structure Idle where
  phase : Phase := .awake
  park : Option Nat := none
  reply : Option Nat := none
  poll : Option Nat := none
  reply0 : ReplyMark := .none
  reply1 : ReplyMark := .none
  wakePending : Bool := false
  deriving DecidableEq, Repr

/-! ### Line interface and attention unit -/

/-- A frame to be sent: TO and payload; FROM is this station's number (R161). -/
structure Frame where
  dst : Station
  payload : Payload
  deriving DecidableEq, Repr

/-- The send register (R162). `sending` is the ZDE pin. -/
structure SendReg where
  frame : Frame
  attempts : Nat
  backoff : Nat
  sending : Bool
  deriving DecidableEq, Repr

/-- A neighbour record (R171). -/
structure Neigh where
  station : Station
  lastHeard : Tick32
  heard : Bool
  go : Option (Fin 1000)
  belt : Option BeltState
  deriving DecidableEq, Repr

/-- The line interface (R162, R164, R170, R171, R173). -/
structure Line where
  queue : List Frame := []
  reg : Option SendReg := none
  tick : Tick32 := 0
  statusTimer : Option Nat := none
  u0 : Option Neigh := none
  u1 : Option Neigh := none
  d0 : Option Neigh := none
  d1 : Option Neigh := none
  deriving DecidableEq, Repr

/-- Cause states (R174). -/
inductive CauseState where
  | absent | pending | pendingAck
  deriving DecidableEq, Repr

/-- A cause entry (R174). -/
structure CauseEntry where
  st : CauseState := .absent
  repeats : Fin 256 := 0
  detail : BitVec 16 := 0
  present : Bool := false      -- condition-present mark, for standing causes
  deriving DecidableEq, Repr

/-- The eighteen cause entries (R174). -/
structure Causes where
  estop : CauseEntry := {}
  beltOverload : CauseEntry := {}
  beltOverrun : CauseEntry := {}
  exitJam : CauseEntry := {}
  entryJam : CauseEntry := {}
  eyeStuck : CauseEntry := {}
  lostRack : CauseEntry := {}
  expectedMissing : CauseEntry := {}
  strayRack : CauseEntry := {}
  tagMismatch : CauseEntry := {}
  neighbourSilent : CauseEntry := {}
  crowding : CauseEntry := {}
  routeLoop : CauseEntry := {}
  misroute : CauseEntry := {}
  circling : CauseEntry := {}
  lineOverrun : CauseEntry := {}
  beltUnsteady : CauseEntry := {}
  profileFault : CauseEntry := {}
  deriving DecidableEq, Repr

/-- The attention unit (R174, R176, R182, R183). -/
structure Attention where
  causes : Causes := {}
  level : Fin 4 := 0
  lamp : Lamp := {}
  estopHigh : Bool := true
  estopRun : Nat := 0
  deriving DecidableEq, Repr

/-! ### What a forward edge finds -/

/-- A test of belt travel that a forward edge makes (R10): a check eye's awaited record (R27), a blocked ENTRY
or EXIT (R29), a watched eye's unaccounted blocking (R30), a record past the exit (R54), a record that awaits
its landing answer (R92, R93), a RESERVED slot (R107). -/
inductive BeltTest where
  | missed (e : Eye) (id : Nat)
  | jam (e : Eye)
  | stuck (e : Eye)
  | vanish (id : Nat)
  | whereSent (id : Nat)
  | transfer (id : Nat)
  | arrival (n : SlotName)
  deriving DecidableEq, Repr

/-! ### The machine -/

/-- The state of the C420, and the commands that wait. -/
structure State where
  boot : Boot := {}
  cu : CountUnit := {}
  marks : MarkGroup := {}
  eyes : Eyes := {}
  tag : TagPort := {}
  track : List Rec := []
  nextId : Nat := 0
  dr : Drive := {}
  ex : ExitSide := {}
  en : EntrySide := {}
  gate : Gate := {}
  rt : RouteUnit := {}
  bay : Bay := {}
  idle : Idle := {}
  line : Line := {}
  att : Attention := {}
  found : List BeltTest := []    -- R10 (log 31): what the last edge's tests found, still untaken
  pending : List Instr := []
  deriving DecidableEq, Repr

/-- The machine as power-on reset leaves it, RESET still held low (R184): every block at its power-on
values, the values no rule states as log 4 and logs 6 to 9 name them, and no command waiting. -/
def State.reset : State := {}

end Sys2Proof.Machine
end

