-- ==== Sys2Proof/Machine/Frames.lean ====
section
/-! DEFINITION. Frames as characters on the zone line: kind codes, classes and payload layouts
(frame kinds tables), the CRC and the order of bytes (R161), the assembly of a received run of
characters (R167) and the tests of its bytes (R168). -/

namespace Sys2Proof.Machine

/-- The kind codes (frame kinds table). -/
def Payload.kind : Payload → Nat
  | .offer _ _ _ => 0x20
  | .take _ => 0x21
  | .wait _ => 0x22
  | .refuse _ _ => 0x23
  | .withdraw _ => 0x24
  | .landed _ _ _ => 0x25
  | .whereIs _ => 0x26
  | .notSeen _ => 0x27
  | .stall => 0x30
  | .go _ => 0x31
  | .dozeAsk => 0x32
  | .dozeAllow => 0x33
  | .dozeDeny => 0x34
  | .want _ => 0x40
  | .rackIn _ _ => 0x41
  | .status _ => 0x50
  | .attention _ => 0x51
  | .ask => 0x52
  | .ack => 0x53
  | .clear => 0x54
  | .flush => 0x55

/-- Whether a frame is PROMPT: every kind but WANT, STATUS and the ATTENTION broadcast (R164). -/
def Payload.prompt : Payload → Bool
  | .want _ => false
  | .status _ => false
  | .attention i => i.reply
  | _ => true

def Payload.isStatus : Payload → Bool
  | .status _ => true
  | _ => false

def Payload.isWant : Payload → Bool
  | .want _ => true
  | _ => false

/-- The eight kinds that go to the hand-off engine and are wake causes (R157, R169). -/
def Payload.handOff : Payload → Bool
  | .offer _ _ _ => true
  | .take _ => true
  | .wait _ => true
  | .refuse _ _ => true
  | .withdraw _ => true
  | .landed _ _ _ => true
  | .whereIs _ => true
  | .notSeen _ => true
  | _ => false

/-! ### Coded fields -/

def Role.code : Role → Nat
  | .load => 0
  | .feed => 1
  | .merge => 2
  | .tunnel => 3
  | .divert => 4
  | .unload => 5

def Role.ofCode : Nat → Option Role
  | 0 => some .load
  | 1 => some .feed
  | 2 => some .merge
  | 3 => some .tunnel
  | 4 => some .divert
  | 5 => some .unload
  | _ => none

/-- Station mode codes; LOADING is never sent, and 0 stands for it here. -/
def Mode.code : Mode → Nat
  | .loading => 0
  | .scanning => 1
  | .active => 2
  | .unset => 3

def Mode.ofCode : Nat → Option Mode
  | 1 => some .scanning
  | 2 => some .active
  | 3 => some .unset
  | _ => none

def BeltState.code : BeltState → Nat
  | .hold => 0
  | .spinUp => 1
  | .run => 2
  | .creep => 3
  | .park => 4

def BeltState.ofCode : Nat → Option BeltState
  | 0 => some .hold
  | 1 => some .spinUp
  | 2 => some .run
  | 3 => some .creep
  | 4 => some .park
  | _ => none

def LockState.code : LockState → Nat
  | .unlocked => 0
  | .locked => 1
  | .failSlow => 2
  | .failFast => 3

def LockState.ofCode : Nat → Option LockState
  | 0 => some .unlocked
  | 1 => some .locked
  | 2 => some .failSlow
  | 3 => some .failFast
  | _ => none

def RefuseReason.code : RefuseReason → Nat
  | .restricted => 1
  | .unset => 2
  | .wrongPort => 3

def RefuseReason.ofCode : Nat → Option RefuseReason
  | 1 => some .restricted
  | 2 => some .unset
  | 3 => some .wrongPort
  | _ => none

def LandStatus.code : LandStatus → Nat
  | .ok => 0
  | .noread => 1
  | .mismatch => 2
  | .skipped => 3

def LandStatus.ofCode : Nat → Option LandStatus
  | 0 => some .ok
  | 1 => some .noread
  | 2 => some .mismatch
  | 3 => some .skipped
  | _ => none

def LandAnswer.status : LandAnswer → LandStatus
  | .ok => .ok
  | .noread => .noread
  | .mismatch => .mismatch

/-- The landing answer a LANDED status gives; SKIPPED gives none (R90, R91). -/
def LandStatus.answer : LandStatus → Option LandAnswer
  | .ok => some .ok
  | .noread => some .noread
  | .mismatch => some .mismatch
  | .skipped => none

/-- A cause's order number, which is its code (chapter 11). -/
def Cause.code : Cause → Nat
  | .estop => 0
  | .beltOverload => 1
  | .beltOverrun => 2
  | .exitJam => 3
  | .entryJam => 4
  | .eyeStuck => 5
  | .lostRack => 6
  | .expectedMissing => 7
  | .strayRack => 8
  | .tagMismatch => 9
  | .neighbourSilent => 10
  | .crowding => 11
  | .routeLoop => 12
  | .misroute => 13
  | .circling => 14
  | .lineOverrun => 15
  | .beltUnsteady => 16
  | .profileFault => 17

/-- The causes in rank order of equal severity (R177). -/
def Cause.all : List Cause :=
  [.estop, .beltOverload, .beltOverrun, .exitJam, .entryJam, .eyeStuck, .lostRack,
   .expectedMissing, .strayRack, .tagMismatch, .neighbourSilent, .crowding, .routeLoop,
   .misroute, .circling, .lineOverrun, .beltUnsteady, .profileFault]

def Cause.ofCode (n : Nat) : Option Cause := Cause.all[n]?

/-- An eye as a cause detail (chapter 11, note 1). -/
def Eye.code : Eye → Nat
  | .entry => 0
  | .exit => 1
  | .checkA => 2
  | .checkB => 3
  | .gate => 4
  | .bay => 5

/-- The flag field of OFFER: bit 0 STRAY to bit 8 MISROUTED. -/
def Flags.toNat (f : Flags) : Nat :=
  f.stray.toNat + 2 * f.relabelled.toNat + 4 * f.duplicate.toNat + 8 * f.crowded.toNat
    + 16 * f.slipped.toNat + 32 * f.placed.toNat + 64 * f.altered.toNat + 128 * f.start.toNat
    + 256 * f.misrouted.toNat

/-- The flag set of a flag field; bits above MISROUTED must be 0 (R168). -/
def Flags.ofNat? (n : Nat) : Option Flags :=
  if n < 512 then
    some { stray := n.testBit 0, relabelled := n.testBit 1, duplicate := n.testBit 2,
           crowded := n.testBit 3, slipped := n.testBit 4, placed := n.testBit 5,
           altered := n.testBit 6, start := n.testBit 7, misrouted := n.testBit 8 }
  else none

/-- The union of two flag sets. -/
def Flags.union (f g : Flags) : Flags :=
  { stray := f.stray || g.stray, relabelled := f.relabelled || g.relabelled,
    duplicate := f.duplicate || g.duplicate, crowded := f.crowded || g.crowded,
    slipped := f.slipped || g.slipped, placed := f.placed || g.placed,
    altered := f.altered || g.altered, start := f.start || g.start,
    misrouted := f.misrouted || g.misrouted }

/-! ### Bytes of a frame -/

/-- A two-byte field, high byte first (R161). -/
def twoBytes (n : Nat) : List Nat := [n / 256, n % 256]

/-- The payload bytes (frame kinds table, OFFER layout). -/
def Payload.bytes : Payload → List Nat
  | .offer s i len =>
      [s.val] ++ twoBytes i.number.val ++ [i.cls.val, i.origin.val, i.steeredBy.val, i.hop.val]
        ++ twoBytes (Flags.toNat i.flags) ++ twoBytes len.val
  | .take s => [s.val]
  | .wait s => [s.val]
  | .refuse s r => [s.val, RefuseReason.code r]
  | .withdraw s => [s.val]
  | .landed s n st => [s.val] ++ twoBytes n.val ++ [LandStatus.code st]
  | .whereIs s => [s.val]
  | .notSeen s => [s.val]
  | .stall => []
  | .go v => twoBytes v.val
  | .dozeAsk => []
  | .dozeAllow => []
  | .dozeDeny => []
  | .want n => [n.val]
  | .rackIn n st => twoBytes n.val ++ [st.val]
  | .status i =>
      [(i.role.map Role.code).getD 7, Mode.code i.mode, BeltState.code i.belt,
       LockState.code i.lock, i.level.val, i.trackCount.val] ++ twoBytes i.speed.val
        ++ [i.pendingCount.val]
  | .attention i =>
      [(i.cause.map Cause.code).getD 255, i.severity.val] ++ twoBytes i.detail.toNat
        ++ [i.repeats.val, i.reply.toNat, i.pendingCount.val]
  | .ask => []
  | .ack => []
  | .clear => []
  | .flush => []

/-- One bit step of the CRC register: shift left, and reduce by x^16 + x^12 + x^5 + 1 (R161). -/
def crcBit (c : BitVec 16) : BitVec 16 :=
  if c.getLsbD 15 then (c <<< 1) ^^^ 0x1021 else c <<< 1

/-- One byte into the CRC register, most significant bit first (R161). -/
def crcByte (c : BitVec 16) (b : Nat) : BitVec 16 :=
  let c := c ^^^ (BitVec.ofNat 16 b <<< 8)
  crcBit (crcBit (crcBit (crcBit (crcBit (crcBit (crcBit (crcBit c)))))))

/-- The CRC of a run of bytes: the register starts at 0xFFFF and is not inverted (R161). -/
def crc (bs : List Nat) : BitVec 16 := bs.foldl crcByte 0xFFFF

/-- The bytes from KIND to the last payload byte. -/
def frameBody (dst src : Station) (p : Payload) : List Nat :=
  [Payload.kind p, dst.val, src.val, (Payload.bytes p).length] ++ Payload.bytes p

/-- A whole frame as it stands on the line: START, body, CHECK high byte first (R161). -/
def frameBytes (dst src : Station) (p : Payload) : List Nat :=
  let body := frameBody dst src p
  [0xA5] ++ body ++ twoBytes (crc body).toNat

/-- A character on the line, bit by bit (R161): a start bit at the low level, eight data bits with the least
significant first, and a stop bit at the high level. -/
def charBits (b : Nat) : List Bool := false :: (List.range 8).map b.testBit ++ [true]

/-! ### From bytes to frames -/

/-- A field within its range, or none (R168). -/
def inRange (bound n : Nat) : Option (Fin bound) := if h : n < bound then some ⟨n, h⟩ else none

/-- The payload a kind code and payload bytes spell, each field in its range and LEN the fixed length
of the kind (R168). -/
def Payload.parse (kind : Nat) (bs : List Nat) : Option Payload :=
  match kind, bs with
  | 0x20, [s, nh, nl, c, o, st, hop, fh, fl, lh, ll] => do
      let s ← inRange 16 s
      let n ← inRange 4096 (nh * 256 + nl)
      let c ← inRange 16 c
      let o ← inRange 64 o
      let st ← inRange 64 st
      let hop ← inRange 256 hop
      let f ← Flags.ofNat? (fh * 256 + fl)
      let len ← inRange 65536 (lh * 256 + ll)
      pure (.offer s ⟨n, c, o, st, hop, f⟩ len)
  | 0x21, [s] => do pure (.take (← inRange 16 s))
  | 0x22, [s] => do pure (.wait (← inRange 16 s))
  | 0x23, [s, r] => do pure (.refuse (← inRange 16 s) (← RefuseReason.ofCode r))
  | 0x24, [s] => do pure (.withdraw (← inRange 16 s))
  | 0x25, [s, nh, nl, st] => do
      pure (.landed (← inRange 16 s) (← inRange 4096 (nh * 256 + nl)) (← LandStatus.ofCode st))
  | 0x26, [s] => do pure (.whereIs (← inRange 16 s))
  | 0x27, [s] => do pure (.notSeen (← inRange 16 s))
  | 0x30, [] => some .stall
  | 0x31, [h, l] => do pure (.go (← inRange 1000 (h * 256 + l)))
  | 0x32, [] => some .dozeAsk
  | 0x33, [] => some .dozeAllow
  | 0x34, [] => some .dozeDeny
  | 0x40, [n] => do pure (.want (← inRange 16 n))
  | 0x41, [h, l, st] => do pure (.rackIn (← inRange 4096 (h * 256 + l)) (← inRange 64 st))
  | 0x50, [ro, mo, be, lo, le, tc, sh, sl, pc] => do
      let role ← if ro = 7 then some none else (Role.ofCode ro).map some
      pure (.status
        { role := role, mode := ← Mode.ofCode mo, belt := ← BeltState.ofCode be,
          lock := ← LockState.ofCode lo, level := ← inRange 4 le, trackCount := ← inRange 13 tc,
          speed := ← inRange 1000 (sh * 256 + sl), pendingCount := ← inRange 19 pc })
  | 0x51, [ca, se, dh, dl, re, rp, pc] => do
      let cause ← if ca = 255 then some none else (Cause.ofCode ca).map some
      let reply ← inRange 2 rp
      pure (.attention
        { cause := cause, severity := ← inRange 4 se, detail := BitVec.ofNat 16 (dh * 256 + dl),
          repeats := ← inRange 256 re, reply := reply == 1, pendingCount := ← inRange 19 pc })
  | 0x52, [] => some .ask
  | 0x53, [] => some .ack
  | 0x54, [] => some .clear
  | 0x55, [] => some .flush
  | _, _ => none

/-- A run of characters between two quiet intervals, assembled into a frame (R167) and tested (R168).
None: the run is no frame, the frame is broken, or a test of its bytes fails. The test of FROM
against this station's own number is the receiver's. -/
def parseRun (chars : List RxChar) : Option RxFrame :=
  match chars with
  | start :: kind :: dst :: src :: len :: rest =>
      let n := len.byte.toNat
      let used := rest.take (n + 2)
      if start.byte = 0xA5 ∧ n ≤ 24 ∧ used.length = n + 2
          ∧ (start :: kind :: dst :: src :: len :: used).all (·.stopOk) then
        let payload := (used.take n).map (·.byte.toNat)
        let body := [kind.byte.toNat, dst.byte.toNat, src.byte.toNat, n] ++ payload
        let check := (used.drop n).map (·.byte.toNat)
        if check = twoBytes (crc body).toNat then do
          let d ← inRange 64 dst.byte.toNat
          let s ← inRange 64 src.byte.toNat
          if s = 0 then none
          else
            let p ← Payload.parse kind.byte.toNat payload
            pure ⟨⟨d, s⟩, p⟩
        else none
      else none
  | _ => none

end Sys2Proof.Machine
end

