-- ==== Sys2Proof/Machine/Access.lean ====
section
/-! DEFINITION. Reading and writing the parts of State that come in families: eye channels, cause
entries, neighbour records, and the fields kept per port, branch or slot. -/

namespace Sys2Proof.Machine

/-- The channel of an eye. -/
def State.chan (s : State) : Eye → EyeChan
  | .entry => s.eyes.entry
  | .exit => s.eyes.exit
  | .checkA => s.eyes.checkA
  | .checkB => s.eyes.checkB
  | .gate => s.eyes.gate
  | .bay => s.eyes.bay

/-- Replace the channel of an eye. -/
def State.setChan (s : State) (e : Eye) (c : EyeChan) : State :=
  match e with
  | .entry => { s with eyes := { s.eyes with entry := c } }
  | .exit => { s with eyes := { s.eyes with exit := c } }
  | .checkA => { s with eyes := { s.eyes with checkA := c } }
  | .checkB => { s with eyes := { s.eyes with checkB := c } }
  | .gate => { s with eyes := { s.eyes with gate := c } }
  | .bay => { s with eyes := { s.eyes with bay := c } }

/-- Change the channel of an eye. -/
def State.updChan (s : State) (e : Eye) (f : EyeChan → EyeChan) : State := s.setChan e (f (s.chan e))

/-- Change every channel. -/
def State.updChans (s : State) (f : EyeChan → EyeChan) : State :=
  { s with eyes := { s.eyes with
      entry := f s.eyes.entry, exit := f s.eyes.exit, checkA := f s.eyes.checkA,
      checkB := f s.eyes.checkB, gate := f s.eyes.gate, bay := f s.eyes.bay } }

/-- All six eyes, in channel order. -/
def Eye.all : List Eye := [.entry, .exit, .checkA, .checkB, .gate, .bay]

/-- A cause's entry. -/
def Causes.get (c : Causes) : Cause → CauseEntry
  | .estop => c.estop
  | .beltOverload => c.beltOverload
  | .beltOverrun => c.beltOverrun
  | .exitJam => c.exitJam
  | .entryJam => c.entryJam
  | .eyeStuck => c.eyeStuck
  | .lostRack => c.lostRack
  | .expectedMissing => c.expectedMissing
  | .strayRack => c.strayRack
  | .tagMismatch => c.tagMismatch
  | .neighbourSilent => c.neighbourSilent
  | .crowding => c.crowding
  | .routeLoop => c.routeLoop
  | .misroute => c.misroute
  | .circling => c.circling
  | .lineOverrun => c.lineOverrun
  | .beltUnsteady => c.beltUnsteady
  | .profileFault => c.profileFault

/-- Replace a cause's entry. -/
def Causes.set (c : Causes) (k : Cause) (e : CauseEntry) : Causes :=
  match k with
  | .estop => { c with estop := e }
  | .beltOverload => { c with beltOverload := e }
  | .beltOverrun => { c with beltOverrun := e }
  | .exitJam => { c with exitJam := e }
  | .entryJam => { c with entryJam := e }
  | .eyeStuck => { c with eyeStuck := e }
  | .lostRack => { c with lostRack := e }
  | .expectedMissing => { c with expectedMissing := e }
  | .strayRack => { c with strayRack := e }
  | .tagMismatch => { c with tagMismatch := e }
  | .neighbourSilent => { c with neighbourSilent := e }
  | .crowding => { c with crowding := e }
  | .routeLoop => { c with routeLoop := e }
  | .misroute => { c with misroute := e }
  | .circling => { c with circling := e }
  | .lineOverrun => { c with lineOverrun := e }
  | .beltUnsteady => { c with beltUnsteady := e }
  | .profileFault => { c with profileFault := e }

/-- A cause's entry in the state. -/
def State.cause (s : State) (c : Cause) : CauseEntry := s.att.causes.get c

/-- Replace a cause's entry in the state. -/
def State.setCause (s : State) (c : Cause) (e : CauseEntry) : State :=
  { s with att := { s.att with causes := s.att.causes.set c e } }

/-- A port's neighbour record (R171). -/
def State.neigh (s : State) : Port → Option Neigh
  | .u0 => s.line.u0
  | .u1 => s.line.u1
  | .d0 => s.line.d0
  | .d1 => s.line.d1

/-- Replace a port's neighbour record. -/
def State.setNeigh (s : State) (p : Port) (n : Option Neigh) : State :=
  match p with
  | .u0 => { s with line := { s.line with u0 := n } }
  | .u1 => { s with line := { s.line with u1 := n } }
  | .d0 => { s with line := { s.line with d0 := n } }
  | .d1 => { s with line := { s.line with d1 := n } }

/-- Change every neighbour record that exists. -/
def State.updNeighs (s : State) (f : Neigh → Neigh) : State :=
  { s with line := { s.line with
      u0 := s.line.u0.map f, u1 := s.line.u1.map f, d0 := s.line.d0.map f, d1 := s.line.d1.map f } }

def UpPort.port : UpPort → Port
  | .u0 => .u0
  | .u1 => .u1

def DownPort.port : DownPort → Port
  | .d0 => .d0
  | .d1 => .d1

/-- The other upstream port. -/
def UpPort.other : UpPort → UpPort
  | .u0 => .u1
  | .u1 => .u0

/-- The other downstream port, or branch. -/
def DownPort.other : DownPort → DownPort
  | .d0 => .d1
  | .d1 => .d0

/-- The station of an upstream port's neighbour; 0 is unconnected. -/
def State.upStation (s : State) : UpPort → Station
  | .u0 => s.boot.prof.u0
  | .u1 => s.boot.prof.u1

/-- The station of a downstream port's neighbour; 0 is unconnected. -/
def State.downStation (s : State) : DownPort → Station
  | .d0 => s.boot.prof.d0
  | .d1 => s.boot.prof.d1

/-- The upstream port whose neighbour a station is, if any. -/
def State.upPortOf (s : State) (st : Station) : Option UpPort :=
  if s.boot.loaded = false ∨ st = 0 then none
  else if s.boot.prof.u0 = st then some .u0
  else if s.boot.prof.u1 = st then some .u1
  else none

/-- The downstream port whose neighbour a station is, if any. -/
def State.downPortOf (s : State) (st : Station) : Option DownPort :=
  if s.boot.loaded = false ∨ st = 0 then none
  else if s.boot.prof.d0 = st then some .d0
  else if s.boot.prof.d1 = st then some .d1
  else none

/-- The next serial of a port (R83). -/
def State.nextSerial (s : State) : DownPort → Serial
  | .d0 => s.ex.serial0
  | .d1 => s.ex.serial1

/-- Advance the next serial of a port, 15 followed by 0 (R84). -/
def State.bumpSerial (s : State) (p : DownPort) : State :=
  match p with
  | .d0 => { s with ex := { s.ex with serial0 := s.ex.serial0 + 1 } }
  | .d1 => { s with ex := { s.ex with serial1 := s.ex.serial1 + 1 } }

/-- A port's span word (R69). -/
def State.span (s : State) : DownPort → SpanWord
  | .d0 => s.dr.span0
  | .d1 => s.dr.span1

def State.setSpan (s : State) (p : DownPort) (w : SpanWord) : State :=
  match p with
  | .d0 => { s with dr := { s.dr with span0 := w } }
  | .d1 => { s with dr := { s.dr with span1 := w } }

/-- A landing slot; none is FREE. -/
def State.slot (s : State) : SlotName → Option Slot
  | .a => s.en.slotA
  | .b => s.en.slotB

def State.setSlot (s : State) (n : SlotName) (x : Option Slot) : State :=
  match n with
  | .a => { s with en := { s.en with slotA := x } }
  | .b => { s with en := { s.en with slotB := x } }

/-- A port's waiting-offer record; none is NONE. -/
def State.noted (s : State) : UpPort → Option Noted
  | .u0 => s.en.noted0
  | .u1 => s.en.noted1

def State.setNoted (s : State) (p : UpPort) (x : Option Noted) : State :=
  match p with
  | .u0 => { s with en := { s.en with noted0 := x } }
  | .u1 => { s with en := { s.en with noted1 := x } }

/-- A port's landing log, oldest first. -/
def State.landLog (s : State) : UpPort → List LandLog
  | .u0 => s.en.log0
  | .u1 => s.en.log1

def State.setLandLog (s : State) (p : UpPort) (x : List LandLog) : State :=
  match p with
  | .u0 => { s with en := { s.en with log0 := x } }
  | .u1 => { s with en := { s.en with log1 := x } }

/-- A port's stall mark. -/
def State.stallMark (s : State) : UpPort → Bool
  | .u0 => s.en.stall0
  | .u1 => s.en.stall1

def State.setStallMark (s : State) (p : UpPort) (x : Bool) : State :=
  match p with
  | .u0 => { s with en := { s.en with stall0 := x } }
  | .u1 => { s with en := { s.en with stall1 := x } }

/-- A branch's steered list, oldest first. -/
def State.steered (s : State) : DownPort → List Steered
  | .d0 => s.rt.steered0
  | .d1 => s.rt.steered1

def State.setSteered (s : State) (b : DownPort) (x : List Steered) : State :=
  match b with
  | .d0 => { s with rt := { s.rt with steered0 := x } }
  | .d1 => { s with rt := { s.rt with steered1 := x } }

/-- A branch's loader set. -/
def State.loaders (s : State) : DownPort → List Station
  | .d0 => s.boot.prof.loaders0
  | .d1 => s.boot.prof.loaders1

/-- A port's reply mark (R149). -/
def State.replyMark (s : State) : UpPort → ReplyMark
  | .u0 => s.idle.reply0
  | .u1 => s.idle.reply1

def State.setReply (s : State) (p : UpPort) (m : ReplyMark) : State :=
  match p with
  | .u0 => { s with idle := { s.idle with reply0 := m } }
  | .u1 => { s with idle := { s.idle with reply1 := m } }

/-- Change the record of a given name. -/
def State.updRec (s : State) (id : Nat) (f : Rec → Rec) : State :=
  { s with track := s.track.map fun r => if r.id = id then f r else r }

/-- The record of a given name. -/
def State.recOf (s : State) (id : Nat) : Option Rec := s.track.find? (fun r => r.id == id)

end Sys2Proof.Machine
end

