-- ==== Sys2Proof/Machine/Distance.lean ====
section
/-! DEFINITION. Forward distance and its readings (R9, R10), and the conversions between millimetres
and counts (R5, R7, R8). -/

namespace Sys2Proof.Machine

/-- The forward distance d(a, b) = (b - a) mod 65,536 (R9). -/
def dist (a b : Count) : Nat := (b - a).toNat

/-- d(a, b) read as "reached" (R9): b is at or ahead of a. -/
def reached (a b : Count) : Bool := dist a b < 32768

/-- d(a, b) read as a signed slip (R9). -/
def slip (a b : Count) : Int :=
  if reached a b then (dist a b : Int) else (dist a b : Int) - 65536

/-- The travel from a captured count to the belt count c (R10): 0 where the distance reads "not yet". -/
def travel (a c : Count) : Nat := if reached a c then dist a c else 0

/-- A count moved by a number of counts, modulo 65,536. -/
def Count.plus (a : Count) (n : Nat) : Count := a + BitVec.ofNat 16 n

/-- A count moved back by a number of counts, modulo 65,536. -/
def Count.minus (a : Count) (n : Nat) : Count := a - BitVec.ofNat 16 n

/-- A count moved by a signed slip, modulo 65,536 (R26). -/
def Count.shift (a : Count) (s : Int) : Count := a + BitVec.ofInt 16 s

/-- clamp(x, a, b) (opening file, Conventions 4). -/
def clampNat (x lo hi : Nat) : Nat := max lo (min x hi)

/-- Millimetres to counts, halves rounded up (R5). -/
def mmToCounts (k mm : Nat) : Nat := (mm * k + 500) / 1000

/-- A travel offset "length less lead" in counts; a negative distance is taken as 0 (R6, R7). -/
def leadOffset (k length lead : Nat) : Nat := mmToCounts k (length - lead)

/-- A length in counts as millimetres for a frame, clamped to 1 to 65,535 (R8). -/
def countsToMm (k n : Nat) : Nat := clampNat ((n * 1000 + k / 2) / k) 1 65535

/-- The length field of an OFFER: 0 where the length is absent (R8). -/
def lengthField (k : Nat) (length : Option Nat) : Fin 65536 :=
  match length with
  | none => 0
  | some n => Fin.ofNat 65536 (countsToMm k n)

end Sys2Proof.Machine
end

