-- ==== Sys2Proof/Machine/Flags.lean ====
section
/-! DEFINITION. What the blocks read from one another's state without storing it: the head, the
wanted motion, the conditions of offers and of entry, the target speed, what is due. -/

namespace Sys2Proof.Machine

/-! ### Roles and eyes -/

/-- The profile has been read and its role is r. -/
def State.hasRole (s : State) (r : Role) : Bool := s.boot.loaded && s.boot.prof.role == r

/-- LOAD or UNLOAD: the roles with a bay. -/
def State.bayRole (s : State) : Bool := s.hasRole .load || s.hasRole .unload

/-- The profile position of an eye that can be absent. -/
def State.eyePos (s : State) : Eye → Nat
  | .entry => 0
  | .exit => s.boot.prof.length
  | .checkA => s.boot.prof.posCheckA
  | .checkB => s.boot.prof.posCheckB
  | .gate => s.boot.prof.posGate
  | .bay => s.boot.prof.posBay

/-- A channel is fitted: ENTRY and EXIT always, the others where their position is not 0 (R18). Before
the profile is read none is sampled (R24). -/
def State.fitted (s : State) (e : Eye) : Bool :=
  s.boot.loaded && (e == .entry || e == .exit || s.eyePos e != 0)

/-- An eye's offset in counts (R6). -/
def State.offset (s : State) : Eye → Nat
  | .entry => 0
  | .exit => s.boot.cts.exit
  | .checkA => s.boot.cts.checkA
  | .checkB => s.boot.cts.checkB
  | .gate => s.boot.cts.gate
  | .bay => s.boot.cts.bay

/-- A check eye: CHECK-A, CHECK-B, GATE, and BAY at roles other than LOAD and UNLOAD (chapter 02). -/
def State.isCheck (s : State) (e : Eye) : Bool :=
  s.fitted e && e != .entry && e != .exit && !(e == .bay && s.bayRole)

/-- The eyes R30 watches: each check eye, and BAY at LOAD and UNLOAD. -/
def State.watches (s : State) (e : Eye) : Bool := s.fitted e && e != .entry && e != .exit

/-- A channel state counts as blocked in BLOCKED and RETURNED (R19). -/
def EyeState.isBlocked : EyeState → Bool
  | .blocked => true
  | .returned => true
  | .clear => false
  | .receded => false

/-- A pending lead edge in the filter: the edge that R21 will deliver as a lead edge (R27, R54, R107). -/
def EyeChan.pendingLead (c : EyeChan) : Bool :=
  c.st == .clear && (match c.pend with
    | some p => !p.reverse
    | none => false)

/-- The raw input differs from the channel state (R156). -/
def EyeChan.differs (c : EyeChan) : Bool := c.raw != EyeState.isBlocked c.st

/-! ### Track -/

/-- The record has been released: TAKEN or LEAVING. -/
def Rec.handed (r : Rec) : Bool := r.state == .taken || r.state == .leaving

/-- The head: the front-most record that is neither TAKEN nor LEAVING (chapter 03). -/
def State.head (s : State) : Option Rec := s.track.find? (fun r => !r.handed)

/-- A record's travel (R10). -/
def State.travelOf (s : State) (r : Rec) : Nat := travel r.front s.cu.count

/-- A record's length for windows and jam distances: the rack maximum when absent (R29, R30). -/
def State.lengthOr (s : State) (r : Rec) : Nat := r.length.getD s.boot.cts.rackMax

/-- A record's predicted crossing of a point at an offset (R26, R49). -/
def Rec.crossing (r : Rec) (offset : Nat) : Count := Count.plus r.front offset

/-- A record is over an eye (R30). -/
def State.over (s : State) (e : Eye) (r : Rec) : Bool :=
  let t := s.travelOf r
  decide (s.offset e ≤ t + s.boot.cts.tol) &&
    decide (t ≤ s.offset e + s.lengthOr r + s.boot.cts.tol)

/-- Some record is over an eye. -/
def State.anyOver (s : State) (e : Eye) : Bool := s.track.any (s.over e)

/-- The station holds a TAKEN or LEAVING record with an exit port (R69, R72). -/
def State.handing (s : State) (p : DownPort) : Bool :=
  s.track.any fun r => r.handed && r.exitPort == some p

/-- The EXIT jam distance of a record (R29). -/
def State.jamOf (s : State) (r : Rec) : Nat := s.lengthOr r + s.boot.cts.jam

/-- The EXIT jam distance of a rack at the rack maximum (R29). -/
def State.jamOfMax (s : State) : Nat := s.boot.cts.rackMax + s.boot.cts.jam

/-! ### Gate -/

/-- The gate offset: the GATE eye's, or the exit offset with none fitted (R114). -/
def State.gateOffset (s : State) : Nat :=
  if s.boot.prof.posGate = 0 then s.boot.cts.exit else s.boot.cts.gate

/-- The gate is set and settled for a port (R116). -/
def Gate.setFor (g : Gate) (p : DownPort) : Bool :=
  match g.pos, p with
  | .straight, .d0 => true
  | .branch, .d1 => true
  | _, _ => false

/-- A record's front has reached the gate offset (R117). -/
def State.atGate (s : State) (r : Rec) : Bool := decide (s.gateOffset ≤ s.travelOf r)

/-- A record that is neither TAKEN nor LEAVING is in the gate: its travel has reached the gate offset and its
gate-clear mark is ARMED (R117). -/
def State.inGate (s : State) (r : Rec) : Bool :=
  s.atGate r && s.marks.owner == some r.id && s.marks.gateClear.st == .armed

/-- The gate law forbids a move (R117): a record is TAKEN or LEAVING; one that is neither is in the gate; or the
claimant is a record whose front is no longer short of the gate, for which no move may start even once its
gate-clear mark has FIRED. Any record of the track is the claimant (R116). -/
def State.gateHeldByLaw (s : State) : Bool :=
  s.track.any fun r => r.handed || s.inGate r || s.atGate r

/-- The claimant's route: the rack route of the record in the track, else the slot route, else the
noted route (R116). -/
def State.claimantRoute (s : State) : Option Route :=
  if s.track ≠ [] then s.gate.rackRoute
  else match s.en.slotA with
    | some x => x.route
    | none => match s.en.noted0 with
      | some n => n.route
      | none => none

/-- The gate unit asks for the belt to hold (R119). -/
def State.gateHoldRequest (s : State) : Bool :=
  s.hasRole .divert && s.track.any fun r =>
    !r.handed && !s.atGate r &&
      (match s.gate.rackRoute with
        | some rt => !s.gate.setFor rt.port
        | none => false)

/-! ### Wanted motion -/

inductive Wanted where
  | hold | creep | run
  deriving DecidableEq, Repr

/-- No landing slot is RESERVED or LANDING. -/
def State.noSlotHeld (s : State) : Bool := s.en.slotA.isNone && s.en.slotB.isNone

/-- The last case of R63: the track is empty and no slot is held. -/
def State.idleCase (s : State) : Bool := s.track.isEmpty && s.noSlotHeld

/-- The other cases of R63: a held HOLD. -/
def State.heldHold (s : State) : Bool :=
  s.boot.mode != .active
    || s.att.level == 3
    || s.dr.lock == .failSlow || s.dr.lock == .failFast
    || s.marks.stop.st == .fired
    || (match s.head with
        | some r => r.state == .atBay
        | none => false)
    || s.gateHoldRequest
    || (s.dr.span0 == .stalled && s.handing .d0)
    || (s.dr.span1 == .stalled && s.handing .d1)

/-- The wanted motion (R63, R64). -/
def State.wanted (s : State) : Wanted :=
  if s.heldHold || s.idleCase then .hold
  else if s.marks.approach.st == .fired then .creep
  else .run

/-- Idle HOLD (R150). -/
def State.idleHold (s : State) : Bool := s.dr.belt == .hold && s.idleCase && !s.heldHold

/-! ### Target speed -/

/-- The follow limit of a port on a speed (R72, 2). -/
def State.followLimit (s : State) (p : DownPort) (v : Nat) : Nat :=
  if s.boot.prof.follow && s.handing p then
    match s.neigh (DownPort.port p) with
    | some n => match n.go with
      | some g => min v (max 10 g.val)
      | none => v
    | none => v
  else v

/-- The target speed v in mm/s (R72). -/
def State.targetSpeed (s : State) : Nat :=
  let v :=
    if s.hasRole .tunnel && decide (s.boot.prof.minExposure > 0) then
      min s.boot.prof.target s.boot.ceiling
    else s.boot.prof.target
  s.followLimit .d1 (s.followLimit .d0 v)

/-- The target T16 in sixteenths of counts a window (R73). -/
def State.targetT16 (s : State) : Nat :=
  let t := (s.targetSpeed * s.boot.prof.k + 125) / 250
  if s.dr.belt = .creep then t / s.boot.prof.creepDiv else t

/-- The band B of a target (R77). -/
def band (t16 : Nat) : Nat := max 8 (t16 / 8)

/-! ### Offers -/

/-- "Exposure met" for a record (R80). -/
def State.exposureMet (s : State) (r : Rec) : Bool :=
  !(s.hasRole .tunnel && decide (s.boot.prof.minExposure > 0))
    || decide (s.boot.prof.minExposure * 100 ≤ r.residence)

/-- A head that must stop at the bay (chapter 07, table; R125). -/
def State.bayBound (s : State) (r : Rec) : Bool :=
  if s.hasRole .load then
    r.cls == classEmpty || (r.cls == classUnknown && (r.flags.placed || r.flags.start))
  else if s.hasRole .unload then r.cls != classEmpty
  else false

/-- The key condition of the exit side (R126): the head is not bay-bound, or the released mark is set; an AT-BAY
head needs the mark whatever its class has become. -/
def State.keyCondition (s : State) (r : Rec) : Bool :=
  !s.bayRole || s.bay.released || (!s.bayBound r && r.state != .atBay)

/-- The exit port of the head: D0, except the rack route at a DIVERT (R84, R120). -/
def State.exitPortOf (s : State) : DownPort :=
  if s.hasRole .divert then
    match s.gate.rackRoute with
    | some r => r.port
    | none => .d0
  else .d0

/-- The head, when all conditions of R84 for offering it hold. -/
def State.offerable (s : State) : Option Rec :=
  match s.head with
  | none => none
  | some r =>
    if s.boot.mode == .active
        && (r.state == .head || r.state == .entering || r.state == .atBay)
        && s.marks.owner == some r.id && s.marks.offer.st == .fired
        && s.att.level != 3
        && s.exposureMet r
        && s.keyCondition r
        && (!s.hasRole .divert || s.gate.setFor s.exitPortOf)
    then some r else none

/-! ### Entry -/

/-- The rear record's tail is at least the entry gap past ENTRY (R98). -/
def State.tailClear (s : State) : Bool :=
  match s.track.getLast? with
  | none => true
  | some r => match r.length with
    | some n => decide (n + s.boot.cts.entryGap ≤ s.travelOf r)
    | none => !r.entryOpen && decide (s.boot.cts.rackMax + s.boot.cts.entryGap ≤ s.travelOf r)

def Slot.reserved (x : Slot) : Bool := x.landing.isNone

/-- How many slots are RESERVED. -/
def State.reservedCount (s : State) : Nat :=
  (match s.en.slotA with
    | some x => if x.reserved then 1 else 0
    | none => 0) +
  (match s.en.slotB with
    | some x => if x.reserved then 1 else 0
    | none => 0)

/-- Room at entry (R98). -/
def State.room (s : State) : Bool :=
  decide (s.track.length + s.reservedCount < s.boot.prof.trackLimit)
    && s.eyes.entry.st == .clear && s.tailClear

/-- The slot a new TAKE would reserve: A if FREE, else B where the role uses it (R95, R99). -/
def State.freeSlot (s : State) : Option SlotName :=
  if s.en.slotA.isNone then some .a
  else if s.hasRole .merge || s.hasRole .divert then none
  else if s.en.slotB.isNone then some .b
  else none

/-- The conditions of R97 that concern the belt and not the port. -/
def State.entryOpenFor (s : State) : Bool :=
  s.boot.mode == .active && decide (s.att.level.val ≤ 1)
    && s.freeSlot.isSome && s.room && !s.heldHold
    && s.dr.belt != .park && s.dr.belt != .spinUp
    && !(s.boot.prof.strict
          && ((s.cause .tagMismatch).st == .pending || (s.cause .strayRack).st == .pending))
    && (!s.hasRole .divert || s.track.isEmpty)

/-- Alternation picks a port at a MERGE (R110). -/
def State.alternation (s : State) (p : UpPort) : Bool :=
  !s.hasRole .merge || (s.noted (UpPort.other p)).isNone || s.en.lastGranted == UpPort.other p

/-- Entry is ready for a port and, at a DIVERT, for the route of the offered rack (R97, R109, R113). -/
def State.entryReady (s : State) (p : UpPort) (route : Option Route) : Bool :=
  s.entryOpenFor && s.alternation p
    && (!s.hasRole .divert || (match route with
        | some r => s.gate.setFor r.port
        | none => false))

/-- A noted offer whose port is ready. -/
def State.readyNoted (s : State) (p : UpPort) : Option Noted :=
  match s.noted p with
  | some n => if s.entryReady p n.route then some n else none
  | none => none

/-- An upstream port is concerned with the belt (R108). -/
def State.concerned (s : State) (p : UpPort) : Bool :=
  (match s.en.slotA with
    | some x => x.port == p
    | none => false)
  || (match s.en.slotB with
    | some x => x.port == p
    | none => false)
  || s.track.any fun r => r.entryOpen && (match r.entry with
      | some e => e.port == p
      | none => false)

/-! ### Want, demand, doze -/

/-- The record's LANDING slot is not yet FREE. -/
def State.underSlot (s : State) (id : Nat) : Bool :=
  (match s.en.slotA with
    | some x => x.landing == some id
    | none => false)
  || (match s.en.slotB with
    | some x => x.landing == some id
    | none => false)

/-- n of R131. -/
def State.wantCount (s : State) : Nat :=
  (s.track.filter fun r => r.cls == classEmpty && !s.underSlot r.id).length
    + s.en.slotA.isSome.toNat + s.en.slotB.isSome.toNat

/-- The want at a LOAD (R131). -/
def State.wantNow (s : State) : Nat := min (s.boot.prof.wantTarget - s.wantCount) 15

/-- The station keeps the heard-want table and the steered lists (R135). -/
def State.steers (s : State) : Bool :=
  s.hasRole .divert && s.boot.mode == .active
    && s.boot.prof.routes.any fun e => e.kind == .demand

/-- W of a branch (R142): the fresh wants of the stations its set names, each counted once. -/
def State.branchWant (s : State) (b : DownPort) : Nat :=
  ((s.rt.wants.filter fun w =>
      w.fresh && w.station != 0 && (s.loaders b).contains w.station).map (·.want.val)).sum

/-- E of a branch (R139). -/
def State.effective (s : State) (b : DownPort) : Int :=
  (s.branchWant b : Int) - ((s.steered b).length : Int)

/-- The branch a DEMAND entry chooses (R139). -/
def State.demandChoice (s : State) : DownPort :=
  let e0 := s.effective .d0
  let e1 := s.effective .d1
  if e0 ≤ 0 ∧ e1 ≤ 0 then s.boot.prof.overflow
  else if e0 ≠ e1 then (if e1 < e0 then .d0 else .d1)
  else DownPort.other s.rt.lastChoice

/-- A record is within doze reach of the exit (R152). -/
def State.withinDoze (s : State) (r : Rec) : Bool :=
  !r.handed && r.exitPass == .none
    && decide (s.boot.cts.exit ≤ s.travelOf r + s.boot.cts.doze)

/-- The upstream ports with a neighbour. -/
def State.connectedUp (s : State) : List UpPort :=
  [UpPort.u0, UpPort.u1].filter fun p => s.upStation p != 0

/-! ### Time -/

/-- Ticks since a stamp (R170). -/
def State.since (s : State) (t : Tick32) : Nat := (s.line.tick - t).toNat

/-- A running timer has no ticks left. -/
def expired (t : Option Nat) : Bool := t == some 0

/-- A timer after one more tick. -/
def countDown (t : Option Nat) : Option Nat := t.map (· - 1)

/-! ### Output pins (R62, R115, R134, R183, R184, pin summary) -/

def State.drvPin (s : State) : Nat := if s.boot.resetHeld then 0 else s.dr.level

def State.brkPin (s : State) : Bool :=
  s.boot.resetHeld || s.dr.belt == .hold || s.dr.belt == .park

def State.gatePin (s : State) : Bool := !s.boot.resetHeld && s.gate.commanded == .d1

def State.lattPin (s : State) : Bool := !s.boot.resetHeld && s.att.lamp.high

def State.lcallPin (s : State) : Bool := !s.boot.resetHeld && s.bay.lamp.high

def State.zdePin (s : State) : Bool :=
  !s.boot.resetHeld && (match s.line.reg with
    | some r => r.sending
    | none => false)

/-- The characters that go out on ZTX while ZDE is high (R161, R162): those of the frame in the send register, its
FROM this station's number; none while nothing is sent. -/
def State.ztxChars (s : State) : List Nat :=
  if s.zdePin then
    match s.line.reg with
    | some r => frameBytes r.frame.dst (s.boot.station.getD 0) r.frame.payload
    | none => []
  else []

/-- The level of ZTX in the n-th bit time since the sending began: the characters back to back, each ten bits, and
then, as long as ZDE is high, the level at which the line rests (R161; DEDUCED, log 18). The spec gives no level of the
pin while ZDE is low: it is open (log 18). -/
def State.ztxPin (s : State) (n : Nat) : Bool :=
  if s.zdePin then (s.ztxChars.flatMap charBits).getD n true else Config.openZtx n

/-! ### The SPI port, the key matrix and TTX -/

/-- A byte on the SPI port, bit by bit, the most significant first (R186). -/
def spiBits (b : Byte) : List Bool := (List.range 8).map fun i => b.getLsbD (7 - i)

/-- The bytes of one profile read: the command, the address and the image (R186). -/
def spiLength : Nat := 3 + 113

/-- The level of PCK in the n-th half period since PCS went low (R186): it rests low, and each of the bits that go
over the port has a low half and then a high half. -/
def State.pckPin (s : State) (n : Nat) : Bool :=
  !s.boot.pcs && decide (n < 2 * (8 * spiLength)) && decide (n % 2 = 1)

/-- The bits on PDO while PCS is low (R186). -/
def State.pdoBits (s : State) : List Bool := if s.boot.pcs then [] else s.boot.spiOut.flatMap spiBits

/-- The level of PDO in the n-th half period of PCK since PCS went low (R186): a new bit stands at each falling edge
of PCK, the first one at PCS; where R186 gives no level it is open (log 18). -/
def State.pdoPin (s : State) (n : Nat) : Bool := s.pdoBits.getD (n / 2) (Config.openPdo n)

/-- The level of output KSk while the bay unit samples row `row` of the key matrix (R124): at LOAD and UNLOAD that row's
output is low and the other three are high. R124 gives no level at the other roles, nor in what order the rows are
taken (log 18). -/
def State.ksPin (s : State) (row k : Fin 4) : Bool :=
  if s.bayRole then decide (k ≠ row) else Config.openKs row k

/-- The level of TTX in the n-th bit time since its last byte began (R31): one start bit, eight data bits and one stop
bit, laid out as on ZTX, and then the resting level (log 42). -/
def State.ttxPin (s : State) (n : Nat) : Bool :=
  match s.tag.ttx with
  | some b => (charBits b.toNat).getD n true
  | none => true

end Sys2Proof.Machine
end

