-- ==== Sys2Proof/Machine/Ops.lean ====
section
/-! DEFINITION. Shared operations of the line interface and the attention unit: offering a frame to
the send queue (R164 to R166), raising a cause (R175), ending a condition (R176) and making causes
ABSENT (R179), with the restriction level (R182). -/

namespace Sys2Proof.Machine

/-! ### Severity, rank and level -/

/-- A cause is standing (chapter 11, table of causes). -/
def Cause.standing : Cause → Bool
  | .estop => true
  | .exitJam => true
  | .entryJam => true
  | .eyeStuck => true
  | .neighbourSilent => true
  | .beltUnsteady => true
  | .profileFault => true
  | .beltOverload => false
  | .beltOverrun => false
  | .lostRack => false
  | .expectedMissing => false
  | .strayRack => false
  | .tagMismatch => false
  | .crowding => false
  | .routeLoop => false
  | .misroute => false
  | .circling => false
  | .lineOverrun => false

/-- The default severity (chapter 11, table of causes). -/
def Cause.defaultSeverity : Cause → Fin 4
  | .estop => 3
  | .beltOverload => 3
  | .beltOverrun => 3
  | .exitJam => 3
  | .entryJam => 3
  | .eyeStuck => 2
  | .lostRack => 2
  | .expectedMissing => 1
  | .strayRack => 1
  | .tagMismatch => 1
  | .neighbourSilent => 2
  | .crowding => 2
  | .routeLoop => 1
  | .misroute => 1
  | .circling => 1
  | .lineOverrun => 1
  | .beltUnsteady => 1
  | .profileFault => 3

/-- The severity in force (R174): the profile's 1 to 3 replaces the default once read; E-STOP and
PROFILE-FAULT are 3 whatever the profile holds. -/
def State.severity (s : State) (c : Cause) : Fin 4 :=
  if c = .estop ∨ c = .profileFault then 3
  else if s.boot.loaded then
    match s.boot.prof.severities.getD (Cause.code c) 0 with
    | 0 => Cause.defaultSeverity c
    | n => Fin.ofNat 4 n
  else Cause.defaultSeverity c

/-- The report mask in force (R174). -/
def State.reportMask (s : State) (c : Cause) : Bool :=
  if s.boot.loaded then s.boot.prof.masks.getD (Cause.code c) true else true

/-- How many causes are PENDING (frame kinds, note 2). -/
def State.pendingCount (s : State) : Fin 19 :=
  Fin.ofNat 19 (Cause.all.filter fun c => (s.cause c).st == .pending).length

/-- The highest-ranked cause of a kind: the highest severity, and of equals the lowest order (R177). -/
def State.topCause (s : State) (p : CauseState → Bool) : Option Cause :=
  (Cause.all.filter fun c => p (s.cause c).st).foldl
    (fun best c => match best with
      | none => some c
      | some b => if s.severity b < s.severity c then some c else some b) none

/-- The highest severity among the causes not ABSENT, 0 when none (R182). -/
def State.levelNow (s : State) : Fin 4 :=
  match s.topCause (· != .absent) with
  | none => 0
  | some c => s.severity c

/-! ### The send queue -/

/-- The station offers frames to its queue: it is past LOADING and its number is not 0 (R169, R188). -/
def State.canQueue (s : State) : Bool :=
  s.boot.mode != .loading && (match s.boot.station with
    | some n => n != 0
    | none => false)

/-- When the register is empty, the head of the queue moves into it (R162). -/
def Line.refill (l : Line) : Line :=
  match l.reg, l.queue with
  | none, f :: q => { l with reg := some ⟨f, 0, 0, false⟩, queue := q }
  | _, _ => l

/-- A PROMPT frame at the rear of the PROMPT frames (R164). -/
def insertPrompt (q : List Frame) (f : Frame) : List Frame :=
  q.filter (fun g => Payload.prompt g.payload) ++ [f]
    ++ q.filter (fun g => !Payload.prompt g.payload)

/-- Put a new queue in place and let its head move into an empty register. -/
def State.setQueue (s : State) (q : List Frame) : State :=
  { s with line := Line.refill { s.line with queue := q } }

/-- A ROUTINE frame: admitted with 4 or more free entries, dropped otherwise (R165). -/
def State.offerRoutine (s : State) (f : Frame) : State :=
  if s.canQueue && decide (s.line.queue.length + 4 ≤ Config.queueSize) then
    s.setQueue (s.line.queue ++ [f])
  else s

/-- A STATUS or WANT: it takes the place of one that waits (R166), and otherwise meets the admission
rule. -/
def State.offerCoalesced (s : State) (same : Payload → Bool) (f : Frame) : State :=
  if s.canQueue && s.line.queue.any (fun g => same g.payload) then
    s.setQueue (s.line.queue.map fun g => if same g.payload then f else g)
  else s.offerRoutine f

/-- The STATUS fields as they stand (R173). -/
def State.statusInfo (s : State) : StatusInfo :=
  { role := if s.boot.loaded then some s.boot.prof.role else none
    mode := s.boot.mode
    belt := s.dr.belt
    lock := s.dr.lock
    level := s.att.level
    trackCount := Fin.ofNat 13 (min s.track.length 12)
    speed := s.dr.vmeas
    pendingCount := s.pendingCount }

/-- Queue STATUS, addressed to all stations (R173). -/
def State.queueStatus (s : State) : State :=
  s.offerCoalesced Payload.isStatus ⟨0, .status s.statusInfo⟩

/-- Queue WANT, addressed to all stations (R132). -/
def State.queueWant (s : State) : State :=
  s.offerCoalesced Payload.isWant ⟨0, .want (Fin.ofNat 16 s.bay.want)⟩

/-! ### Causes -/

/-- A lamp brought to a state; FLASH begins high and keeps its phase while it lasts (R134, R183). -/
def Lamp.to (l : Lamp) (st : LampState) (half : Nat) : Lamp :=
  match st with
  | .off => { st := .off, high := false, left := none }
  | .steady => { st := .steady, high := true, left := none }
  | .flash => if l.st = .flash then l else { st := .flash, high := true, left := some half }

/-- The attention lamp's state (R183). -/
def State.attState (s : State) : LampState :=
  if Cause.all.any fun c => (s.cause c).st == .pending then .flash
  else if Cause.all.any fun c => (s.cause c).st == .pendingAck then .steady
  else .off

/-- The attention lamp follows the causes (R183). -/
def State.attLampStep (s : State) : State :=
  { s with att := { s.att with lamp := s.att.lamp.to s.attState Config.attFlash } }

/-- A cause's entry, with its state, replaced: the lamp is evaluated afresh at every change of a cause's state
(R183). -/
def State.changeCause (s : State) (c : Cause) (e : CauseEntry) : State := (s.setCause c e).attLampStep

/-- Recompute the restriction level; a change queues STATUS (R182, R173). What the other blocks do at
the new level is derived at the end of the step. DESIGN CHOICE (log 49): the STATUS is built at the change, before the
drive acts on the level (R62), so at level 3 it can show RUN, CREEP or SPIN-UP. -/
def State.recomputeLevel (s : State) : State :=
  if s.levelNow = s.att.level then s
  else State.queueStatus { s with att := { s.att with level := s.levelNow } }

/-- The repeat count after one more, saturating at 255 (R174). -/
def satSucc (n : Fin 256) : Fin 256 := if n = 255 then 255 else n + 1

/-- The ATTENTION payload that reports a cause (R175, R177). -/
def State.attentionOf (s : State) (c : Cause) (reply : Bool) : AttentionInfo :=
  { cause := some c, severity := s.severity c, detail := (s.cause c).detail,
    repeats := (s.cause c).repeats, reply := reply, pendingCount := s.pendingCount }

/-- Raise a cause with a detail (R175): from ABSENT it becomes PENDING with repeat count 0, an
ATTENTION broadcast is queued where the report mask says so, and the level is recomputed; otherwise
the repeat is counted, the detail replaced, and the cause is PENDING. -/
def State.raise (s : State) (c : Cause) (detail : Nat) : State :=
  let e := s.cause c
  let d := BitVec.ofNat 16 detail
  if e.st = .absent then
    let s := s.changeCause c { e with st := .pending, repeats := 0, detail := d }
    let s := if s.reportMask c then s.offerRoutine ⟨0, .attention (s.attentionOf c false)⟩ else s
    s.recomputeLevel
  else s.changeCause c { e with st := .pending, repeats := satSucc e.repeats, detail := d }

/-- A source of a standing cause begins: the condition-present mark is set at the raise (R175, R176). -/
def State.raiseStanding (s : State) (c : Cause) (detail : Nat) : State :=
  State.raise (s.setCause c { s.cause c with present := true }) c detail

/-- A PROMPT frame: admitted with a free entry; otherwise discarded with LINE-OVERRUN (R165). -/
def State.sendPrompt (s : State) (dst : Station) (p : Payload) : State :=
  if s.canQueue then
    if s.line.queue.length < Config.queueSize then s.setQueue (insertPrompt s.line.queue ⟨dst, p⟩)
    else s.raise .lineOverrun (Payload.kind p)
  else s

/-- Make one cause ABSENT, telling the blocks whose state hangs on it (R76, R94, R179). -/
def State.absentOne (s : State) (c : Cause) : State :=
  if (s.cause c).st = .absent then s
  else
    let s := s.changeCause c { s.cause c with st := .absent }
    match c with
    | .lostRack => { s with ex := { s.ex with plainLoss := false } }
    | .beltOverload =>
        if s.dr.lock = .failSlow then { s with dr := { s.dr with lock := .unlocked } } else s
    | .beltOverrun =>
        if s.dr.lock = .failFast then { s with dr := { s.dr with lock := .unlocked } } else s
    | _ => s

/-- Make a set of causes ABSENT in one event, the level recomputed once after all (R179, R180). -/
def State.absentAll (s : State) (cs : List Cause) : State :=
  State.recomputeLevel (cs.foldl State.absentOne s)

/-- The last source of a standing cause has ended: the mark is cleared, and a PENDING-ACK cause becomes
ABSENT (R176, R179). -/
def State.conditionEnd (s : State) (c : Cause) : State :=
  let e := s.cause c
  let s := s.setCause c { e with present := false }
  if e.st = .pendingAck then s.absentAll [c] else s

/-- ACK: act on the highest-ranked PENDING cause (R178). -/
def State.ackTop (s : State) : State :=
  match s.topCause (· == .pending) with
  | none => s
  | some c =>
    if Cause.standing c && (s.cause c).present then
      s.changeCause c { s.cause c with st := .pendingAck }
    else s.absentAll [c]

/-- CLEAR: make ABSENT every latched cause, and every standing cause whose condition is absent (R180). -/
def State.clearAll (s : State) : State :=
  s.absentAll (Cause.all.filter fun c =>
    (s.cause c).st != .absent && !(Cause.standing c && (s.cause c).present))

end Sys2Proof.Machine
end

