-- ==== Sys2Proof/Machine/Routes.lean ====
section
/-! DEFINITION. Resolving a route (R136 to R139), and the steered lists (R144 to R146). -/

namespace Sys2Proof.Machine

/-- Where a chain of lookups ends. -/
inductive RouteEnd where
  | port (p : DownPort)
  | demand
  deriving DecidableEq, Repr

/-- Read the entry of a class, and follow at most `steps` ALIAS steps from it (R136, R138). The
alternate-allowed mark is kept only while every entry read allows it (R137). None: a further step
would be needed. -/
def lookupRoute (routes : List RouteEntry) : Nat → RackClass → Bool → Option (RouteEnd × Bool)
  | steps, cls, alt =>
    let e := routes.getD cls.val ⟨.port0, false⟩
    let alt := alt && e.alternate
    match e.kind with
    | .port0 => some (.port .d0, alt)
    | .port1 => some (.port .d1, alt)
    | .demand => some (.demand, alt)
    | .aliasOf c =>
      match steps with
      | 0 => none
      | n + 1 => lookupRoute routes n c alt

/-- The alias limit: four steps (R138). -/
def aliasLimit : Nat := 4

/-- Resolve a route for a class (R136): it may change the last demand choice (R139) and raise ROUTE-LOOP
(R138). -/
def State.resolve (s : State) (cls : RackClass) : State × Route :=
  match lookupRoute s.boot.prof.routes aliasLimit cls true with
  | some (.port p, alt) => (s, ⟨p, alt, false⟩)
  | some (.demand, alt) =>
      let b := s.demandChoice
      ({ s with rt := { s.rt with lastChoice := b } }, ⟨b, alt, true⟩)
  | none => (s.raise .routeLoop cls.val, ⟨s.boot.prof.fallback, false, false⟩)

/-- Add an entry to a steered list (R145): a numbered entry replaces the older one of its number, and a
ninth entry makes the oldest leave. -/
def addSteered (l : List Steered) (x : Steered) : List Steered :=
  let l := if x.number = notag then l else l.filter (fun y => y.number != x.number)
  (if l.length < 8 then l else l.drop 1) ++ [x]

/-- A demand-routed record's first landing answer adds an entry to the list of its exit port (R144). -/
def State.steeredAdd (s : State) (b : DownPort) (number : RackNo) (station : Station) : State :=
  s.setSteered b (addSteered (s.steered b) ⟨number, station, s.line.tick⟩)

/-- Whether a record's landing answer adds a steered entry: at a DIVERT, where its rack route has the
demand mark, and the answer is its first (R144). -/
def State.steersRecord (s : State) (r : Rec) : Bool :=
  s.hasRole .divert && r.landing.isNone && (match s.gate.rackRoute with
    | some rt => rt.demand
    | none => false)

/-- Remove the first entry of a list that satisfies a test; none if there is none. -/
def removeFirst (l : List Steered) (p : Steered → Bool) : Option (List Steered) :=
  if l.any p then some (l.eraseP p) else none

/-- The branch of a sender of RACK-IN: the branch in whose loader set it stands, branch 0 when in both;
none when in neither (R146). -/
def State.senderBranch (s : State) (st : Station) : Option DownPort :=
  if st = 0 then none
  else if (s.loaders .d0).contains st then some .d0
  else if (s.loaders .d1).contains st then some .d1
  else none

/-- Try to remove an entry from a branch's list. -/
def State.dropSteered (s : State) (b : DownPort) (p : Steered → Bool) : Option State :=
  (removeFirst (s.steered b) p).map (s.setSteered b)

/-- RACK-IN addressed to this divert's choice (R146). -/
def State.rackInSteered (s : State) (src : Station) (number : RackNo) : State :=
  let b := s.senderBranch src
  let first := b.getD .d0
  let numbered : Option State :=
    if number = notag then none
    else
      match s.dropSteered first (fun x => x.number == number) with
      | some t => some t
      | none => s.dropSteered (DownPort.other first) (fun x => x.number == number)
  match numbered with
  | some t => t
  | none => match b with
    | none => s
    | some b => (s.dropSteered b (fun x => x.number == notag)).getD s

end Sys2Proof.Machine
end

