-- ==== Sys2Proof/Machine/TrackOps.lean ====
section
/-! DEFINITION. Shared operations of the mark comparator (R11 to R17), the rack track (R36 to R60), the
tag port (R32 to R34), and the landing of the entry side (R101 to R105). -/

namespace Sys2Proof.Machine

/-! ### Flags and classes of a record -/

/-- Set flags on a record: they stay with the rack, and are known as set on this segment (R103). -/
def State.flagRec (s : State) (id : Nat) (f : Flags) : State :=
  s.updRec id fun r =>
    { r with flags := Flags.union r.flags f, localFlags := Flags.union r.localFlags f }

/-- A record is at a bay-bound head's stop mark firing: it becomes AT-BAY, and MISROUTED at an UNLOAD
outside the accept set (R125). -/
def State.stopFired (s : State) : State :=
  match s.head with
  | none => s
  | some r =>
    if s.bayRole && (r.state == .head || r.state == .entering) && s.bayBound r && !s.bay.released
    then
      let s := s.updRec r.id fun r => { r with state := .atBay }
      if s.hasRole .unload && !s.boot.prof.accept.getLsbD r.cls.val then
        State.raise (s.flagRec r.id { misrouted := true }) .misroute r.number.val
      else s
    else s

/-! ### Marks -/

/-- A mark computed from a front count and tested at a load (R11, R12). -/
def loadMark (front c : Count) (offset : Nat) : Mark :=
  let p := Count.plus front offset
  { pos := p, st := if reached p c then .fired else .armed }

/-- A mark recomputed after a correction: an ARMED one is tested as at a load; FIRED, DISARMED and ABSENT ones
take their new count and keep their state (R16). -/
def recomputeMark (front c : Count) (offset : Nat) (m : Mark) : Mark :=
  if m.st = .armed then loadMark front c offset else { m with pos := Count.plus front offset }

/-- The whole group with a mark changed at each place. -/
def MarkGroup.map (g : MarkGroup) (f : Mark → Mark) : MarkGroup :=
  { g with offer := f g.offer, approach := f g.approach, stop := f g.stop,
           gateClear := f g.gateClear }

/-- Load the group for a new head; a stop mark that fires at the load is told to the bay unit (R12,
R125). Outside a DIVERT the gate-clear mark has its count and is ABSENT (R11). -/
def State.loadGroup (s : State) (r : Rec) : State :=
  let c := s.cu.count
  let k := s.boot.cts
  let g : MarkGroup :=
    { owner := some r.id
      front := r.front
      offer := loadMark r.front c k.offer
      approach := loadMark r.front c k.approach
      stop := loadMark r.front c k.stop
      gateClear := if s.hasRole .divert then loadMark r.front c k.gateClear
                   else { pos := Count.plus r.front k.gateClear, st := .absent } }
  let s := { s with marks := g }
  if g.stop.st = .fired then s.stopFired else s

/-- Recompute the group from the owner's corrected front count; a stop mark that fires is told to the
bay unit (R16). -/
def State.recomputeGroup (s : State) (front : Count) : State :=
  let c := s.cu.count
  let k := s.boot.cts
  let m := s.marks
  let g : MarkGroup :=
    { owner := m.owner
      front := front
      offer := recomputeMark front c k.offer m.offer
      approach := recomputeMark front c k.approach m.approach
      stop := recomputeMark front c k.stop m.stop
      gateClear := recomputeMark front c k.gateClear m.gateClear }
  let s := { s with marks := g }
  if m.stop.st = .armed ∧ g.stop.st = .fired then s.stopFired else s

def Mark.disarm (m : Mark) : Mark := if m.st = .absent then m else { m with st := .disarmed }

/-- Disarm the whole group, which then belongs to no record (R17). -/
def MarkGroup.ended (g : MarkGroup) : MarkGroup := { g.map Mark.disarm with owner := none }

/-- TAKE disarms the owner's approach and stop marks (R15). -/
def MarkGroup.taken (g : MarkGroup) : MarkGroup :=
  { g with approach := g.approach.disarm, stop := g.stop.disarm }

/-- Bring head and mark group together after a change of the track: a different head is promoted and
loads its group (R12, R38); with no head, an owner still on the track keeps the group, and an owner
that has left it ends the group (R17). -/
def State.rehead (s : State) : State :=
  match s.head with
  | some r =>
    if s.marks.owner = some r.id then s
    else
      let s := { s with bay := { s.bay with released := false } }
      let s := if r.state = .riding then s.updRec r.id fun r => { r with state := .head } else s
      s.loadGroup r
  | none =>
    match s.marks.owner with
    | none => s
    | some o => if (s.recOf o).isSome then s else { s with marks := s.marks.ended }

/-! ### The want and the call lamp -/

/-- The LOAD want is recomputed, and a change while ACTIVE queues WANT (R131, R132). -/
def State.wantStep (s : State) : State :=
  if s.hasRole .load && s.wantNow != s.bay.want then
    let s := { s with bay := { s.bay with want := s.wantNow } }
    if s.boot.mode = .active then s.queueWant else s
  else s

/-- The call lamp's state (R134). -/
def State.callState (s : State) : LampState :=
  if s.boot.mode == .active && s.bayRole then
    match s.track.find? (fun r => r.state == .atBay) with
    | some r =>
      if s.bay.released then .off
      else if s.hasRole .unload && r.flags.misrouted then .flash
      else .steady
    | none =>
      if s.hasRole .load && decide (s.boot.prof.wantTarget > 0)
          && s.bay.want == s.boot.prof.wantTarget then .flash else .off
  else .off

def State.callLampStep (s : State) : State :=
  { s with bay := { s.bay with lamp := s.bay.lamp.to s.callState Config.callFlash } }

/-- The bay unit acts on a change of its inputs: the want, and with it the call lamp (R131, R132, R134). -/
def State.bayFollows (s : State) : State := s.wantStep.callLampStep

/-! ### Landings -/

/-- The rack number a RACK-IN carries with the steered-by, at a LOAD for class EMPTY (R133). -/
def State.rackInFor (s : State) (cls : RackClass) (number : RackNo) (st : Station) :
    Option (RackNo × Station) :=
  if s.hasRole .load && cls == classEmpty then some (number, st) else none

/-- Send LANDED upstream, write it to the port's landing log (R105), and a RACK-IN after it where one
is due (R133). -/
def State.sendLanded (s : State) (p : UpPort) (serial : Serial) (number : RackNo)
    (status : LandStatus) (rackIn : Option (RackNo × Station)) : State :=
  let log := s.landLog p ++ [⟨serial, number, status⟩]
  let s := s.setLandLog p (log.drop (log.length - 2))
  let s := s.sendPrompt (s.upStation p) (.landed serial number status)
  match rackIn with
  | none => s
  | some (n, st) => s.sendPrompt 0 (.rackIn n st)

/-- The slot that is LANDING for a record. -/
def State.slotOf (s : State) (id : Nat) : Option (SlotName × Slot) :=
  match s.en.slotA with
  | some x => if x.landing = some id then some (.a, x) else
      match s.en.slotB with
      | some y => if y.landing = some id then some (.b, y) else none
      | none => none
  | none =>
      match s.en.slotB with
      | some y => if y.landing = some id then some (.b, y) else none
      | none => none

/-- End a landing: the slot becomes FREE, and LANDED goes upstream for its serial with a status and the
number given; RACK-IN follows for an EMPTY record with the number the record then has (R101, R102,
R104, R133). -/
def State.endLanding (s : State) (id : Nat) (status : LandStatus) (sent : Option RackNo) : State :=
  match s.slotOf id, s.recOf id with
  | some (n, x), some r =>
      let s := s.setSlot n none
      s.sendLanded x.port x.serial (sent.getD r.number) status
        (s.rackInFor r.cls r.number r.steeredBy)
  | _, _ => s

/-! ### Rack numbers -/

/-- Another record, or a slot other than the record's own LANDING slot, holds a number (R42). -/
def State.numberHeld (s : State) (id : Nat) (n : RackNo) : Bool :=
  s.track.any (fun r => r.id != id && r.number == n)
  || (match s.en.slotA with
      | some x => x.landing != some id && x.image.number == n
      | none => false)
  || (match s.en.slotB with
      | some x => x.landing != some id && x.image.number == n
      | none => false)

/-- Set a record's rack number, subject to the duplicate check (R42). -/
def State.setNumber (s : State) (id : Nat) (n : RackNo) : State :=
  if n ≠ notag ∧ s.numberHeld id n then
    let s := s.updRec id fun r => { r with number := notag }
    State.raise (s.flagRec id { duplicate := true }) .tagMismatch (0x8000 + n.val)
  else s.updRec id fun r => { r with number := n }

/-- The hop-limit test of a record created from a slot or re-assigned (R148). -/
def State.hopTest (s : State) (id : Nat) : State :=
  match s.recOf id with
  | none => s
  | some r => if s.boot.prof.hopLimit < r.hop.val then s.raise .circling r.number.val else s

/-- The RESERVED slot that holds a number, other than the record's own (R102, R103). -/
def State.newerSlot (s : State) (id : Nat) (n : RackNo) : Option (SlotName × Slot) :=
  let ok (x : Slot) : Bool := x.reserved && x.image.number == n && x.landing != some id
  match s.en.slotA with
  | some x => if ok x then some (.a, x) else
      match s.en.slotB with
      | some y => if ok y then some (.b, y) else none
      | none => none
  | none =>
      match s.en.slotB with
      | some y => if ok y then some (.b, y) else none
      | none => none

/-- A result equal to the number of a newer RESERVED slot: the older slot is skipped and the record
takes the newer one (R103). -/
def State.skipTo (s : State) (id : Nat) (old : SlotName) (x : Slot) (new : SlotName) (y : Slot)
    (n : RackNo) : State :=
  let s := s.setSlot old none
  let s := s.sendLanded x.port x.serial n .skipped none
  let s := s.raise .expectedMissing x.image.number.val
  let s := s.setSlot new (some { y with landing := some id })
  let s := s.updRec id fun r =>
    { r with cls := y.image.cls, origin := y.image.origin, steeredBy := y.image.steeredBy,
             flags := Flags.union y.image.flags r.localFlags, hop := satSucc y.image.hop,
             entry := some ⟨y.port, y.serial⟩ }
  let s := s.wantStep
  let s := s.setNumber id y.image.number
  let s := s.hopTest id
  s.endLanding id .ok none

/-- A tag result, none for NOREAD, for a record (R43, R102 to R104). A record with no LANDING slot
takes its number from the read. Where a relabel's number is refused, R42's raise of TAG-MISMATCH comes first and
R104's second, so that the number read is the last detail: the model's choice (log 39). -/
def State.tagResult (s : State) (id : Nat) (res : Option RackNo) : State :=
  match s.recOf id with
  | none => s
  | some r =>
    match s.slotOf id, res with
    | none, none => s
    | none, some n => s.setNumber id n
    | some _, none => s.endLanding id .noread none
    | some (old, x), some n =>
      if n = r.number then s.endLanding id .ok none
      else if r.number = notag then State.endLanding (s.setNumber id n) id .ok none
      else match s.newerSlot id n with
        | some (new, y) => s.skipTo id old x new y n
        | none =>
          let s := s.setNumber id n
          let s := s.flagRec id { relabelled := true }
          let s := s.raise .tagMismatch n.val
          s.endLanding id .mismatch (some n)

/-- A READ is due for a record (R32): in IDLE the request byte goes out; otherwise the reader is busy and
the record is given NOREAD at once. -/
def State.readDue (s : State) (id : Nat) : State :=
  if s.boot.prof.reader then
    if s.tag.st = .idle then
      { s with tag := { st := .reading, owner := some id,
                        timeout := some s.boot.prof.readerTimeout, ttx := some 0x3C } }
    else s.tagResult id none
  else s

/-! ### Eye lists -/

/-- A set of records in track order (R25). -/
def State.inTrackOrder (s : State) (ids : List Nat) : List Nat :=
  (s.track.map (·.id)).filter fun i => ids.contains i

/-- A record joins the awaited lists of the check eyes that a test picks (R25). -/
def State.joinAwaited (s : State) (id : Nat) (p : Eye → Bool) : State :=
  Eye.all.foldl (fun t e =>
    if s.isCheck e && p e then
      t.updChan e fun c => { c with awaited := s.inTrackOrder (c.awaited ++ [id]) }
    else t) s

/-- A record leaves every awaited and missed list (R25, R55). -/
def State.leaveLists (s : State) (id : Nat) : State :=
  s.updChans fun c =>
    { c with awaited := c.awaited.filter (· != id), missed := c.missed.filter (· != id) }

/-! ### Withdrawing and removing -/

/-- Send WITHDRAW for an OFFERED record, and stop its timers (R89, R121). -/
def State.sendWithdraw (s : State) (r : Rec) : State :=
  let s := { s with ex := { s.ex with resend := none, patience := none } }
  match r.exitPort, r.exitSerial with
  | some p, some n => s.sendPrompt (s.downStation p) (.withdraw n)
  | _, _ => s

/-- The record's fields after a withdrawal (R39). -/
def Rec.withdrawn (r : Rec) : Rec :=
  { r with exitPort := none, exitSerial := none, answered := false,
           state := if r.entryOpen then .entering else .head }

/-- Withdraw the offer of a head that stays on the track (R89). -/
def State.withdrawHead (s : State) : State :=
  match s.head with
  | some r =>
    if r.state = .offered then State.updRec (s.sendWithdraw r) r.id Rec.withdrawn else s
  | none => s

/-- A record leaves the track without its landing having been reported: its slot becomes FREE and
LANDED NOREAD goes upstream with the image's number (R105, R133). -/
def State.abandonLanding (s : State) (id : Nat) : State :=
  match s.slotOf id with
  | none => s
  | some (n, x) =>
      let s := s.setSlot n none
      s.sendLanded x.port x.serial x.image.number .noread
        (s.rackInFor x.image.cls x.image.number x.image.steeredBy)

/-- Remove a record with the effects of R55. An OFFERED record has its offer withdrawn; the read it
owns goes on without an owner (R34); the bay unit follows (R131, R134), and head and mark group pass on (R12, R17,
R38). So the frames of R55, and MISROUTE where the next head's stop mark fires at its load, come before what the
caller raises for the removal: the model's choice (log 45). -/
def State.removeRec (s : State) (r : Rec) : State :=
  let wasHead := s.head.map (·.id) = some r.id
  let s := if r.state = .offered then s.sendWithdraw r else s
  let s := { s with track := s.track.filter fun q => q.id != r.id }
  let s := s.leaveLists r.id
  let s := if s.tag.owner = some r.id then { s with tag := { s.tag with owner := none } } else s
  let s := if s.track = [] then { s with gate := { s.gate with rackRoute := none } } else s
  let s := if wasHead then { s with bay := { s.bay with released := false } } else s
  let s := s.abandonLanding r.id
  s.bayFollows.rehead

/-- Add an entry to the lost list; a fifth discards the oldest, which sets the plain-loss marker (R94). -/
def State.pushLost (s : State) (x : LostEntry) : State :=
  if s.ex.lost.length < 4 then { s with ex := { s.ex with lost := s.ex.lost ++ [x] } }
  else { s with ex := { s.ex with lost := s.ex.lost.drop 1 ++ [x], plainLoss := true } }

/-- Raise LOST-RACK for a loss that the lost list accounts for, or for a plain loss (R94). -/
def State.raiseLost (s : State) (r : Rec) : Bool → State
  | true => s.raise .lostRack r.number.val
  | false => State.raise { s with ex := { s.ex with plainLoss := true } } .lostRack r.number.val

/-- A record to the lost list, where it has an exit serial and port. -/
def State.toLost (s : State) (r : Rec) : State :=
  match r.exitPort, r.exitSerial with
  | some p, some n => State.raiseLost (s.pushLost ⟨r.number, n, p⟩) r true
  | _, _ => s.raiseLost r false

/-- A record is given up to the lost list (R91, R93). The removal comes first, LOST-RACK after it: MISROUTE of the next
head is raised before LOST-RACK of this one, which is the model's choice (log 45). -/
def State.giveUp (s : State) (r : Rec) : State := State.toLost (s.removeRec r) r

/-- A record vanishes, or crosses the exit untaken (R52, R54). The removal with the effects of R55 comes first, and
LOST-RACK after it: MISROUTE of the next head at an UNLOAD is raised before LOST-RACK of this record. The spec gives no
order of the two, and this one is the model's choice (log 45). -/
def State.vanish (s : State) (r : Rec) : State :=
  if r.state = .taken then s.giveUp r else State.raiseLost (s.removeRec r) r false

/-! ### Release of the head -/

/-- The head is released: TAKEN, or LEAVING where it already spans (R39, R88); its approach and stop
marks are disarmed (R15), the timers of its offer stop, and the next head is promoted (R38). -/
def State.release (s : State) (r : Rec) (f : Rec → Rec) : State :=
  let s := s.updRec r.id fun q =>
    f { q with state := if q.exitPass = .none then .taken else .leaving, answered := false,
               landing := none, takenAt := some s.cu.count, whereSent := false }
  let s := if s.marks.owner = some r.id then { s with marks := s.marks.taken } else s
  let s := { s with ex := { s.ex with resend := none, patience := none } }
  s.callLampStep.rehead

/-! ### Creation -/

/-- The fields every created record starts with. -/
def blankRec (id : Nat) (front : Count) : Rec :=
  { id := id, number := notag, cls := classUnknown, origin := 0, steeredBy := 0, hop := 0,
    flags := {}, front := front, state := .entering, entryOpen := true }

/-- A record created at a DIVERT from slot A, or as a STRAY, takes its rack route, and this station's number as its
steered-by where the route has the demand mark (R114, R143). -/
def State.takeRoute (s : State) (id : Nat) (rt : Route) : State :=
  let s := { s with gate := { s.gate with rackRoute := some rt } }
  if rt.demand then
    s.updRec id fun r => { r with steeredBy := s.boot.station.getD 0 }
  else s

/-- Put a record at the rear of the track. -/
def State.appendRec (s : State) (r : Rec) : State :=
  { s with track := s.track ++ [r], nextId := s.nextId + 1 }

/-- The track holds the track limit of records (R37). -/
def State.trackFull (s : State) : Bool := decide (s.boot.prof.trackLimit ≤ s.track.length)

/-- A rack that a full track cannot record (R37). -/
def State.strayAt (s : State) (e : Eye) : State := s.raise .strayRack (Eye.code e)

/-- The oldest RESERVED slot (R95, R101). -/
def State.oldestReserved (s : State) : Option (SlotName × Slot) :=
  let pick (n : SlotName) : Option (SlotName × Slot) :=
    match s.slot n with
    | some x => if x.reserved then some (n, x) else none
    | none => none
  let newest := s.en.newest
  let other : SlotName := if newest = .a then .b else .a
  match pick other with
  | some r => some r
  | none => pick newest

/-- Create a record from the oldest RESERVED slot (R40, R101). -/
def State.createFromSlot (s : State) (n : SlotName) (x : Slot) (front : Count) : State :=
  let id := s.nextId
  let s := s.setSlot n (some { x with landing := some id })
  let i := x.image
  let s := s.appendRec
    { blankRec id front with
        number := i.number, cls := i.cls, origin := i.origin,
        steeredBy := i.steeredBy, hop := satSucc i.hop, flags := i.flags,
        entry := some ⟨x.port, x.serial⟩ }
  let s := s.joinAwaited id fun _ => true
  let s := match s.hasRole .divert, x.route with
    | true, some rt => s.takeRoute id rt
    | _, _ => s
  let s := s.rehead
  let s := s.hopTest id
  let s := s.setNumber id i.number
  if s.boot.prof.reader then s.readDue id else s.endLanding id .ok none

/-- Create a STRAY record at ENTRY (R41); at a DIVERT its route is resolved at creation (R114). ROUTE-LOOP, where the
resolution raises it, comes before STRAY-RACK: the model's choice (log 44). The promotion comes before it too, so that
MISROUTE of a STRAY whose stop mark fires at its load at an UNLOAD is raised before STRAY-RACK: the model's choice
(log 45). -/
def State.createStray (s : State) (front : Count) : State :=
  let id := s.nextId
  let s := s.appendRec { blankRec id front with flags := { stray := true },
                                                localFlags := { stray := true } }
  let s := s.joinAwaited id fun _ => true
  let s := if s.hasRole .divert then
      let (s, rt) := s.resolve classUnknown
      s.takeRoute id rt
    else s
  let s := s.rehead
  let s := s.strayAt .entry
  s.readDue id

/-- An ENTRY lead edge captured at a count (R22, R37, R40, R41). -/
def State.entryLead (s : State) (x : Count) : State :=
  if s.trackFull then s.strayAt .entry
  else match s.oldestReserved with
    | some (n, y) => s.createFromSlot n y x
    | none => s.createStray x

/-- An ENTRY trail edge with the length measured, or absent (R44, R45). Where the record is already SPANNING, the EXIT
jam distance keeps the rack maximum that its EXIT lead edge set (R29): that note 2 of chapter 03, "until then", has the
length replace it at this edge is not followed, which is the model's choice (log 37). -/
def State.entryTrail (s : State) (length : Option Nat) : State :=
  match s.track.find? (·.entryOpen) with
  | none => s
  | some r =>
    let isHead := s.head.map (·.id) = some r.id
    let s := s.updRec r.id fun q =>
      { q with entryOpen := false, length := length,
               state := if q.state = .entering then (if isHead then .head else .riding)
                        else q.state }
    match length with
    | none => s
    | some n =>
      if s.boot.cts.rackMax < n then
        State.raise (s.flagRec r.id { crowded := true }) .crowding r.number.val
      else s

/-! ### Start-up scan -/

/-- The rack route of a START record at a DIVERT (R114): resolved where its front lies short of the gate, and
otherwise the port of the gate's position, or of the position it moves to. The record's steered-by stays 0 (R58,
log 30). -/
def State.startRoute (s : State) (r : Rec) : State :=
  if s.hasRole .divert then
    if s.atGate r then { s with gate := { s.gate with rackRoute := some ⟨s.gate.commanded, false, false⟩ } }
    else
      let (s, rt) := s.resolve classUnknown
      { s with gate := { s.gate with rackRoute := some rt } }
  else s

/-- The START record of a blocked position (R58). -/
def State.startRec (s : State) (offset : Nat) (atEntry atExit : Bool) : Rec :=
  { blankRec s.nextId (Count.minus s.cu.count offset) with
      flags := { start := true }, localFlags := { start := true }, entryOpen := atEntry,
      exitPass := if atExit then .spanning else .none,
      state := if atEntry then .entering else if s.track = [] then .head else .riding }

/-- Create the START record of a blocked position at the rear of the track (R58). -/
def State.createStart (s : State) (offset : Nat) (atEntry atExit : Bool) : State :=
  State.joinAwaited (s.appendRec (s.startRec offset atEntry atExit)) s.nextId fun e =>
    decide (offset < s.offset e)

/-- The fitted eyes that stand at an offset. -/
def State.eyesAt (s : State) (offset : Nat) : List Eye :=
  Eye.all.filter fun e => s.fitted e && s.offset e == offset

/-- Insert an offset into a descending list without repeats. -/
def insertDesc (x : Nat) : List Nat → List Nat
  | [] => [x]
  | y :: ys => if y < x then x :: y :: ys else if y = x then y :: ys else y :: insertDesc x ys

/-- The offsets of the fitted eyes, descending, each once (R58). -/
def State.scanOffsets (s : State) : List Nat :=
  (Eye.all.filter s.fitted).foldl (fun l e => insertDesc (s.offset e) l) []

/-- What the scan has come to: the state, the offsets at which it has created a record, and the eyes of the
positions that a full track could not record. -/
structure ScanAt where
  s : State
  created : List Nat := []
  strays : List Eye := []

/-- One position of the scan (R58, R59). -/
def State.scanAt (a : ScanAt) (offset : Nat) : ScanAt :=
  match (a.s.eyesAt offset).filter fun e => EyeState.isBlocked (a.s.chan e).st with
  | [] => a
  | e :: es =>
    if a.created.any fun o => decide (offset < o) && decide (o < offset + a.s.boot.cts.rackMax) then a
    else if a.s.trackFull then { a with strays := a.strays ++ [e] }
    else
      { a with
        s := a.s.createStart offset ((e :: es).contains .entry) ((e :: es).contains .exit)
        created := offset :: a.created }

/-- A READ is due for the START record at ENTRY (R32, R58). -/
def State.startRead (s : State) : State :=
  match s.track.find? (·.entryOpen) with
  | some r => s.readDue r.id
  | none => s

/-- The start-up scan (R58, R59). The records are created first, so that whatever is raised finds the track as the
scan leaves it (R189): then the routes at a DIVERT, the head with its marks, the READ at ENTRY, and STRAY-RACK for
each position past the track limit. That ROUTE-LOOP and MISROUTE are so raised before STRAY-RACK is the model's choice
(log 45). -/
def State.scan (s : State) : State :=
  let a := s.scanOffsets.foldl State.scanAt { s := s }
  let s := a.s.track.foldl State.startRoute a.s
  a.strays.foldl State.strayAt s.rehead.startRead

end Sys2Proof.Machine
end

