-- ==== Sys2Proof/Machine/DriveOps.lean ====
section
/-! DEFINITION. Shared operations of the drive unit and the idle logic: the transitions between belt
states with what each reports (R65 to R68, R81, R108), the target (R73, R78), and leaving PARK (R157). -/

namespace Sys2Proof.Machine

/-- STALL to the neighbour of each concerned upstream port, whose stall mark is set (R108). -/
def State.sendStalls (s : State) : State :=
  [UpPort.u0, UpPort.u1].foldl (fun t p =>
    if s.concerned p then State.sendPrompt (t.setStallMark p true) (s.upStation p) .stall else t) s

/-- GO with the target speed to the neighbour of each upstream port that is concerned or has its stall
mark set, whose mark is cleared (R108). -/
def State.sendGos (s : State) : State :=
  [UpPort.u0, UpPort.u1].foldl (fun t p =>
    if s.concerned p || s.stallMark p then
      State.sendPrompt (t.setStallMark p false) (s.upStation p)
        (.go (Fin.ofNat 1000 (min s.targetSpeed 999)))
    else t) s

/-- The belt leaves RUN: the unsteady count becomes 0 and the condition of BELT-UNSTEADY ends (R79). The callers end it
while the belt state still reads RUN, so a STATUS that the end queues for a change of level shows belt RUN: the
model's choice (log 47). -/
def State.leaveRun (s : State) : State :=
  let s := { s with dr := { s.dr with unsteady := 0 } }
  if (s.cause .beltUnsteady).present then s.conditionEnd .beltUnsteady else s

def BeltState.regulated : BeltState → Bool
  | .run => true
  | .creep => true
  | .hold => false
  | .spinUp => false
  | .park => false

/-- The belt enters HOLD from RUN, CREEP or SPIN-UP (R62, R66, R67): level 0, the resume level and the
state it was entered from recorded, LOCKED and the runs dropped, a failure state kept (R76); STATUS is
queued and STALL sent (R81, R108). From RUN the condition of BELT-UNSTEADY ends before the belt state changes: the
model's choice (log 47). -/
def State.enterHold (s : State) : State :=
  let d := s.dr
  let reg := BeltState.regulated d.belt
  let s := if d.belt = .run then s.leaveRun else s
  let s := { s with dr := { s.dr with
      belt := .hold, level := 0, resume := if reg then d.level else d.resume,
      holdFrom := some d.belt, holdTicks := 0, spinLeft := none,
      lock := if reg && d.lock == LockState.locked then LockState.unlocked else d.lock,
      inBand := if reg then 0 else d.inBand, outBand := if reg then 0 else d.outBand } }
  State.sendStalls s.queueStatus

/-- The belt enters SPIN-UP from HOLD or PARK (R62, R65, R68): start level, brake released; STATUS is
queued and GO sent (R108). `follows` is false at a wake, when the wanted motion may still be HOLD. A stall mark that
has outlasted its slot into PARK draws its GO at the wake, by R108 against the last sentence of R157: the model's
choice (log 36). -/
def State.enterSpinUp (s : State) (follows : Bool) : State :=
  let s := { s with dr := { s.dr with
      belt := .spinUp, level := s.boot.prof.startLevel, spinLeft := some s.boot.prof.spinUp,
      spinFollows := follows } }
  State.sendGos s.queueStatus

/-- The belt enters RUN or CREEP from an unregulated state at a drive level (R65, R66, R70, R75, R77): the
window restarts, history, saturation counts and runs are cleared, the lock is UNLOCKED; STATUS is queued. -/
def State.enterRegulated (s : State) (b : BeltState) (level : Nat) : State :=
  State.queueStatus { s with dr := { s.dr with
      belt := b, level := level, spinLeft := none, winEdges := 0,
      winLeft := some Config.windowTicks, history := [], lock := .unlocked,
      inBand := 0, outBand := 0, satHigh := 0, satLow := 0 } }

/-- The belt state a wanted motion other than HOLD names. -/
def Wanted.belt : Wanted → BeltState
  | .hold => .hold
  | .creep => .creep
  | .run => .run

/-- A change between RUN and CREEP keeps level, history and counts (R67); leaving RUN ends the unsteady count and the
condition of BELT-UNSTEADY (R79), before the belt state changes: the model's choice (log 47). The STATUS of the change
(R81) is built here, before the target follows the new belt state and R78 makes LOCKED UNLOCKED, so it carries LOCKED:
the model's choice (log 46). -/
def State.switchRegulated (s : State) (b : BeltState) : State :=
  let s := if s.dr.belt = .run then s.leaveRun else s
  State.queueStatus { s with dr := { s.dr with belt := b } }

/-- The HOLD that stands is left by the short-hold bypass (R65). -/
def Drive.short (d : Drive) : Bool :=
  (match d.holdFrom with
    | some b => BeltState.regulated b
    | none => false) && decide (d.holdTicks < Config.shortHold)

/-- The belt follows the wanted motion (R65 to R68). In SPIN-UP it enters HOLD when a held HOLD arises,
or when the wanted motion becomes HOLD after having asked for motion; a wake's SPIN-UP with nothing
wanted goes on to its expiry (R68, R158). -/
def State.followBelt (s : State) : State :=
  match s.dr.belt, s.wanted with
  | .hold, .hold => s
  | .hold, w =>
    if s.dr.short then State.sendGos (s.enterRegulated (Wanted.belt w) s.dr.resume)
    else s.enterSpinUp true
  | .spinUp, .hold => if s.heldHold || s.dr.spinFollows then s.enterHold else s
  | .spinUp, _ => { s with dr := { s.dr with spinFollows := true } }
  | .run, .run => s
  | .run, .creep => s.switchRegulated .creep
  | .run, .hold => s.enterHold
  | .creep, .creep => s
  | .creep, .run => s.switchRegulated .run
  | .creep, .hold => s.enterHold
  | .park, _ => s

/-- A new target (R73); a change by more than the old target's band in RUN or CREEP makes LOCKED
UNLOCKED and clears the in-band run (R78). Where one event changes several inputs of the target, the net change is
compared, once in each pass: the model's choice (log 35). Before the profile is read there is no target. -/
def State.updateTarget (s : State) : State :=
  let old := s.dr.t16
  let new := s.targetT16
  if s.boot.loaded = false then s
  else if BeltState.regulated s.dr.belt
      && (decide (old + band old < new) || decide (new + band old < old)) then
    { s with dr := { s.dr with
        t16 := new, inBand := 0,
        lock := if s.dr.lock = .locked then .unlocked else s.dr.lock } }
  else { s with dr := { s.dr with t16 := new } }

/-- The span word of a port with no TAKEN or LEAVING record toward it becomes FREE (R69). -/
def State.freeSpans (s : State) : State :=
  let s := if s.handing .d0 then s else s.setSpan .d0 .free
  if s.handing .d1 then s else s.setSpan .d1 .free

/-- The idle logic back in AWAKE with no timer running (R149). -/
def Idle.awake (i : Idle) : Idle :=
  { i with phase := .awake, park := none, reply := none, poll := none }

/-- The wake is reported: the belt leaves PARK for SPIN-UP (R68, R157). -/
def State.leavePark (s : State) : State :=
  State.enterSpinUp { s with idle := { s.idle.awake with wakePending := false } } false

/-- A wake cause other than FLUSH (R155, R157, R159): it ends an ask, or wakes a parked belt, or at level 3
in PARK is kept pending. -/
def State.wake (s : State) : State :=
  match s.idle.phase with
  | .asking => { s with idle := s.idle.awake }
  | .parked =>
    if s.att.level = 3 then { s with idle := { s.idle with wakePending := true } }
    else s.leavePark
  | .awake => s
  | .timing => s

/-- At a level of 2 or below a pending wake is reported (R159). -/
def State.pendingWake (s : State) : State :=
  if s.idle.phase == .parked && s.idle.wakePending && s.att.level != 3 then s.leavePark else s

/-- Some fitted eye's raw input differs from its channel state (R156). -/
def State.eyeChanged (s : State) : Bool := Eye.all.any fun e => s.fitted e && (s.chan e).differs

/-- The belt enters PARK from idle HOLD (R68, R154), and leaves it at once when the sample at entry finds an
eye changed. -/
def State.enterPark (s : State) : State :=
  let s := { s with
    dr := { s.dr with belt := .park }
    idle := { s.idle with phase := .parked, park := none, reply := none,
                          poll := some s.boot.prof.pollPeriod, wakePending := false } }
  let s := s.queueStatus
  if s.eyeChanged then s.wake else s

/-- The phase TIMING with the full park delay (R150, R153). -/
def State.startTiming (s : State) : State :=
  { s with idle := { s.idle with phase := .timing, reply := none,
                                 park := some (s.boot.prof.parkDelay * 100) } }

/-- The phase follows idle HOLD (R150, R155): it begins TIMING with a park delay above 0, and its end
stops the timer or the ask. -/
def State.followIdle (s : State) : State :=
  match s.idle.phase with
  | .awake => if s.idleHold && decide (s.boot.prof.parkDelay > 0) then s.startTiming else s
  | .timing => if s.idleHold then s else { s with idle := s.idle.awake }
  | .asking => if s.idleHold then s else { s with idle := s.idle.awake }
  | .parked => s

end Sys2Proof.Machine
end

