-- ==== Sys2Proof/Machine/Settle.lean ====
section
/-! DEFINITION. What comes about inside a step besides the event itself: each block acts on the inputs that
the event changed. `settle` brings every derived action up to date. -/

namespace Sys2Proof.Machine

/-! ### Offers -/

/-- The image of a record, for OFFER (R84). -/
def Rec.image (r : Rec) : Image :=
  { number := r.number, cls := r.cls, origin := r.origin, steeredBy := r.steeredBy, hop := r.hop,
    flags := r.flags }

/-- The OFFER frame of a record under a serial (R84). -/
def State.offerPayload (s : State) (r : Rec) (n : Serial) : Payload :=
  .offer n r.image (lengthField s.boot.prof.k r.length)

/-- The patience timer of a new serial (R121). -/
def State.patienceStart (s : State) : Option Nat :=
  if s.hasRole .divert && decide (s.boot.prof.patience > 0) then some (s.boot.prof.patience * 100)
  else none

/-- A lost-list entry with the same port and serial is discarded at reuse, which sets the plain-loss marker
(R84, R94). -/
def State.discardReused (s : State) (p : DownPort) (n : Serial) : State :=
  if s.ex.lost.any fun x => x.port == p && x.serial == n then
    { s with ex := { s.ex with
        lost := s.ex.lost.filter fun x => !(x.port == p && x.serial == n), plainLoss := true } }
  else s

/-- OFFER is sent for the head on a connected port (R84). -/
def State.sendOffer (s : State) (r : Rec) (p : DownPort) : State :=
  let n := s.nextSerial p
  let s := s.bumpSerial p
  let s := s.updRec r.id fun q =>
    { q with state := .offered, exitPort := some p, exitSerial := some n, answered := false }
  let s := s.discardReused p n
  let s := { s with ex := { s.ex with sendCount := 1, resend := some Config.resendFast,
                                      patience := s.patienceStart } }
  s.sendPrompt (s.downStation p) (s.offerPayload r n)

/-- A head whose exit port is unconnected is released without an exchange (R85). -/
def State.releaseFree (s : State) (r : Rec) (p : DownPort) : State :=
  let steer := s.steersRecord r
  let s := s.release r fun q =>
    { q with exitPort := some p, exitSerial := none, landing := some .ok }
  if steer then s.steeredAdd p r.number 0 else s

/-- Offer, or release, every head for which the conditions of R84 hold; a release may let the next head
follow. -/
def State.offerLoop : Nat → State → State
  | 0, s => s
  | n + 1, s =>
    match s.offerable with
    | none => s
    | some r =>
      let p := s.exitPortOf
      State.offerLoop n
        (if s.downStation p = 0 then s.releaseFree r p else s.sendOffer r p)

/-- At most 12 records can follow one another. -/
def State.offerStep (s : State) : State := s.offerLoop 13

/-- The restriction level has reached 3: the outstanding offer is withdrawn (R89). -/
def State.withdrawAtLevel3 (s : State) : State :=
  if s.att.level = 3 then s.withdrawHead else s

/-! ### Gate -/

/-- Compare the claimant's route with the gate (R116, R117): command the other position, hold the command
while the gate moves or the law forbids it, or discard it. The gate is commanded from SCANNING onward
(R115). At a settle expiry with the route still unserved and the move forbidden, R116 says both that the held command is
discarded and that a forbidden command is held and tested again. It is held, and a move starts once the law allows it:
the model's choice (log 48). -/
def State.gateStep (s : State) : State :=
  if s.hasRole .divert then
    match s.claimantRoute with
    | none =>
      if s.gate.pos = .moving then s else { s with gate := { s.gate with held := none } }
    | some rt =>
      if s.gate.pos = .moving then
        if rt.port = s.gate.commanded then s
        else { s with gate := { s.gate with held := some rt.port } }
      else if s.gate.setFor rt.port then { s with gate := { s.gate with held := none } }
      else if s.gateHeldByLaw then { s with gate := { s.gate with held := some rt.port } }
      else { s with gate := { s.gate with
               pos := .moving, commanded := rt.port, held := none,
               settle := some s.boot.prof.gateSettle } }
  else s

/-! ### Entry -/

/-- Reserve a slot for an offer and send TAKE (R99); at a MERGE this is the port's grant (R110). -/
def State.takeOffer (s : State) (p : UpPort) (serial : Serial) (image : Image) (rt : Option Route) :
    State :=
  match s.freeSlot with
  | none => s
  | some n =>
    let s := s.setSlot n (some
      { landing := none, port := p, serial := serial, image := image, takenAt := s.cu.count,
        route := rt })
    let s := { s with en := { s.en with newest := n } }
    let s := s.setNoted p none
    let s := if s.hasRole .merge then { s with en := { s.en with lastGranted := p } } else s
    s.sendPrompt (s.upStation p) (.take serial)

/-- Take a NOTED offer whose port is ready (R99, R111). -/
def State.takeNoted (s : State) (p : UpPort) : State :=
  match s.readyNoted p with
  | none => s
  | some n => s.takeOffer p n.serial n.image n.route

/-- The readiness test of both ports (R97, R111). -/
def State.readyStep (s : State) : State := (s.takeNoted .u0).takeNoted .u1

/-! ### Unaccounted blocking -/

/-- The unaccounted-from count of a watched eye (R30): absent while a record is over the eye or the eye is
clear, and otherwise the count at which that began. -/
def State.unaccountedOf (s : State) (e : Eye) (began : Count) : Option Count :=
  let c := s.chan e
  if s.watches e && EyeState.isBlocked c.st && !s.anyOver e then
    (match c.unaccounted with
      | some u => some u
      | none => some began)
  else none

/-- Bring the unaccounted-from counts up to date: what begins now begins at the belt count (R30). -/
def State.unaccountedStep (s : State) : State :=
  [Eye.checkA, .checkB, .gate, .bay].foldl (fun t e =>
    t.updChan e fun c => { c with unaccounted := s.unaccountedOf e s.cu.count }) s

/-! ### Settling -/

/-- One pass over the blocks, in this order: the bay unit on what has just changed, the withdrawal at level 3, span words, a pending wake, the
gate, offers, the belt, the target, entry readiness (where the step tests it), the idle phase, the bay unit again
(the want and the call lamp) and the unaccounted-from counts. The attention lamp follows each change of a cause's state by
itself (`State.changeCause`). -/
def State.pass (entry : Bool) (s : State) : State :=
  let s := s.bayFollows
  let s := s.withdrawAtLevel3
  let s := s.freeSpans
  let s := s.pendingWake
  let s := s.gateStep
  let s := s.offerStep
  let s := s.followBelt
  let s := s.updateTarget
  let s := if entry then s.readyStep else s
  let s := s.followIdle
  let s := s.bayFollows
  s.unaccountedStep

/-- What a level of 3 does at the moment it is reached (R62, R89): a level that the passes themselves raise, by
a frame that the full queue discards, still withdraws the offer and stops the belt within the step, and the target
is again that of the belt state (R73). -/
def State.restrict3 (s : State) : State :=
  if s.att.level = 3 then
    let s := s.withdrawHead
    if s.dr.belt = .hold ∨ s.dr.belt = .park then s else s.enterHold.updateTarget
  else s

/-- The end of a step: the restriction of level 3, and the lamps as the track (R134) and the causes (R183) then
stand. -/
def State.finish (s : State) : State := s.restrict3.callLampStep.attLampStep

/-- All derived actions of a step (log 10): a pass may change the inputs of an earlier block, by reserving a
slot, or by a frame the full queue discards, which raises LINE-OVERRUN; the third pass takes up both. -/
def State.settle (s : State) : State :=
  State.finish (State.pass true (State.pass true (State.pass true s)))

/-- The derived actions of a belt edge: the same, but for entry readiness, whose test at an edge is the
row ENTRY_READY. -/
def State.settleEdge (s : State) : State :=
  State.finish (State.pass false (State.pass false (State.pass false s)))

end Sys2Proof.Machine
end

