-- ==== Sys2Proof/Machine/DriveEvents.lean ====
section
/-! DEFINITION. The drive unit's events: the window end with its measurement and regulation (R70, R71,
R74 to R77), the unsteady limit (R79), the end of SPIN-UP (R66); and the track's: a vanishing (R54) and
an exposure met (R80). -/

namespace Sys2Proof.Machine

/-! ### Window end -/

/-- The window count: the edge count clamped to 0 to 1023 (R70). -/
def windowCount (edges : Int) : Nat := min edges.toNat 1023

/-- The history after a window: at most four counts, newest last (R70). -/
def pushHistory (h : List Nat) (w : Nat) : List Nat :=
  let h := h ++ [w]
  h.drop (h.length - 4)

/-- M16 of a history (R71). -/
def measure (h : List Nat) : Nat := 16 * h.sum / h.length

/-- The reported speed of a measured speed (R71). -/
def speedOf (k m16 : Nat) : Fin 1000 := Fin.ofNat 1000 (min (m16 * 250 / k) 999)

/-- The measurement at a window end, in every belt state (R70, R71); the reported speed of a belt pushed
before the profile gives K is a free value (log 1). -/
def State.windowMeasure (s : State) : State :=
  let h := pushHistory s.dr.history (windowCount s.dr.winEdges)
  let m := measure h
  let v : Fin 1000 :=
    if s.boot.loaded then speedOf s.boot.prof.k m
    else if m = 0 then 0
    else Config.unprofiledSpeed m
  { s with dr := { s.dr with
      winEdges := 0, winLeft := some Config.windowTicks, history := h, m16 := m, vmeas := v } }

/-- The change of the drive level for an error (R74): E × G / 64, truncated toward zero. -/
def levelChange (e : Int) (g : Nat) : Int := (e * g).tdiv 64

/-- The lock step of a window end (R77). -/
def Drive.lockStep (d : Drive) (e : Int) : Drive :=
  let b := band d.t16
  match d.lock with
  | .unlocked =>
    if e.natAbs ≤ b then
      if d.inBand + 1 < 4 then { d with inBand := d.inBand + 1 }
      else { d with inBand := 4, lock := .locked, outBand := 0 }
    else { d with inBand := 0 }
  | .locked =>
    if 2 * b < e.natAbs then
      if d.outBand + 1 < 2 then { d with outBand := d.outBand + 1 }
      else { d with outBand := 2, lock := .unlocked, inBand := 0 }
    else { d with outBand := 0 }
  | .failSlow => d
  | .failFast => d

/-- The level and the saturation counts after a window with an error (R74, R75). -/
def Drive.regulate (d : Drive) (e : Int) (g : Nat) : Drive :=
  let sum := (d.level : Int) + levelChange e g
  { d with
    level := min sum.toNat 1023
    satHigh := if 1023 < sum ∧ 0 < e then min (d.satHigh + 1) 8 else 0
    satLow := if sum < 0 ∧ e < 0 then min (d.satLow + 1) 8 else 0 }

/-- The belt has locked: the unsteady count is 0 and the condition of BELT-UNSTEADY ends (R79), after the lock state has
changed: a STATUS of the level change shows LOCKED, the model's choice (log 47). -/
def State.lockedNow (s : State) : State :=
  if s.dr.lock = .locked then State.leaveRun s else s

/-- Regulation at a window end in RUN or CREEP (R74 to R77). A failure state stands before its cause is raised, and the
belt enters HOLD after the raise: the model's choice (log 47). -/
def State.windowRegulate (s : State) : State :=
  let e : Int := (s.dr.t16 : Int) - (s.dr.m16 : Int)
  let s := { s with dr := s.dr.regulate e s.boot.prof.gain }
  if s.dr.satHigh = 8 then
    State.raise { s with dr := { s.dr with lock := .failSlow } } .beltOverload s.dr.vmeas.val
  else if s.dr.satLow = 8 then
    State.raise { s with dr := { s.dr with lock := .failFast } } .beltOverrun s.dr.vmeas.val
  else State.lockedNow { s with dr := s.dr.lockStep e }

/-- WINDOW_END (R70). -/
def State.doWindowEnd (s : State) : State :=
  if expired s.dr.winLeft then
    let s := s.windowMeasure
    let s := if BeltState.regulated s.dr.belt then s.windowRegulate else s
    s.settle
  else s

/-! ### Unsteady, SPIN-UP -/

/-- The unsteady count has reached the limit (R79). -/
def State.unsteadyDue (s : State) : Bool :=
  s.dr.belt == .run && s.dr.lock == .unlocked && !(s.cause .beltUnsteady).present
    && decide (s.boot.prof.unsteadyLimit * 100 ≤ s.dr.unsteady)

/-- BELT_UNSTEADY (R79). -/
def State.doBeltUnsteady (s : State) : State :=
  if s.unsteadyDue then (s.raiseStanding .beltUnsteady s.dr.vmeas.val).settle else s

/-- The drive unit tells the attention unit that the belt has left RUN (R79) where the event that took it out of RUN left
the mark as it stood, as FLUSH does (R174, log 34). It is no row: it is taken with what is due. -/
def State.doUnsteadyOver (s : State) : State :=
  if s.dr.belt != .run && (s.cause .beltUnsteady).present then (s.conditionEnd .beltUnsteady).settle else s

/-- SPIN_UP_EXPIRY (R66, R158). -/
def State.doSpinUpExpiry (s : State) : State :=
  if s.dr.belt == .spinUp && expired s.dr.spinLeft then
    State.settle (match s.wanted with
      | .hold => s.enterHold
      | w => s.enterRegulated (Wanted.belt w) s.dr.level)
  else s

/-! ### Track -/

/-- The belt has carried a record's place past the exit by more than the jam allowance, with no pending lead edge
at EXIT (R54). -/
def State.vanishPast (s : State) (r : Rec) : Bool :=
  !s.eyes.exit.pendingLead && r.exitPass == .none
    && decide (s.boot.cts.jam < travel (r.crossing s.boot.cts.exit) s.cu.count)

/-- The front-most record that the last edge found past the exit, and that still is (R54, log 14). -/
def State.vanishDue (s : State) : Option Rec :=
  s.track.find? fun r => s.found.contains (.vanish r.id) && s.vanishPast r

/-- RECORD_VANISH (R54). -/
def State.doRecordVanish (s : State) : State :=
  match s.vanishDue with
  | some r => (s.vanish r).settle
  | none => s

/-- RESIDENCE_EXPOSURE_MET (R80): at a TUNNEL with a minimum exposure the offer conditions of the head are
tested again, and the offer goes out where they hold. -/
def State.doResidenceExposureMet (s : State) : State :=
  if s.hasRole .tunnel && decide (s.boot.prof.minExposure > 0) && s.offerable.isSome then s.settle
  else s

end Sys2Proof.Machine
end

