-- ==== Sys2Proof/Machine/EyeEvents.lean ====
section
/-! DEFINITION. The eye unit's events: confirming an edge and delivering it to its consumers (R20 to
R23, R26, R28), first states (R24), missed records (R27), jams and stuck eyes (R29, R30), with what
an edge does at EXIT (R49 to R52) and at a bay (R57, R129, R130). -/

namespace Sys2Proof.Machine

/-! ### Which record takes an edge -/

/-- A record's slip against an edge captured at x, at an eye of an offset (R26, R49). -/
def Rec.slipAt (r : Rec) (offset : Nat) (x : Count) : Int := slip (r.crossing offset) x

/-- Of a list of records, front-most first, the one with the smallest absolute slip; of equals the
front-most (R26, R28, R49). -/
def nearest (offset : Nat) (x : Count) : List Rec → Option Rec
  | [] => none
  | r :: rs =>
    match nearest offset x rs with
    | none => some r
    | some q => if (q.slipAt offset x).natAbs < (r.slipAt offset x).natAbs then some q else some r

/-- Correct a record's front by its slip (R26, R48); a correction of the mark group's owner goes to the
comparator (R16). -/
def State.correct (s : State) (r : Rec) (v : Int) : State :=
  let front := Count.shift r.front v
  let s := s.updRec r.id fun q => { q with front := front }
  if s.marks.owner = some r.id then s.recomputeGroup front else s

/-- Flag a set of records SLIPPED (R26, R27). -/
def State.slipped (s : State) (ids : List Nat) : State :=
  ids.foldl (fun t i => t.flagRec i { slipped := true }) s

/-- A check-eye lead edge that a record of the awaited list takes: those ahead of it in the list are
missed (R26). -/
def State.takeAwaited (s : State) (e : Eye) (x : Count) (r : Rec) : State :=
  let c := s.chan e
  let ahead := c.awaited.takeWhile (· != r.id)
  let s := s.setChan e { c with
    awaited := (c.awaited.dropWhile (· != r.id)).drop 1
    missed := s.inTrackOrder (c.missed ++ ahead) }
  State.correct (s.slipped ahead) r (r.slipAt (s.offset e) x)

/-- A check-eye lead edge captured at x: the awaited list within the tolerance (R26), else the missed list
within four times it, else STRAY-RACK (R28). -/
def State.checkLead (s : State) (e : Eye) (x : Count) : State :=
  let c := s.chan e
  let o := s.offset e
  let within (n : Nat) (ids : List Nat) : List Rec :=
    (ids.filterMap s.recOf).filter fun r => decide ((r.slipAt o x).natAbs ≤ n)
  match nearest o x (within s.boot.cts.tol c.awaited) with
  | some r => s.takeAwaited e x r
  | none =>
    match nearest o x (within (4 * s.boot.cts.tol) c.missed) with
    | some r =>
      State.correct (s.setChan e { c with missed := c.missed.filter (· != r.id) }) r
        (r.slipAt o x)
    | none => s.strayAt e

/-! ### ENTRY -/

/-- An ENTRY lead edge: the capture pair (R22), then the track (R40, R41). -/
def State.entryLeadEdge (s : State) (x : Count) : State :=
  State.entryLead { s with eyes := { s.eyes with lead := some x, leadFresh := true } } x

/-- An ENTRY trail edge: the length is the forward distance between the captures while the lead is fresh,
and absent otherwise (R23). -/
def State.entryTrailEdge (s : State) (x : Count) : State :=
  let length := match s.eyes.leadFresh, s.eyes.lead with
    | true, some l => some (dist l x)
    | _, _ => none
  State.entryTrail
    { s with eyes := { s.eyes with trail := some x, trailFresh := false, leadFresh := false } } length

/-! ### EXIT -/

/-- A record takes the exit passage: SPANNING, its length sets the EXIT jam distance, and a TAKEN record
becomes LEAVING (R29, R49, R50). -/
def State.takePassage (s : State) (r : Rec) : State :=
  let s := s.updRec r.id fun q =>
    { q with exitPass := .spanning, state := if q.state = .taken then .leaving else q.state }
  State.rehead (s.updChan .exit fun c => { c with jamDist := s.jamOf r })

/-- The records that can take an EXIT lead edge captured at x (R49). -/
def State.exitCandidates (s : State) (x : Count) : List Rec :=
  s.track.filter fun r =>
    let v := r.slipAt s.boot.cts.exit x
    r.exitPass == .none && decide (-(4 * s.boot.cts.tol : Int) ≤ v) && decide (v ≤ (s.boot.cts.jam : Int))

/-- An EXIT lead edge captured at x (R49). The records ahead of the taker vanish one at a time, the front-most first and
before the taker has its passage, so each next one is promoted in its turn: the model's choice (log 45). -/
def State.exitLead (s : State) (x : Count) : State :=
  match nearest s.boot.cts.exit x (s.exitCandidates x) with
  | some r =>
    let ahead := (s.track.takeWhile fun q => q.id != r.id).filter fun q => q.exitPass == .none
    State.takePassage (ahead.foldl State.vanish s) r
  | none =>
    s.strayAt .exit |>.updChan .exit fun c => { c with jamDist := s.jamOfMax }

/-- An EXIT trail edge (R51 to R53). -/
def State.exitTrail (s : State) : State :=
  match s.track.find? fun r => r.exitPass == .spanning with
  | none => s
  | some r =>
    let s := s.updRec r.id fun q => { q with exitPass := .passed }
    if r.state = .leaving then (if r.landing.isSome then s.removeRec r else s)
    else s.vanish r

/-! ### BAY -/

/-- The head makes way for a record that joins ahead of it: an outstanding offer is withdrawn, and HEAD or
AT-BAY becomes RIDING (R57). -/
def State.displaceHead (s : State) : State :=
  let s := s.withdrawHead
  match s.head with
  | none => s
  | some h => State.callLampStep (s.updRec h.id fun q =>
      { q with state := if q.state = .head || q.state = .atBay then .riding else q.state })

/-- The place of a bay record with a travel: how many records stay ahead of it (R57). -/
def State.bayPlace (s : State) (t : Nat) : Nat :=
  (s.track.takeWhile fun q => q.handed || decide (t ≤ s.travelOf q)).length

/-- Create a PLACED record (R57, R130). -/
def State.placeRec (s : State) (x : Count) : State :=
  if s.trackFull then s.strayAt .bay
  else
    let id := s.nextId
    let o := s.boot.cts.bay
    let r : Rec := { blankRec id (Count.minus x o) with
      flags := { placed := true }
      localFlags := { placed := true }
      state := .riding
      entryOpen := false }
    let n := s.bayPlace (s.travelOf r)
    let s := if (s.track.drop n).any (fun q => s.head.map (·.id) == some q.id) then s.displaceHead
             else s
    let s := { s with track := s.track.take n ++ r :: s.track.drop n, nextId := id + 1 }
    State.rehead (s.joinAwaited id fun e => decide (o < s.offset e))

/-- A BAY lead edge at LOAD and UNLOAD (R130). -/
def State.bayLead (s : State) (x : Count) : State := if s.anyOver .bay then s else s.placeRec x

/-- The bay record (R129). -/
def State.bayRecord (s : State) : Option Rec :=
  match s.head with
  | none => none
  | some r =>
    if s.marks.owner == some r.id && s.marks.stop.st == .fired
        && (r.state == .atBay || r.state == .offered) then some r else none

/-- A BAY trail edge at LOAD and UNLOAD lifts the bay record (R56, R129). -/
def State.bayTrail (s : State) : State :=
  match s.bayRecord with
  | some r => s.removeRec r
  | none => s

/-! ### Confirmation -/

/-- What a confirmed edge is. -/
inductive Edge where
  | lead | trail
  deriving DecidableEq, Repr

/-- The table of R21: the new channel state, and the edge delivered. -/
def EyeState.confirm : EyeState → Bool → EyeState × Option Edge
  | .clear, false => (.blocked, some .lead)
  | .clear, true => (.returned, none)
  | .blocked, false => (.clear, some .trail)
  | .blocked, true => (.receded, none)
  | .receded, _ => (.blocked, none)
  | .returned, _ => (.clear, none)

/-- The channel of e reads clear: its jam or stuck condition ends, EYE-STUCK with the last eye that reports
it (R29, R30, R176). -/
def State.eyeCleared (s : State) (e : Eye) : State :=
  let c := s.chan e
  let s := s.setChan e { c with jam := false, stuck := false, unaccounted := none }
  let s := if c.jam then s.conditionEnd (if e = .entry then .entryJam else .exitJam) else s
  if c.stuck && !(Eye.all.any fun f => (s.chan f).stuck) then s.conditionEnd .eyeStuck else s

/-- Deliver an edge captured at x to the consumers of its channel (R22). -/
def State.deliver (s : State) (e : Eye) (x : Count) (k : Edge) : State :=
  match e, k with
  | .entry, .lead => s.entryLeadEdge x
  | .entry, .trail => s.entryTrailEdge x
  | .exit, .lead => s.exitLead x
  | .exit, .trail => s.exitTrail
  | .bay, .lead => if s.bayRole then s.bayLead x else s.checkLead .bay x
  | .bay, .trail => if s.bayRole then s.bayTrail else s
  | e, .lead => s.checkLead e x
  | _, .trail => s

/-- The change of channel state at a confirmed edge captured at x (R21, R29). -/
def State.changeChan (s : State) (e : Eye) (p : PendEdge) : State :=
  let c := s.chan e
  let st := (EyeState.confirm c.st p.reverse).1
  let s := s.setChan e { c with
    st := st
    pend := none
    blockedFrom := if EyeState.isBlocked st then p.count else c.blockedFrom
    jamDist := if e = .exit && st == .returned then s.jamOfMax else c.jamDist }
  if EyeState.isBlocked st then s else s.eyeCleared e

/-- The pending edge of an eye, when its run of samples is complete. Before ACTIVE an edge waits in the
filter (log 22); in PARK none is confirmed (R20, R156). -/
def State.confirmDue (s : State) (e : Eye) : Option PendEdge :=
  match (s.chan e).pend with
  | none => none
  | some p =>
    if s.boot.mode == .active && s.fitted e && s.dr.belt != .park
        && decide (s.boot.prof.eyeFilter ≤ p.run) then some p else none

/-- Confirm an edge: the channel state (R21), the delivery (R22), and the unaccounted-from count where the
eye blocked with no record over it (R30). A jam or stuck condition of the eye ends before the edge is delivered: the
model's choice (log 45). -/
def State.confirm (s : State) (e : Eye) (p : PendEdge) : State :=
  let k := (EyeState.confirm (s.chan e).st p.reverse).2
  let s := s.changeChan e p
  let s := match k with
    | some k => s.deliver e p.count k
    | none => s
  s.updChan e fun c => { c with unaccounted := s.unaccountedOf e p.count }

/-- EYE_EDGE_CONFIRM (R20). -/
def State.doEyeEdgeConfirm (s : State) (e : Eye) : State :=
  match s.confirmDue e with
  | some p => (s.confirm e p).settle
  | none => s

/-! ### First states -/

/-- A fitted channel's run of agreeing samples is as long as the eye filter (R24). -/
def State.firstDue (s : State) (e : Eye) : Bool :=
  s.boot.mode == .scanning && s.fitted e && !(s.chan e).settled
    && decide (s.boot.prof.eyeFilter ≤ (s.chan e).firstRun)

/-- The channel takes its first state (R24). -/
def State.takeFirst (s : State) (e : Eye) : State :=
  let c := s.chan e
  s.setChan e { c with
    settled := true
    st := if c.firstLevel then .blocked else .clear
    blockedFrom := if c.firstLevel then s.cu.count else c.blockedFrom
    jamDist := if e = .exit && c.firstLevel then s.jamOfMax else c.jamDist }

/-- Every fitted channel has taken its first state. -/
def State.allSettled (s : State) : Bool := Eye.all.all fun e => !s.fitted e || (s.chan e).settled

/-- The scan and then the entry to ACTIVE, one event (R58, R189). What the scan raises is raised in SCANNING, on the
track as the scan leaves it, so a STATUS that such a raise queues shows SCANNING; the STATUS of the entry shows
ACTIVE. -/
def State.enterActive (s : State) : State :=
  let s := State.queueStatus { s.scan with boot := { s.scan.boot with mode := .active } }
  let s := { s with line := { s.line with statusTimer := some Config.statusTicks } }
  if s.hasRole .load then
    State.queueWant { s with bay := { s.bay with want := s.wantNow,
                                                 wantTimer := some Config.wantTicks } }
  else s

/-- EYE_FIRST_STATE (R24, R189): a watched eye found BLOCKED before the scan has no record over it, and holds its
unaccounted-from count at once (R30). -/
def State.doEyeFirstState (s : State) (e : Eye) : State :=
  if s.firstDue e then
    let s := s.takeFirst e
    if s.allSettled then s.enterActive.settle else s.unaccountedStep
  else s

/-! ### Missed records, jams, stuck eyes -/

/-- The belt has carried a record past its predicted crossing of a check eye by more than the tolerance, and the
channel has no pending lead edge (R27). -/
def State.latePast (s : State) (e : Eye) (r : Rec) : Bool :=
  s.isCheck e && !(s.chan e).pendingLead
    && decide (s.boot.cts.tol < travel (r.crossing (s.offset e)) s.cu.count)

/-- What a forward edge finds at a check eye (R27): its awaited records from the first on, as far as they are
late, since the next becomes first and is watched in turn. -/
def State.findMissed (s : State) (e : Eye) : List BeltTest :=
  (((s.chan e).awaited.filterMap s.recOf).takeWhile (s.latePast e)).map fun r => .missed e r.id

/-- The first awaited record of a check eye, when the last edge found it late and it still is (R27). -/
def State.missedDue (s : State) (e : Eye) : Option Rec :=
  match (s.chan e).awaited with
  | [] => none
  | i :: _ =>
    match s.recOf i with
    | none => none
    | some r => if s.found.contains (.missed e r.id) && s.latePast e r then some r else none

/-- CHECK_MISSED (R27). -/
def State.doCheckMissed (s : State) (e : Eye) : State :=
  match s.missedDue e with
  | none => s
  | some r =>
    let c := s.chan e
    let s := s.setChan e { c with
      awaited := c.awaited.filter (· != r.id)
      missed := s.inTrackOrder (c.missed ++ [r.id]) }
    (s.flagRec r.id { slipped := true }).settle

/-- The jam distance of ENTRY and of EXIT (R29). -/
def State.jamDistOf (s : State) (e : Eye) : Nat :=
  if e = .exit then (s.chan e).jamDist else s.jamOfMax

/-- ENTRY or EXIT has been blocked for more travel than its jam distance, and has not reported it (R29). -/
def State.jamPast (s : State) (e : Eye) : Bool :=
  let c := s.chan e
  (e == .entry || e == .exit) && s.fitted e && EyeState.isBlocked c.st && !c.jam
    && decide (s.jamDistOf e < travel c.blockedFrom s.cu.count)

/-- The last edge found the jam, and it still stands (R29). -/
def State.jamDue (s : State) (e : Eye) : Bool := s.found.contains (.jam e) && s.jamPast e

/-- EYE_JAM (R29). -/
def State.doEyeJam (s : State) (e : Eye) : State :=
  if s.jamDue e then
    State.settle (State.raiseStanding (s.updChan e fun c => { c with jam := true })
      (if e = .entry then .entryJam else .exitJam) (Eye.code e))
  else s

/-- A watched eye's unaccounted blocking has lasted for more travel than the jam allowance, and the eye has not
reported it (R30). -/
def State.stuckPast (s : State) (e : Eye) : Bool :=
  let c := s.chan e
  s.watches e && !c.stuck && (match c.unaccounted with
    | some u => decide (s.boot.cts.jam < travel u s.cu.count)
    | none => false)

/-- The last edge found the blocking, and it still stands (R30). -/
def State.stuckDue (s : State) (e : Eye) : Bool := s.found.contains (.stuck e) && s.stuckPast e

/-- EYE_STUCK (R30). -/
def State.doEyeStuck (s : State) (e : Eye) : State :=
  if s.stuckDue e then
    State.settle (State.raiseStanding (s.updChan e fun c => { c with stuck := true }) .eyeStuck
      (Eye.code e))
  else s

end Sys2Proof.Machine
end

