-- ==== Sys2Proof/Machine/BayEvents.lean ====
section
/-! DEFINITION. The bay unit's events: keys recognised (R124), the class, SEND and EMPTY keys (R124, R127,
R128), the WANT timer (R132) and the call lamp (R134). -/

namespace Sys2Proof.Machine

/-! ### Key samples -/

/-- The level of KRm while KSk is driven low, in the sample of a tick (R124). -/
def PinSample.krPin (p : PinSample) (k m : Nat) : Bool := p.matrix.getLsbD (4 * k + m)

/-- Position n of the key matrix reads pressed: KR (n mod 4) is low while KS (n / 4) is driven low (R124). -/
def PinSample.position (p : PinSample) (n : Nat) : Bool := !PinSample.krPin p (n / 4) (n % 4)

/-- One sample of a key (R124): its first run of three agreeing samples gives its recognised state; later
the run that reads the opposite state is counted. -/
def KeySt.sample (k : KeySt) (p : Bool) : KeySt :=
  let run := if k.run > 0 ∧ k.cand = p then min (k.run + 1) Config.sampleRun else 1
  match k.pressed with
  | none => { pressed := if run = Config.sampleRun then some p else none, cand := p, run := run }
  | some _ => { k with cand := p, run := run }

/-- The run that recognises a press is complete. -/
def KeySt.pressDue (k : KeySt) : Bool :=
  k.pressed == some false && k.cand && decide (Config.sampleRun ≤ k.run)

/-- The run that recognises a release is complete. -/
def KeySt.releaseDue (k : KeySt) : Bool :=
  k.pressed == some true && !k.cand && decide (Config.sampleRun ≤ k.run)

/-- The key takes the state its samples read. -/
def KeySt.recognise (k : KeySt) : KeySt := { k with pressed := some k.cand }

/-- A press recognised in ACTIVE is a wake cause, whatever its own rule does (R124, R157). -/
def State.pressWakes (s : State) : State := if s.boot.mode = .active then s.wake else s

/-- A class key. -/
def State.classKey (s : State) (n : RackClass) : KeySt := s.bay.classKeys.getD n.val {}

/-- The classes whose keys are recognised as pressed at this sample. -/
def State.classDue (s : State) : List RackClass :=
  (List.finRange 16).filter fun n => (s.classKey n).pressDue

/-- CLASS_KEY_PRESS (R124): presses recognised at one sample are one event, and select only when there is
one of them. -/
def State.doClassKeyPress (s : State) (n : RackClass) : State :=
  if (s.classKey n).pressDue then
    let one : Bool := s.boot.mode == .active && s.classDue == [n]
    let keys := s.bay.classKeys.map fun (k : KeySt) => if k.pressDue then k.recognise else k
    let bay := { s.bay with classKeys := keys, selected := if one then some n else s.bay.selected }
    let s := { s with bay := bay }
    s.pressWakes.settle
  else s

/-- The AT-BAY record. -/
def State.atBayRec (s : State) : Option Rec := s.track.find? fun r => r.state == .atBay

/-- A record is released with a class (R127, R128). -/
def State.setReleased (s : State) (r : Rec) (cls : RackClass) : State :=
  let s := s.updRec r.id fun q => { q with cls := cls }
  { s with bay := { s.bay with released := true } }

/-- SEND (R127). -/
def State.sendPressed (s : State) : State :=
  match s.atBayRec, s.bay.selected with
  | some r, some c =>
    if c = classEmpty then s
    else
      let s := s.setReleased r (if c = classUnknown then classMixed else c)
      let s := { s with bay := { s.bay with selected := none } }
      if s.hasRole .load then
        s.updRec r.id fun q => { q with origin := s.boot.station.getD 0 }
      else s
  | _, _ => s

/-- EMPTY (R128). -/
def State.emptyPressed (s : State) : State :=
  match s.atBayRec with
  | none => s
  | some r =>
    if s.hasRole .unload then s.setReleased r classEmpty
    else if r.cls = classUnknown then s.updRec r.id fun q => { q with cls := classEmpty }
    else s

/-- SEND and EMPTY are recognised at one sample: neither is acted on (R124). -/
def State.bothPressed (s : State) : State :=
  State.settle (State.pressWakes { s with bay := { s.bay with
    sendKey := s.bay.sendKey.recognise, emptyKey := s.bay.emptyKey.recognise } })

/-- SEND_KEY_PRESS (R124, R127). -/
def State.doSendKeyPress (s : State) : State :=
  if s.bay.sendKey.pressDue then
    if s.bay.emptyKey.pressDue then s.bothPressed
    else
      let s := { s with bay := { s.bay with sendKey := s.bay.sendKey.recognise } }
      (if s.boot.mode = .active then s.sendPressed.pressWakes else s).settle
  else s

/-- EMPTY_KEY_PRESS (R124, R128). -/
def State.doEmptyKeyPress (s : State) : State :=
  if s.bay.emptyKey.pressDue then
    if s.bay.sendKey.pressDue then s.bothPressed
    else
      let s := { s with bay := { s.bay with emptyKey := s.bay.emptyKey.recognise } }
      (if s.boot.mode = .active then s.emptyPressed.pressWakes else s).settle
  else s

/-- KEY_RELEASE of SEND, EMPTY or a class key (R124). -/
def State.doKeyRelease (s : State) : OpKey → State
  | .send =>
    if s.bay.sendKey.releaseDue then
      { s with bay := { s.bay with sendKey := s.bay.sendKey.recognise } } else s
  | .empty =>
    if s.bay.emptyKey.releaseDue then
      { s with bay := { s.bay with emptyKey := s.bay.emptyKey.recognise } } else s
  | .cls n =>
    if (s.classKey n).releaseDue then
      { s with bay := { s.bay with
          classKeys := s.bay.classKeys.modify n.val KeySt.recognise } } else s

/-! ### WANT timer, call lamp -/

/-- WANT_TIMER (R132). -/
def State.doWantTimer (s : State) : State :=
  if expired s.bay.wantTimer then
    State.settle (State.queueWant
      { s with bay := { s.bay with wantTimer := some Config.wantTicks } })
  else s

/-- The next half of a flash (R134, R183). -/
def Lamp.toggle (l : Lamp) (half : Nat) : Lamp := { l with high := !l.high, left := some half }

/-- CALL_LAMP_FLASH (R134). -/
def State.doCallLampFlash (s : State) : State :=
  if expired s.bay.lamp.left then
    { s with bay := { s.bay with lamp := s.bay.lamp.toggle Config.callFlash } } else s

end Sys2Proof.Machine
end

