-- ==== Sys2Proof/Machine/AttentionEvents.lean ====
section
/-! DEFINITION. The attention unit's events: ASK, ACK, CLEAR and FLUSH (R177 to R180), the ACK key (R181),
the stop chain (R176) and the attention lamp (R183); and what FLUSH does to each block (R17, R24, R35,
R61, R82, R83, R95, R115, R123, R160). -/

namespace Sys2Proof.Machine

/-! ### FLUSH, block by block -/

/-- The exit side's FLUSH values (R83). -/
def State.flushExit (s : State) : State :=
  { s with ex := { plainLoss := (s.cause .lostRack).st != .absent } }

/-- The entry side's FLUSH values (R95). -/
def State.flushEntry (s : State) : State := { s with en := {} }

/-- A channel state after FLUSH: RECEDED becomes CLEAR, and RETURNED becomes BLOCKED (R24). -/
def EyeState.flushed : EyeState → EyeState
  | .receded => .clear
  | .returned => .blocked
  | .clear => .clear
  | .blocked => .blocked

/-- The eye unit's FLUSH values (R24). -/
def State.flushEyes (s : State) : State :=
  let s := s.updChans fun c => { c with st := c.st.flushed, awaited := [], missed := [] }
  { s with eyes := { s.eyes with lead := none, leadFresh := false, trail := none, trailFresh := false } }

/-- The tag port at FLUSH (R35). -/
def State.flushTag (s : State) : State :=
  { s with tag := { s.tag with
      owner := none
      st := if s.tag.st = .reading then .draining else s.tag.st } }

/-- The track, the mark group and the gate's routes and held command at FLUSH (R17, R61, R114, R115). -/
def State.flushTrack (s : State) : State :=
  { s with
    track := []
    marks := s.marks.ended
    gate := { s.gate with held := none, rackRoute := none } }

/-- The drive unit at FLUSH (R82): HOLD, as from no regulated state; window, M16, reported speed and ceiling
are kept. The causes and their condition marks stay as they stand (R174, R180, R182). Where the belt leaves RUN, the
condition of BELT-UNSTEADY ends by R79 after the FLUSH, when the drive unit next acts (`State.doUnsteadyOver`): the
model's choice (log 34). -/
def State.flushDrive (s : State) : State :=
  let was := s.dr.belt
  let s := { s with dr := { s.dr with
    belt := .hold, level := 0, resume := 0, holdFrom := none, holdTicks := 0, spinLeft := none,
    spinFollows := false, history := [], lock := .unlocked, inBand := 0, outBand := 0,
    satHigh := 0, satLow := 0, unsteady := 0, span0 := .free, span1 := .free } }
  if was = .hold then s else s.queueStatus

/-- The bay unit at FLUSH (R123). -/
def State.flushBay (s : State) : State :=
  { s with bay := { s.bay with selected := none, released := false } }

/-- The idle logic at FLUSH (R160). -/
def State.flushIdle (s : State) : State :=
  { s with idle := { s.idle.awake with wakePending := false } }

/-- FLUSH (R180): every block takes its FLUSH values, the entry side before the drive (R82), and the start-up
scan refills the track (R61). That the track is emptied before the drive moves to HOLD is the model's choice: the
STATUS queued for that move shows a track count of 0 (log 33). -/
def State.flushAll (s : State) : State :=
  State.scan
    (State.flushIdle (State.flushBay (State.flushDrive (State.flushTrack (State.flushTag
      (State.flushEyes (State.flushEntry (State.flushExit s))))))))

/-! ### Panel frames -/

/-- The answer to ASK (R177). -/
def State.askAnswer (s : State) : AttentionInfo :=
  match s.topCause (· != .absent) with
  | some c => s.attentionOf c true
  | none => { cause := none, severity := 0, detail := 0, repeats := 0, reply := true,
              pendingCount := 0 }

/-- ASK (R177). -/
def State.onAsk (s : State) (src : Station) : State :=
  if s.boot.mode = .loading then s else s.sendPrompt src (.attention s.askAnswer)

/-- The station is obeyed: ACTIVE, and FROM is a panel station (R180). -/
def State.obeys (s : State) (src : Station) : Bool :=
  s.boot.mode == .active && src != 0
    && (s.boot.prof.panel1 == src || s.boot.prof.panel2 == src)

/-- ACK (R178, R180). -/
def State.onAck (s : State) (src : Station) : State := if s.obeys src then s.ackTop else s

/-- CLEAR (R180). -/
def State.onClear (s : State) (src : Station) : State := if s.obeys src then s.clearAll else s

/-- FLUSH (R180). -/
def State.onFlush (s : State) (src : Station) : State := if s.obeys src then s.flushAll else s

/-! ### The ACK key -/

/-- ACK_KEY_PRESS (R124, R181). -/
def State.doAckKeyPress (s : State) : State :=
  if s.bay.ackKey.pressDue then
    let hold : Option AckHold := if s.boot.mode = .active then some ⟨0, false, false⟩ else none
    let s := { s with bay := { s.bay with ackKey := s.bay.ackKey.recognise, ackHold := hold } }
    s.pressWakes.settle
  else s

/-- The hold has reached 300 ticks and has not acted as CLEAR. -/
def AckHold.clearDue (h : AckHold) : Bool := !h.clearDone && decide (Config.holdClear ≤ h.ticks)

/-- The hold has reached 800 ticks and has not been tested for FLUSH. -/
def AckHold.flushDue (h : AckHold) : Bool := !h.flushDone && decide (Config.holdFlush ≤ h.ticks)

/-- CLEAR by the held key, once (R181). -/
def State.holdClear (s : State) : State :=
  match s.bay.ackHold with
  | none => s
  | some h =>
    if h.clearDue then
      State.clearAll { s with bay := { s.bay with ackHold := some { h with clearDone := true } } }
    else s

/-- The test for FLUSH by the held key, once (R181). -/
def State.holdFlush (s : State) : State :=
  match s.bay.ackHold with
  | none => s
  | some h =>
    if h.flushDue then
      let s := { s with bay := { s.bay with ackHold := some { h with flushDone := true } } }
      if s.att.level = 3 then s.flushAll else s
    else s

/-- ACK_KEY_HOLD_CLEAR (R181). -/
def State.doAckKeyHoldClear (s : State) : State :=
  match s.bay.ackHold with
  | none => s
  | some h => if h.clearDue then s.holdClear.settle else s

/-- ACK_KEY_HOLD_FLUSH (R181): the CLEAR at 300 ticks comes before the test. -/
def State.doAckKeyHoldFlush (s : State) : State :=
  match s.bay.ackHold with
  | none => s
  | some h => if h.flushDue then s.holdClear.holdFlush.settle else s

/-- ACK_KEY_RELEASE (R181): a press of fewer than 300 ticks is an ACK. -/
def State.doAckKeyRelease (s : State) : State :=
  if s.bay.ackKey.releaseDue then
    match s.bay.ackHold with
    | none => { s with bay := { s.bay with ackKey := s.bay.ackKey.recognise } }
    | some h =>
      let s := s.holdClear.holdFlush
      let s := { s with bay := { s.bay with ackKey := s.bay.ackKey.recognise, ackHold := none } }
      (if h.ticks < Config.holdClear then s.ackTop else s).settle
  else s

/-! ### Lamp and stop chain -/

/-- ATTENTION_LAMP_FLASH (R183). -/
def State.doAttentionLampFlash (s : State) : State :=
  if expired s.att.lamp.left then
    { s with att := { s.att with lamp := s.att.lamp.toggle Config.attFlash } } else s

/-- ESTOP_OPEN (R176). -/
def State.doEstopOpen (s : State) : State :=
  if s.att.estopHigh = false ∧ (s.cause .estop).present = false then
    (s.raiseStanding .estop 0).settle
  else s

/-- ESTOP_CLOSE (R176). -/
def State.doEstopClose (s : State) : State :=
  if s.att.estopRun = Config.sampleRun ∧ (s.cause .estop).present = true then
    (s.conditionEnd .estop).settle
  else s

end Sys2Proof.Machine
end

