-- ==== Sys2Proof/Machine/HandOff.lean ====
section
/-! DEFINITION. The hand-off engine: what each frame of the exchange does at the exit side (R87 to R91,
R94) and at the entry side (R96, R100, R106), and the engine's own expiries (R86, R92, R93, R107, R111,
R116, R121, R122). -/

namespace Sys2Proof.Machine

/-! ### Exit side: frames -/

/-- The OFFERED head that a frame from a downstream neighbour names by its serial (R87, R88). -/
def State.offeredTo (s : State) (src : Station) (serial : Serial) : Option Rec :=
  match s.head, s.downPortOf src with
  | some r, some p =>
    if r.state == .offered && r.exitPort == some p && r.exitSerial == some serial then some r else none
  | _, _ => none

/-- TAKE (R88). -/
def State.onTake (s : State) (src : Station) (serial : Serial) : State :=
  match s.offeredTo src serial with
  | some r => s.release r id
  | none => s

/-- WAIT or REFUSE (R87). -/
def State.onAnswer (s : State) (src : Station) (serial : Serial) : State :=
  match s.offeredTo src serial with
  | some r =>
    let s := s.updRec r.id fun q => { q with answered := true }
    { s with ex := { s.ex with resend := some Config.resendSlow } }
  | none => s

/-- The TAKEN or LEAVING record with an exit port and serial (R90, R91); of several the front-most, which is the model's
choice (log 43). -/
def State.handedAs (s : State) (p : DownPort) (serial : Serial) : Option Rec :=
  s.track.find? fun r => r.handed && r.exitPort == some p && r.exitSerial == some serial

/-- The number a steered entry takes: the number carried for OK and MISMATCH, the record's own for NOREAD
(R144). -/
def steeredNumber (r : Rec) (number : RackNo) : LandAnswer → RackNo
  | .noread => r.number
  | .ok => number
  | .mismatch => number

/-- A landing answer for a record (R39, R53, R90, R144). -/
def State.answerLanded (s : State) (src : Station) (p : DownPort) (r : Rec) (number : RackNo)
    (a : LandAnswer) : State :=
  let steer := s.steersRecord r
  let s := s.updRec r.id fun q => { q with landing := some a }
  let s := if steer then s.steeredAdd p (steeredNumber r number a) src else s
  if r.exitPass = .passed then s.removeRec r else s

/-- The lost-list entry with a port and serial (R94); of several the oldest, which is the model's choice (log 43). -/
def State.lostAs (s : State) (p : DownPort) (serial : Serial) : Option LostEntry :=
  s.ex.lost.find? fun x => x.port == p && x.serial == serial

/-- A late landing (R94): the entry is removed and noted in LOST-RACK, which becomes ABSENT when nothing is
left unaccounted for. -/
def State.lateLanding (s : State) (x : LostEntry) : State :=
  let s := { s with ex := { s.ex with lost := s.ex.lost.erase x } }
  let e := s.cause .lostRack
  if e.st = .absent then s
  else
    let s := s.setCause .lostRack
      { e with repeats := satSucc e.repeats, detail := BitVec.ofNat 16 x.number.val }
    if s.ex.lost = [] ∧ s.ex.plainLoss = false then s.absentAll [.lostRack] else s

/-- LANDED OK, NOREAD or MISMATCH (R90, R94). -/
def State.onLanded (s : State) (src : Station) (serial : Serial) (number : RackNo) (a : LandAnswer) :
    State :=
  match s.downPortOf src with
  | none => s
  | some p =>
    match s.handedAs p serial with
    | some r => s.answerLanded src p r number a
    | none =>
      match s.lostAs p serial with
      | some x => s.lateLanding x
      | none => s

/-- The EXIT passage of a removed SPANNING record passes to the front-most record whose passage is NONE
(R91). -/
def State.passOn (s : State) : State :=
  match s.track.find? fun r => r.exitPass == .none with
  | none => s
  | some r =>
    let s := s.updRec r.id fun q =>
      { q with exitPass := .spanning, state := if q.state = .taken then .leaving else q.state }
    s.updChan .exit fun c => { c with jamDist := s.jamOf r }

/-- LANDED SKIPPED (R91); a serial already in the lost list keeps its entry (log 13). -/
def State.onSkipped (s : State) (src : Station) (serial : Serial) : State :=
  match s.downPortOf src with
  | none => s
  | some p =>
    match s.handedAs p serial with
    | none => s
    | some r =>
      let s := s.giveUp r
      if r.exitPass = .spanning then s.passOn else s

/-! ### Entry side: frames -/

/-- The slot held for a port and serial (R96, row 4). -/
def State.slotHolding (s : State) (p : UpPort) (serial : Serial) : Option (SlotName × Slot) :=
  let holds (x : Option Slot) : Bool := match x with
    | some x => x.port == p && x.serial == serial
    | none => false
  match s.en.slotA, s.en.slotB with
  | some x, b => if holds (some x) then some (.a, x) else
      match b with
      | some y => if holds (some y) then some (.b, y) else none
      | none => none
  | none, some y => if holds (some y) then some (.b, y) else none
  | none, none => none

/-- The route of an offer at a DIVERT: the noted one for a noted serial, and resolved for a new one (R114). -/
def State.offerRoute (s : State) (same : Option Noted) (image : Image) : State × Option Route :=
  if s.hasRole .divert then
    match same with
    | some q => (s, q.route)
    | none =>
      let (s, rt) := s.resolve image.cls
      (s, some rt)
  else (s, none)

/-- The noted offer of a port, where it has this serial. -/
def State.notedAs (s : State) (p : UpPort) (serial : Serial) : Option Noted :=
  match s.noted p with
  | some q => if q.serial = serial then some q else none
  | none => none

/-- Note an offer and answer WAIT (R96, rows 5 and 8). -/
def State.noteOffer (s : State) (p : UpPort) (serial : Serial) (image : Image) (rt : Option Route) :
    State :=
  State.sendPrompt (s.setNoted p (some ⟨serial, image, rt⟩)) (s.upStation p) (.wait serial)

/-- OFFER in ACTIVE from the neighbour of an upstream port (R96, rows 4 to 8). -/
def State.answerOffer (s : State) (p : UpPort) (serial : Serial) (image : Image) : State :=
  match s.slotHolding p serial with
  | some (n, x) =>
    State.sendPrompt (s.setSlot n (some { x with image := image })) (s.upStation p) (.take serial)
  | none =>
    let same := s.notedAs p serial
    match same with
    | some q =>
      if !s.entryReady p q.route then s.noteOffer p serial image q.route
      else if 2 ≤ s.att.level then
        State.sendPrompt (s.setNoted p none) (s.upStation p) (.refuse serial .restricted)
      else s.takeOffer p serial image q.route
    | none =>
      if 2 ≤ s.att.level then
        State.sendPrompt (s.setNoted p none) (s.upStation p) (.refuse serial .restricted)
      else
        let (s, rt) := s.offerRoute none image
        if s.entryReady p rt then s.takeOffer p serial image rt
        else s.noteOffer p serial image rt

/-- OFFER (R96). -/
def State.onOffer (s : State) (src : Station) (serial : Serial) (image : Image) : State :=
  match s.boot.mode with
  | .loading => s
  | .scanning => s
  | .unset => s.sendPrompt src (.refuse serial .unset)
  | .active =>
    match s.upPortOf src with
    | none => s.sendPrompt src (.refuse serial .wrongPort)
    | some p => s.answerOffer p serial image

/-- A RESERVED slot with a port and serial becomes FREE (R100). -/
def freeReserved (x : Option Slot) (p : UpPort) (serial : Serial) : Option Slot :=
  match x with
  | some y => if y.reserved && y.port == p && y.serial == serial then none else some y
  | none => none

/-- WITHDRAW (R100). -/
def State.onWithdraw (s : State) (src : Station) (serial : Serial) : State :=
  match s.upPortOf src with
  | none => s
  | some p =>
    let s := if (s.notedAs p serial).isSome then s.setNoted p none else s
    { s with en := { s.en with
        slotA := freeReserved s.en.slotA p serial
        slotB := freeReserved s.en.slotB p serial } }

/-- WHERE (R106): a logged LANDED again, nothing while its slot is LANDING, else NOT-SEEN. Which of two logged
LANDED of one serial is repeated is the model's choice: the newer (log 32). -/
def State.onWhere (s : State) (src : Station) (serial : Serial) : State :=
  match s.upPortOf src with
  | none => s
  | some p =>
    if s.boot.mode = .active then
      match (s.landLog p).reverse.find? fun x => x.serial == serial with
      | some x => s.sendPrompt src (.landed serial x.number x.status)
      | none =>
        match s.slotHolding p serial with
        | some (_, x) => if x.reserved then s.sendPrompt src (.notSeen serial) else s
        | none => s.sendPrompt src (.notSeen serial)
    else s

/-! ### Span words -/

/-- STALL (R69). -/
def State.onStall (s : State) (src : Station) : State :=
  match s.downPortOf src with
  | some p => if s.handing p then s.setSpan p .stalled else s
  | none => s

/-- GO (R69, R171). -/
def State.onGo (s : State) (src : Station) (speed : Fin 1000) : State :=
  let s := s.updNeighs fun n => if n.station = src then { n with go := some speed } else n
  match s.downPortOf src with
  | some p => s.setSpan p .free
  | none => s

/-! ### The engine's own events -/

/-- The send count and the re-send timer after another send (R86, R87). -/
def ExitSide.resent (x : ExitSide) (answered : Bool) : ExitSide :=
  if answered then { x with resend := some Config.resendSlow }
  else if x.sendCount < 4 then
    { x with
      sendCount := x.sendCount + 1
      resend := some (if x.sendCount + 1 < 4 then Config.resendFast else Config.resendSlow) }
  else { x with resend := some Config.resendSlow }

/-- OFFER_RESEND (R86, R87). -/
def State.doOfferResend (s : State) : State :=
  match expired s.ex.resend, s.head with
  | true, some r =>
    match r.state, r.exitPort, r.exitSerial with
    | .offered, some p, some n =>
      State.settle (State.sendPrompt { s with ex := s.ex.resent r.answered } (s.downStation p)
        (s.offerPayload r n))
    | _, _, _ => s
  | _, _ => s

/-- The belt's travel since the TAKE of a record that awaits its landing answer; none for any other (R92,
R93). -/
def State.awaitTravel (s : State) (r : Rec) : Option Nat :=
  if r.handed && r.exitSerial.isSome && r.landing.isNone then
    r.takenAt.map fun c => travel c s.cu.count
  else none

/-- A record has travelled more than half the transfer allowance since its TAKE, with no landing answer and no
WHERE sent (R92). -/
def State.wherePast (s : State) (r : Rec) : Bool :=
  !r.whereSent && (match s.awaitTravel r with
    | some t => decide (s.boot.cts.transfer / 2 < t)
    | none => false)

/-- The front-most record for which the last edge found WHERE due, and it still is (R92, log 14). -/
def State.whereDue (s : State) : Option Rec :=
  s.track.find? fun r => s.found.contains (.whereSent r.id) && s.wherePast r

/-- WHERE_SENT (R92). -/
def State.doWhereSent (s : State) : State :=
  match s.whereDue with
  | none => s
  | some r =>
    let s := s.updRec r.id fun q => { q with whereSent := true }
    match r.exitPort, r.exitSerial with
    | some p, some n => (s.sendPrompt (s.downStation p) (.whereIs n)).settle
    | _, _ => s.settle

/-- A record's transfer allowance is exceeded (R93). -/
def State.transferPast (s : State) (r : Rec) : Bool :=
  match s.awaitTravel r with
  | some t => decide (s.boot.cts.transfer < t)
  | none => false

/-- The front-most record whose allowance the last edge found exceeded, and which still awaits its landing answer
(R93, log 14). -/
def State.transferDue (s : State) : Option Rec :=
  s.track.find? fun r => s.found.contains (.transfer r.id) && s.transferPast r

/-- TRANSFER_ALLOWANCE_EXPIRY (R93). -/
def State.doTransferExpiry (s : State) : State :=
  match s.transferDue with
  | some r => (s.giveUp r).settle
  | none => s

/-- A port's noted offer is ready to be taken. -/
def State.someReady (s : State) : Bool := (s.readyNoted .u0).isSome || (s.readyNoted .u1).isSome

/-- ENTRY_READY (R97, R99, R111). -/
def State.doEntryReady (s : State) : State := if s.someReady then s.readyStep.settle else s

/-- A slot that is RESERVED and whose arrival allowance is exceeded, with no pending lead edge at ENTRY (R107). -/
def State.arrivalPast (s : State) (n : SlotName) : Option Slot :=
  match s.slot n with
  | some x =>
    if !s.eyes.entry.pendingLead && x.reserved
        && decide (s.boot.cts.arrival < travel x.takenAt s.cu.count) then some x
    else none
  | none => none

/-- The older of the RESERVED slots that the last edge found past their allowance, and that still are (R107, log
14). -/
def State.arrivalDue (s : State) : Option (SlotName × Slot) :=
  let lapsed (n : SlotName) : Option (SlotName × Slot) :=
    if s.found.contains (.arrival n) then (s.arrivalPast n).map fun x => (n, x) else none
  let older : SlotName := if s.en.newest = .a then .b else .a
  match lapsed older with
  | some r => some r
  | none => lapsed s.en.newest

/-- SLOT_ARRIVAL_EXPIRY (R107). -/
def State.doSlotArrivalExpiry (s : State) : State :=
  match s.arrivalDue with
  | some (n, x) =>
    State.settle (State.raise (s.setSlot n none) .expectedMissing x.image.number.val)
  | none => s

/-- The gate position that a commanded position settles at. -/
def DownPort.gatePos : DownPort → GatePos
  | .d0 => .straight
  | .d1 => .branch

/-- GATE_SETTLE (R116). The held command is compared afresh among the derived actions (`State.gateStep`), which keep one
that the gate law forbids: the model's choice (log 48). -/
def State.doGateSettle (s : State) : State :=
  if s.gate.pos = .moving ∧ expired s.gate.settle then
    State.settle { s with gate := { s.gate with
      pos := DownPort.gatePos s.gate.commanded, settle := none } }
  else s

/-- The other port is connected and its neighbour is HEARD (R121). -/
def State.canTurnTo (s : State) (p : DownPort) : Bool :=
  s.downStation p != 0 && (match s.neigh (DownPort.port p) with
    | some n => n.heard
    | none => false)

/-- The head is re-resolved to the other port (R122). -/
def State.reResolve (s : State) (r : Rec) (rt : Route) : State :=
  let s := s.withdrawHead
  let s := s.flagRec r.id { altered := true }
  { s with gate := { s.gate with rackRoute := some { rt with port := DownPort.other rt.port } } }

/-- PATIENCE_EXPIRY (R121, R122). -/
def State.doPatienceExpiry (s : State) : State :=
  match expired s.ex.patience, s.head, s.gate.rackRoute with
  | true, some r, some rt =>
    if r.state == .offered && rt.alternate && s.canTurnTo (DownPort.other rt.port) && !s.atGate r then
      (s.reResolve r rt).settle
    else
      State.settle { s with ex := { s.ex with patience := s.patienceStart } }
  | _, _, _ => s

end Sys2Proof.Machine
end

