-- ==== Sys2Proof/Machine/IdleEvents.lean ====
section
/-! DEFINITION. The idle logic's events: the doze exchange (R151 to R155) and polls (R156). -/

namespace Sys2Proof.Machine

/-- PARK_DELAY_EXPIRY (R151, R154). -/
def State.doParkDelayExpiry (s : State) : State :=
  if s.idle.phase = .timing ∧ expired s.idle.park then
    match s.connectedUp with
    | [] => s.enterPark.settle
    | p :: ps =>
      let s := { s with idle := { s.idle with
        phase := .asking, park := none, reply := some Config.dozeReply,
        reply0 := .none, reply1 := .none } }
      State.settle ((p :: ps).foldl (fun t p => t.sendPrompt (s.upStation p) .dozeAsk) s)
  else s

/-- DOZE-ASK (R152). -/
def State.onDozeAsk (s : State) (src : Station) : State :=
  match s.downPortOf src with
  | none => s
  | some p =>
    if s.boot.mode = .active then
      s.sendPrompt src (if s.track.any s.withinDoze || s.handing p then .dozeDeny else .dozeAllow)
    else s

/-- Every asked port has allowed (R153). -/
def State.allAllow (s : State) : Bool := s.connectedUp.all fun p => s.replyMark p == .allow

/-- DOZE-ALLOW (R153, R154). -/
def State.onDozeAllow (s : State) (src : Station) : State :=
  match s.upPortOf src with
  | none => s
  | some p =>
    if s.idle.phase = .asking then
      let s := s.setReply p .allow
      if s.allAllow then s.enterPark else s
    else s

/-- DOZE-DENY (R153). -/
def State.onDozeDeny (s : State) (src : Station) : State :=
  match s.upPortOf src with
  | none => s
  | some p => if s.idle.phase = .asking then (s.setReply p .deny).startTiming else s

/-- DOZE_REPLY_TIMEOUT (R153). -/
def State.doDozeReplyTimeout (s : State) : State :=
  if s.idle.phase = .asking ∧ expired s.idle.reply then s.startTiming.settle else s

/-- POLL (R156). -/
def State.doPoll (s : State) : State :=
  if s.idle.phase = .parked ∧ expired s.idle.poll then
    let s := { s with idle := { s.idle with poll := some s.boot.prof.pollPeriod } }
    State.settle (if s.eyeChanged then s.wake else s)
  else s

end Sys2Proof.Machine
end

