-- ==== Sys2Proof/Machine/RouteEvents.lean ====
section
/-! DEFINITION. The route unit's events: WANT and its expiry (R140, R141), RACK-IN (R146), and the expiry of
steered entries (R145). -/

namespace Sys2Proof.Machine

/-- WANT (R140). -/
def State.onWant (s : State) (src : Station) (n : Fin 16) : State :=
  if s.steers && src != 0 && ((s.loaders .d0).contains src || (s.loaders .d1).contains src) then
    let e : HeardWant := ⟨src, n, s.line.tick, true⟩
    let ws := if s.rt.wants.any (fun w => w.station == src) then
        s.rt.wants.map fun w => if w.station = src then e else w
      else s.rt.wants ++ [e]
    { s with rt := { s.rt with wants := ws } }
  else s

/-- RACK-IN (R146). -/
def State.onRackIn (s : State) (src : Station) (number : RackNo) (steeredBy : Station) : State :=
  if s.steers && s.boot.station == some steeredBy then s.rackInSteered src number else s

/-- A heard want has lapsed (R141). -/
def State.lapsed (s : State) (w : HeardWant) : Bool :=
  w.fresh && decide (s.boot.prof.wantExpiry ≤ s.since w.heardAt)

/-- WANT_EXPIRY (R141). -/
def State.doWantExpiry (s : State) (loader : Station) : State :=
  if s.rt.wants.any (fun w => w.station == loader && s.lapsed w) then
    let ws := s.rt.wants.map fun w =>
      if w.station == loader && s.lapsed w then { w with fresh := false } else w
    State.settle { s with rt := { s.rt with wants := ws } }
  else s

/-- A steered entry has stood for the steer expiry (R145). -/
def State.steerOld (s : State) (x : Steered) : Bool :=
  decide (s.boot.prof.steerExpiry * 100 ≤ s.since x.sentAt)

/-- STEER_EXPIRY (R145): entries expire from the front of the list. -/
def State.doSteerExpiry (s : State) (b : DownPort) : State :=
  match s.steered b with
  | [] => s
  | x :: _ =>
    if s.steerOld x then State.settle (s.setSteered b ((s.steered b).dropWhile s.steerOld)) else s

end Sys2Proof.Machine
end

