-- ==== Sys2Proof/Machine/Receive.lean ====
section
/-! DEFINITION. The line interface: the receive filter and delivery (R167 to R169, R171), the silence of a
neighbour (R172), STATUS (R173), and sending (R162, R163). -/

namespace Sys2Proof.Machine

/-! ### Receiving -/

/-- The station takes frames at all: past LOADING, with a station number other than 0, and not sending (R162,
R167, R169, R188). -/
def State.receives (s : State) : Bool :=
  s.boot.mode != .loading
    && (match s.boot.station with
      | some n => n != 0
      | none => false)
    && (match s.line.reg with
      | some r => !r.sending
      | none => true)

/-- FROM is 1 to 63 and not this station's own number (R168). -/
def State.fromOk (s : State) (src : Station) : Bool := src != 0 && s.boot.station != some src

/-- All four ports, in the order in which events of one tick take them (log 40). -/
def Port.all : List Port := [.u0, .u1, .d0, .d1]

/-- Some neighbour record is SILENT. -/
def State.someSilent (s : State) : Bool :=
  Port.all.any fun p => match s.neigh p with
    | some n => !n.heard
    | none => false

/-- A frame from a station has passed the filter: its neighbour records are heard now, and the condition of
NEIGHBOUR-SILENT ends with the last silence (R171, R172), before the frame is acted on: the model's choice (log 45). -/
def State.refresh (s : State) (src : Station) : State :=
  let was := s.someSilent
  let s := s.updNeighs fun n =>
    if n.station = src then { n with lastHeard := s.line.tick, heard := true } else n
  if was && !s.someSilent then s.conditionEnd .neighbourSilent else s

/-- A frame is delivered to this station (R168): TO is its number or 0. -/
def State.toMe (s : State) (dst : Station) : Bool := dst == 0 || s.boot.station == some dst

/-- TO names this station alone. -/
def State.toMeAlone (s : State) (dst : Station) : Bool := dst != 0 && s.boot.station == some dst

/-- A hand-off frame: acted on by its own rule, and a wake cause, when it is addressed to this station (R157,
R169). -/
def State.handOffFrame (s : State) (h : Hdr) (f : State → State) : State :=
  if s.toMeAlone h.dst then (f s).wake else s

/-- STATUS sets the belt state heard, whatever its TO (R171). -/
def State.onStatus (s : State) (src : Station) (i : StatusInfo) : State :=
  s.updNeighs fun n => if n.station = src then { n with belt := some i.belt } else n

/-- What a frame that has passed the filter does (R168, R169). -/
def State.deliverFrame (s : State) (h : Hdr) : Payload → State
  | .offer n i _ => s.handOffFrame h fun t => t.onOffer h.src n i
  | .take n => s.handOffFrame h fun t => t.onTake h.src n
  | .wait n => s.handOffFrame h fun t => t.onAnswer h.src n
  | .refuse n _ => s.handOffFrame h fun t => t.onAnswer h.src n
  | .withdraw n => s.handOffFrame h fun t => t.onWithdraw h.src n
  | .landed n k st => s.handOffFrame h fun t => match LandStatus.answer st with
      | some a => t.onLanded h.src n k a
      | none => t.onSkipped h.src n
  | .whereIs n => s.handOffFrame h fun t => t.onWhere h.src n
  | .notSeen _ => s.handOffFrame h id
  | .stall => if s.toMe h.dst then s.onStall h.src else s
  | .go v => if s.toMe h.dst then s.onGo h.src v else s
  | .dozeAsk => if s.toMe h.dst then s.onDozeAsk h.src else s
  | .dozeAllow => if s.toMe h.dst then s.onDozeAllow h.src else s
  | .dozeDeny => if s.toMe h.dst then s.onDozeDeny h.src else s
  | .want n => s.onWant h.src n
  | .rackIn k st => s.onRackIn h.src k st
  | .status i => s.onStatus h.src i
  | .attention _ => s
  | .ask => if s.toMeAlone h.dst then s.onAsk h.src else s
  | .ack => if s.toMeAlone h.dst then s.onAck h.src else s
  | .clear => if s.toMeAlone h.dst then s.onClear h.src else s
  | .flush => if s.toMeAlone h.dst then s.onFlush h.src else s

/-- A complete frame reaches the receive filter (R168). -/
def State.receive (s : State) (h : Hdr) (p : Payload) : State :=
  if s.receives && s.fromOk h.src then (State.deliverFrame (s.refresh h.src) h p).settle else s

/-- A run of characters between two quiet intervals (R167, R168). -/
def State.receiveRun (s : State) (chars : List RxChar) : State :=
  match parseRun chars with
  | some f => s.receive f.hdr f.payload
  | none => s

/-! ### Silence and STATUS -/

/-- A HEARD record's last-heard tick lies 200 ticks back (R172). -/
def State.silentDue (s : State) (p : Port) : Option Neigh :=
  match s.neigh p with
  | some n =>
    if s.boot.mode != .loading && n.heard && decide (Config.silentTicks ≤ s.since n.lastHeard) then
      some n else none
  | none => none

/-- The detail of NEIGHBOUR-SILENT (R172). -/
def Neigh.detail (n : Neigh) : Nat :=
  n.station.val * 256 + (match n.belt with
    | some b => BeltState.code b
    | none => 7)

/-- An upstream port's waiting-offer record is cleared by its silence (R99, R172). -/
def State.clearNoted (s : State) : Port → State
  | .u0 => s.setNoted .u0 none
  | .u1 => s.setNoted .u1 none
  | .d0 => s
  | .d1 => s

/-- NEIGHBOUR_SILENT (R172). -/
def State.doNeighbourSilent (s : State) (p : Port) : State :=
  match s.silentDue p with
  | none => s
  | some n =>
    let s := s.setNeigh p (some { n with heard := false })
    (State.raiseStanding (s.clearNoted p) .neighbourSilent n.detail).settle

/-- STATUS_TIMER (R173). -/
def State.doStatusTimer (s : State) : State :=
  if expired s.line.statusTimer then
    State.settle (State.queueStatus
      { s with line := { s.line with statusTimer := some Config.statusTicks } })
  else s

/-! ### Sending -/

/-- The wait before a frame in the register is sent, in microseconds (R162). -/
def SendReg.wait (r : SendReg) : Nat := Config.quietMicros + Config.slotMicros * r.backoff

/-- SEND_START (R162): the line has been quiet for the time given. -/
def State.doSendStart (s : State) (quiet : Nat) : State :=
  match s.line.reg with
  | some r =>
    if r.sending = false ∧ r.wait ≤ quiet then
      { s with line := { s.line with reg := some { r with sending := true } } }
    else s
  | none => s

/-- FRAME_SENT (R162): the register empties, and the next head of the queue moves in. -/
def State.doFrameSent (s : State) : State :=
  match s.line.reg with
  | some r =>
    if r.sending then { s with line := Line.refill { s.line with reg := none } } else s
  | none => s

/-- The back-off of a failed attempt (R163). -/
def backoffOf (station : Station) (a : Nat) : Nat := (station.val + 5 * a) % 16 + 1

/-- COLLISION (R163): another attempt, or at the 16th failure the frame is discarded with LINE-OVERRUN. The register is
filled from the queue before LINE-OVERRUN is raised: the model's choice (log 45). -/
def State.doCollision (s : State) : State :=
  match s.line.reg with
  | none => s
  | some r =>
    if r.sending then
      if r.attempts < 15 then
        let a := r.attempts + 1
        let reg : SendReg :=
          { r with attempts := a, backoff := backoffOf (s.boot.station.getD 0) a, sending := false }
        { s with line := { s.line with reg := some reg } }
      else
        State.settle (State.raise { s with line := Line.refill { s.line with reg := none } }
          .lineOverrun (Payload.kind r.frame.payload))
    else s

end Sys2Proof.Machine
end

