-- ==== Sys2Proof/Machine/Loader.lean ====
section
/-! DEFINITION. The profile image: its check (R186), its clamping (R187), the conversion of its
distances to counts (R6, R7) and the exposure ceiling (R72). -/

namespace Sys2Proof.Machine

/-- A byte of the image. -/
def imgByte (img : List Byte) (i : Nat) : Nat := (img.getD i 0).toNat

/-- A two-byte value of the image, high byte first (R186). -/
def imgWord (img : List Byte) (i : Nat) : Nat := imgByte img i * 256 + imgByte img (i + 1)

/-- The 16-bit sum of bytes 0 to 110. -/
def imgSum (img : List Byte) : Nat :=
  ((img.take 111).foldl (fun a b => a + b.toNat) 0) % 65536

/-- Whether a role has U1 (R186, Segment roles). -/
def Role.hasU1 (r : Role) : Bool := r == .merge

/-- Whether a role has D1. -/
def Role.hasD1 (r : Role) : Bool := r == .divert

/-- The neighbours check of one port: the entry is above 63, names the station itself, or repeats the
other port's neighbour (R186). -/
def badNeighbour (self n : Nat) (other : Option Nat) : Bool :=
  decide (n > 63) || n == self || (match other with
    | none => false
    | some m => n != 0 && n == m)

/-- The PROFILE-FAULT detail of the first check that fails, or none (R186). -/
def profileFault (self : Station) (img : List Byte) : Option Nat :=
  if imgByte img 0 ≠ 0xC4 then some 2
  else if imgSum img ≠ imgWord img 111 then some 3
  else match Role.ofCode (imgByte img 1) with
    | none => some 4
    | some role =>
      if imgWord img 10 = 0 then some 5
      else if badNeighbour self.val (imgByte img 2) none then some 6
      else if Role.hasU1 role && badNeighbour self.val (imgByte img 3) (some (imgByte img 2)) then some 7
      else if badNeighbour self.val (imgByte img 4) none then some 8
      else if Role.hasD1 role && badNeighbour self.val (imgByte img 5) (some (imgByte img 4)) then some 9
      else none

/-- A station field clamped to 0 to 63 (R187). -/
def clampStation (n : Nat) : Station := Fin.ofNat 64 (min n 63)

/-- An eye position: 0, or clamped to 1 to length less 1 (R187, 1). -/
def clampEyePos (length pos : Nat) : Nat := if pos = 0 then 0 else clampNat pos 1 (length - 1)

/-- The creep divisor (R187, 4). -/
def clampCreep (d : Nat) : Nat := if d = 2 ∨ d = 4 ∨ d = 8 ∨ d = 16 then d else 4

/-- The park delay: 0, or 5 to 600 (R187, 5). -/
def clampPark (d : Nat) : Nat := if d = 0 then 0 else clampNat d 5 600

/-- The divert patience: 0, or 1 to 120. -/
def clampPatience (d : Nat) : Nat := if d = 0 then 0 else clampNat d 1 120

/-- A route entry (profile table, bytes 59 to 74). -/
def routeEntryOf (b : Nat) : RouteEntry :=
  { kind := match b % 4 with
      | 0 => .port0
      | 1 => .port1
      | 2 => .aliasOf (Fin.ofNat 16 (b / 16))
      | _ => .demand
    alternate := b.testBit 2 }

def portOfBit (b : Bool) : DownPort := if b then .d1 else .d0

/-- The clamped profile of an image that has passed the check (R187; the table of R186). -/
def profileOf (img : List Byte) : Profile :=
  let b := imgByte img
  let w := imgWord img
  let role := (Role.ofCode (b 1)).getD .feed
  let len := clampNat (w 10) 300 8000
  let rmin := clampNat (w 22) 300 700
  let offer := clampNat (w 28) 0 2000
  let approach := min (clampNat (w 30) 0 2000) offer
  let stop := min (clampNat (w 32) 0 2000) approach
  { role := role
    u0 := clampStation (b 2)
    u1 := if Role.hasU1 role then clampStation (b 3) else 0
    d0 := clampStation (b 4)
    d1 := if Role.hasD1 role then clampStation (b 5) else 0
    panel1 := clampStation (b 6)
    panel2 := clampStation (b 7)
    k := clampNat (w 8) 200 2000
    length := len
    posCheckA := clampEyePos len (w 12)
    posCheckB := clampEyePos len (w 14)
    posGate := clampEyePos len (w 16)
    posBay := clampEyePos len (w 18)
    eyeFilter := clampNat (b 20) 1 10
    checkTol := clampNat (b 21) 5 200
    rackMin := rmin
    rackMax := clampNat (w 24) rmin 900
    entryGap := clampNat (w 26) 20 500
    offerLead := offer
    approachLead := approach
    stopLead := stop
    transfer := clampNat (w 34) 100 3000
    arrival := clampNat (w 36) 100 3000
    jam := clampNat (w 38) 100 3000
    target := clampNat (w 40) 10 400
    creepDiv := clampCreep (b 42)
    gain := clampNat (b 43) 1 255
    startLevel := clampNat (w 44) 0 1023
    spinUp := clampNat (b 46) 5 100
    follow := (b 47).testBit 0
    reader := (b 47).testBit 1
    strict := (b 47).testBit 2
    unsteadyLimit := clampNat (b 48) 1 60
    minExposure := clampNat (w 49) 0 600
    trackLimit := if role = .divert then 1 else clampNat (b 51) 1 12
    readerTimeout := clampNat (b 52) 5 50
    hopLimit := clampNat (b 53) 8 255
    parkDelay := clampPark (w 54)
    pollPeriod := clampNat (b 56) 2 100
    dozeReach := clampNat (w 57) 0 3000
    routes := (List.range 16).map fun i => routeEntryOf (b (59 + i))
    fallback := portOfBit ((b 75).testBit 0)
    overflow := portOfBit ((b 75).testBit 1)
    loaders0 := (List.range 4).map fun i => clampStation (b (76 + i))
    loaders1 := (List.range 4).map fun i => clampStation (b (80 + i))
    wantTarget := clampNat (b 84) 0 8
    wantExpiry := clampNat (w 85) 100 1000
    steerExpiry := clampNat (w 87) 10 300
    patience := clampPatience (b 89)
    gateSettle := clampNat (b 90) 10 200
    accept := BitVec.ofNat 16 (w 91)
    severities := (List.range 18).map fun i => min (b (93 + i) % 16) 3
    masks := (List.range 18).map fun i => (b (93 + i)).testBit 7 }

/-- The profile distances in counts (R6, R7): each millimetre value formed first and converted once. -/
def countsOf (p : Profile) : Counts :=
  let c := mmToCounts p.k
  { exit := c p.length
    checkA := c p.posCheckA
    checkB := c p.posCheckB
    gate := c p.posGate
    bay := c p.posBay
    tol := c p.checkTol
    rackMin := c p.rackMin
    rackMax := c p.rackMax
    entryGap := c p.entryGap
    offer := leadOffset p.k p.length p.offerLead
    approach := leadOffset p.k p.length p.approachLead
    stop := leadOffset p.k p.length p.stopLead
    gateClear := c ((if p.posGate = 0 then p.length else p.posGate) + p.rackMax)
    transfer := c p.transfer
    arrival := c p.arrival
    jam := c p.jam
    doze := c p.dozeReach }

/-- The exposure ceiling in mm/s, at least 10 (R72). It is used only where min exposure is above 0. -/
def ceilingOf (p : Profile) : Nat := max 10 ((p.length - p.offerLead) / p.minExposure)

end Sys2Proof.Machine
end

