-- ==== Sys2Proof/Machine/StartUp.lean ====
section
/-! DEFINITION. Reset (R184), the station number (R185), the profile (R186, R187) and the entries to
SCANNING (R189) and UNSET (R188). -/

namespace Sys2Proof.Machine

/-- A channel after power-on reset: its pin reads on (log 23). -/
def EyeChan.poweredOn (c : EyeChan) : EyeChan := { raw := c.raw }

/-- POWER_ON_RESET (R184): every block at its power-on values. The pins of the eyes and the commands that
wait are outside the part, and stay (log 23). -/
def State.doPowerOnReset (s : State) : State :=
  { State.reset with
    eyes := { State.reset.eyes with
      entry := s.eyes.entry.poweredOn, exit := s.eyes.exit.poweredOn,
      checkA := s.eyes.checkA.poweredOn, checkB := s.eyes.checkB.poweredOn,
      gate := s.eyes.gate.poweredOn, bay := s.eyes.bay.poweredOn }
    pending := s.pending }

/-- RESET_RELEASE (R2, R70, R170, R176, R184). -/
def State.doResetRelease (s : State) (ena enb estop : Bool) : State :=
  if s.boot.resetHeld then
    let s := { s with
      boot := { s.boot with resetHeld := false }
      cu := { s.cu with ena := ena, enb := enb }
      dr := { s.dr with winLeft := some Config.windowTicks }
      line := { s.line with tick := 0 }
      att := { s.att with estopHigh := estop, estopRun := 0 } }
    State.settle (if estop then s else s.raiseStanding .estop 0)
  else s

/-- Entry to UNSET with a PROFILE-FAULT detail (R188). The STATUS of the entry is queued before the raise: the model's
choice (log 41). -/
def State.enterUnset (s : State) (detail : Nat) : State :=
  let s := State.queueStatus { s with boot := { s.boot with mode := .unset } }
  let s := { s with line := { s.line with statusTimer := some Config.statusTicks } }
  s.raiseStanding .profileFault detail

/-- STATION_NUMBER_READ (R185): the third of three agreeing strap samples. The profile read begins with PCS
low, the command 0x03 and the address 0x0000 (R186). -/
def State.doStationNumberRead (s : State) : State :=
  match s.boot.strapLast with
  | none => s
  | some n =>
    if s.boot.mode = .loading ∧ s.boot.station = none ∧ s.boot.strapRun = Config.sampleRun then
      let s := { s with boot := { s.boot with station := some n } }
      if n = 0 then (s.enterUnset 1).settle
      else State.settle { s with boot := { s.boot with pcs := false, spiOut := [0x03, 0, 0] } }
    else s

/-- A neighbour record as it is made (R171); an unconnected port has none. -/
def State.newNeigh (s : State) (n : Station) : Option Neigh :=
  if n = 0 then none else some ⟨n, s.line.tick, true, none, none⟩

/-- Entry to SCANNING with an image that has passed the check (R187, R189). -/
def State.enterScanning (s : State) (img : List Byte) : State :=
  let p := profileOf img
  let s := { s with
    boot := { s.boot with
      loaded := true, prof := p, cts := countsOf p,
      ceiling := if p.minExposure = 0 then 0 else ceilingOf p, mode := .scanning }
    line := { s.line with
      u0 := s.newNeigh p.u0, u1 := s.newNeigh p.u1, d0 := s.newNeigh p.d0, d1 := s.newNeigh p.d1
      statusTimer := some Config.statusTicks } }
  let s := { s with bay := { s.bay with want := if s.hasRole .load then s.wantNow else 0 } }
  s.queueStatus

/-- PROFILE_READ (R186): the 113 bytes of the image have come in, and PCS goes high. -/
def State.doProfileRead (s : State) (img : List Byte) : State :=
  match s.boot.station with
  | none => s
  | some n =>
    if s.boot.mode = .loading ∧ n ≠ 0 ∧ img.length = 113 then
      let s := { s with boot := { s.boot with pcs := true } }
      match profileFault n img with
      | some d => (s.enterUnset d).settle
      | none => (s.enterScanning img).settle
    else s

end Sys2Proof.Machine
end

