-- ==== Sys2Proof/Machine/TagEvents.lean ====
section
/-! DEFINITION. The tag port's events: replies and the reader timeout (R31, R33, R34). -/

namespace Sys2Proof.Machine

/-- What a complete reply says (R31). -/
inductive TagReply where
  | number (n : RackNo)
  | noTag
  | garbled
  deriving DecidableEq, Repr

/-- The reply three bytes make: the leader 0x3E, and a number of at most 4095, 0 for no tag (R31). -/
def tagReplyOf (b0 b1 b2 : Byte) : TagReply :=
  let n := b1.toNat * 256 + b2.toNat
  if b0 = 0x3E ∧ n ≤ 4095 then (if n = 0 then .noTag else .number (Fin.ofNat 4096 n))
  else .garbled

/-- Give the owner of the read its result; without an owner it is discarded (R34). -/
def State.tagDeliver (s : State) (owner : Option Nat) (res : Option RackNo) : State :=
  match owner with
  | some id => s.tagResult id res
  | none => s

/-- A port in IDLE, as a finished read leaves it. -/
def TagPort.idle (t : TagPort) : TagPort := { t with st := .idle, owner := none, timeout := none }

/-- A complete reply (R33): it ends a read, or is discarded in DRAINING and in IDLE. A garbled reply to a read without
an owner leads to DRAINING as one with an owner does, though R34 says IDLE of every result: the model's choice
(log 38). -/
def State.tagReply (s : State) (reply : TagReply) : State :=
  match s.tag.st with
  | .idle => s
  | .draining => { s with tag := s.tag.idle }
  | .reading =>
    match reply with
    | .number n => State.tagDeliver { s with tag := s.tag.idle } s.tag.owner (some n)
    | .noTag => State.tagDeliver { s with tag := s.tag.idle } s.tag.owner none
    | .garbled =>
      State.tagDeliver { s with tag := { s.tag with st := .draining, owner := none } }
        s.tag.owner none

/-- A reader is present: without one the port receives nothing (R31, R35). -/
def State.readerPresent (s : State) : Bool := s.boot.loaded && s.boot.prof.reader

/-- TAG_REPLY_COMPLETE (R33). -/
def State.doTagReplyComplete (s : State) (b0 b1 b2 : Byte) : State :=
  if s.readerPresent then (s.tagReply (tagReplyOf b0 b1 b2)).settle else s

/-- TAG_REPLY_GAP: a reply that ends at a gap is garbled, whatever its bytes (R31, R33). -/
def State.doTagReplyGap (s : State) (_b0 : Byte) (_b1 : Option Byte) : State :=
  if s.readerPresent then (s.tagReply .garbled).settle else s

/-- READER_TIMEOUT (R33): NOREAD for the owner of a read; the port enters IDLE. -/
def State.doReaderTimeout (s : State) : State :=
  if expired s.tag.timeout then
    match s.tag.st with
    | .idle => s
    | .draining => State.settle { s with tag := s.tag.idle }
    | .reading => (State.tagDeliver { s with tag := s.tag.idle } s.tag.owner none).settle
  else s

end Sys2Proof.Machine
end

