-- ==== Sys2Proof/Machine/Time.lean ====
section
/-! DEFINITION. Time and belt motion: what is due and still untaken (log 2), one tick (R170 and every
timer), the encoder (R1 to R4), the marks at a forward edge (R13, R14), and raw eye changes (R19). -/

namespace Sys2Proof.Machine

/-! ### What is due -/

/-- The end of the condition of BELT-UNSTEADY that a FLUSH has left (log 34), and then the part's own events in the
table's order. Each acts when it is due, and changes nothing otherwise. Within one
row the eyes go by channel number and the ports in the order U0, U1, D0, D1: the model's choice (log 40). -/
def dueEvents : List (State → State) :=
  [State.doUnsteadyOver]
  ++ Eye.all.map (fun e t => State.doEyeEdgeConfirm t e)
  ++ Eye.all.map (fun e t => State.doEyeFirstState t e)
  ++ (Eye.all.flatMap fun e => List.replicate 12 fun t => State.doCheckMissed t e)
  ++ Eye.all.map (fun e t => State.doEyeJam t e)
  ++ Eye.all.map (fun e t => State.doEyeStuck t e)
  ++ [State.doReaderTimeout]
  ++ List.replicate 12 State.doRecordVanish
  ++ [State.doResidenceExposureMet, State.doWindowEnd, State.doBeltUnsteady, State.doSpinUpExpiry,
      State.doOfferResend]
  ++ List.replicate 12 State.doWhereSent
  ++ List.replicate 12 State.doTransferExpiry
  ++ [State.doEntryReady, State.doSlotArrivalExpiry, State.doSlotArrivalExpiry, State.doGateSettle,
      State.doPatienceExpiry]
  ++ (List.finRange 16).map (fun n t => State.doClassKeyPress t n)
  ++ [State.doSendKeyPress, State.doEmptyKeyPress, State.doWantTimer, State.doCallLampFlash,
      fun t => t.rt.wants.foldl (fun u w => u.doWantExpiry w.station) t,
      fun t => t.doSteerExpiry .d0, fun t => t.doSteerExpiry .d1,
      State.doParkDelayExpiry, State.doDozeReplyTimeout, State.doPoll]
  ++ Port.all.map (fun p t => State.doNeighbourSilent t p)
  ++ [State.doStatusTimer, State.doAckKeyPress, State.doAckKeyRelease, State.doAckKeyHoldClear,
      State.doAckKeyHoldFlush, State.doAttentionLampFlash, State.doEstopOpen, State.doEstopClose,
      State.doStationNumberRead, fun t => t.doKeyRelease .send, fun t => t.doKeyRelease .empty]
  ++ (List.finRange 16).map (fun n t => State.doKeyRelease t (.cls n))

/-- Take everything that is due and still untaken, once through in the table's order, before time or the belt
goes on (log 2); the tests of the last edge are then over (log 31). -/
def State.takeDue (s : State) : State := { dueEvents.foldl (fun t f => f t) s with found := [] }

/-! ### One tick, block by block -/

/-- The straps (R185): sampled until the station number is fixed. -/
def Boot.tick (b : Boot) (pins : PinSample) : Boot :=
  if b.mode = .loading ∧ b.station = none then
    { b with
      strapLast := some pins.straps
      strapRun := if b.strapLast = some pins.straps then min (b.strapRun + 1) Config.sampleRun else 1 }
  else b

/-- An eye channel (R20, R24): a fitted channel's run toward its first state while SCANNING, and the run of a
pending edge at any belt state but PARK. -/
def EyeChan.tick (c : EyeChan) (scanning parked : Bool) : EyeChan :=
  if c.settled then
    if parked then c
    else { c with pend := c.pend.map fun p => { p with run := min (p.run + 1) 10 } }
  else if scanning then
    { c with
      firstLevel := c.raw
      firstRun := if c.firstRun > 0 ∧ c.firstLevel = c.raw then min (c.firstRun + 1) 10 else 1 }
  else c

/-- The eye channels of the fitted eyes. -/
def State.tickEyes (s : State) : Eyes :=
  let f (e : Eye) : EyeChan :=
    if s.fitted e then
      (s.chan e).tick (s.boot.mode == .scanning) (s.dr.belt == .park)
    else s.chan e
  { s.eyes with
    entry := f .entry, exit := f .exit, checkA := f .checkA, checkB := f .checkB, gate := f .gate
    bay := f .bay }

/-- The drive unit's timers and counts (R65, R66, R70, R79). -/
def Drive.tick (d : Drive) : Drive :=
  { d with
    holdTicks := if d.belt = .hold then min (d.holdTicks + 1) Config.shortHold else d.holdTicks
    spinLeft := countDown d.spinLeft
    winLeft := countDown d.winLeft
    unsteady := if d.belt = .run ∧ d.lock = .unlocked then min (d.unsteady + 1) 6000 else d.unsteady }

/-- A lamp's flash phase (R134, R183). -/
def Lamp.tick (l : Lamp) : Lamp := { l with left := countDown l.left }

/-- The bay unit (R124, R132, R134, R181): keys sampled by role, timers, and the press of the ACK key. -/
def Bay.tick (b : Bay) (bayRole : Bool) (pins : PinSample) : Bay :=
  { b with
    wantTimer := countDown b.wantTimer
    lamp := b.lamp.tick
    sendKey := if bayRole then b.sendKey.sample (!pins.ksend) else b.sendKey
    emptyKey := if bayRole then b.emptyKey.sample (!pins.kempty) else b.emptyKey
    ackKey := b.ackKey.sample (!pins.kack)
    classKeys := if bayRole then
        b.classKeys.mapIdx fun i k => k.sample (PinSample.position pins i)
      else b.classKeys
    ackHold := b.ackHold.map fun h => { h with ticks := min (h.ticks + 1) Config.holdFlush } }

/-- The idle logic's timers (R150, R151, R156). -/
def Idle.tick (i : Idle) : Idle :=
  { i with park := countDown i.park, reply := countDown i.reply, poll := countDown i.poll }

/-- The stop chain's samples (R176). -/
def Attention.tick (a : Attention) (high : Bool) : Attention :=
  { a with
    lamp := a.lamp.tick
    estopHigh := high
    estopRun := if high then min (a.estopRun + 1) Config.sampleRun else 0 }

/-- A record's residence, saturating (R46). -/
def Rec.tick (r : Rec) : Rec := { r with residence := min (r.residence + 1) 65535 }

/-- One tick: the current tick (R170), every running timer, every sample. -/
def State.countTick (s : State) (pins : PinSample) : State :=
  { s with
    boot := s.boot.tick pins
    eyes := s.tickEyes
    tag := { s.tag with timeout := countDown s.tag.timeout }
    track := s.track.map Rec.tick
    dr := s.dr.tick
    ex := { s.ex with resend := countDown s.ex.resend, patience := countDown s.ex.patience }
    gate := { s.gate with settle := countDown s.gate.settle }
    bay := s.bay.tick s.bayRole pins
    idle := s.idle.tick
    line := { s.line with tick := s.line.tick + 1, statusTimer := countDown s.line.statusTimer }
    att := s.att.tick pins.estop }

/-- TICK. -/
def State.doTick (s : State) (pins : PinSample) : State := s.takeDue.countTick pins

/-! ### Belt edges -/

/-- The next pair of the encoder in forward motion (R1, the table of encoder states). -/
def CountUnit.forwardPair (u : CountUnit) : Bool × Bool := (!u.enb, u.ena)

/-- The next pair in reverse motion. -/
def CountUnit.reversePair (u : CountUnit) : Bool × Bool := (u.enb, !u.ena)

/-- A forward edge in the count unit (R1, R3). -/
def CountUnit.forward (u : CountUnit) : CountUnit :=
  { ena := u.forwardPair.1, enb := u.forwardPair.2, count := u.count + 1, reverse := false }

/-- A reverse edge in the count unit (R1, R3). -/
def CountUnit.backward (u : CountUnit) : CountUnit :=
  { ena := u.reversePair.1, enb := u.reversePair.2, count := u.count - 1, reverse := true }

/-- An ARMED mark whose count the belt has come onto is FIRED (R13). -/
def Mark.hit (m : Mark) (c : Count) : Mark :=
  if m.st = .armed ∧ m.pos = c then { m with st := .fired } else m

/-- The marks are tested at a forward edge, and the bay unit is told of a stop firing (R13, R125). -/
def State.testMarks (s : State) : State :=
  let old := s.marks
  let s := { s with marks := s.marks.map fun m => m.hit s.cu.count }
  if old.stop.st = .armed ∧ s.marks.stop.st = .fired then s.stopFired else s

/-- One more edge in the count unit and in the window (R1, R4). -/
def State.countEdge (s : State) (u : CountUnit) (n : Int) : State :=
  { s with cu := u, dr := { s.dr with winEdges := s.dr.winEdges + n } }

/-- Every test of belt travel whose distance the belt has exceeded (R10, R27, R29, R30, R54, R92, R93, R107). -/
def State.beltTests (s : State) : List BeltTest :=
  Eye.all.flatMap s.findMissed
  ++ (Eye.all.filter s.jamPast).map .jam
  ++ (Eye.all.filter s.stuckPast).map .stuck
  ++ (s.track.filter s.vanishPast).map (fun r => .vanish r.id)
  ++ (s.track.filter s.wherePast).map (fun r => .whereSent r.id)
  ++ (s.track.filter s.transferPast).map (fun r => .transfer r.id)
  ++ ([SlotName.a, .b].filter fun n => (s.arrivalPast n).isSome).map .arrival

/-- A forward edge (R1, R4, R10, R13): the count, the tests of belt travel, and the marks. What the tests find is
taken by its own row (log 31). -/
def State.forwardEdge (s : State) : State :=
  let s := s.takeDue
  let s := s.countEdge s.cu.forward 1
  State.settleEdge (State.testMarks { s with found := s.beltTests })

/-- A reverse edge (R1, R4, R14): no mark is tested. -/
def State.reverseEdge (s : State) : State :=
  let s := s.takeDue
  (s.countEdge s.cu.backward (-1)).settleEdge

/-- A double step (R1): the new pair becomes the previous pair, and nothing else changes. -/
def State.doubleStep (s : State) : State :=
  { s with cu := { s.cu with ena := !s.cu.ena, enb := !s.cu.enb } }

/-- An ARMED mark lies at the next forward count (R13). -/
def State.markAhead (s : State) : Bool :=
  let ahead (m : Mark) : Bool := m.st == .armed && m.pos == s.cu.count + 1
  ahead s.marks.offer || ahead s.marks.approach || ahead s.marks.stop || ahead s.marks.gateClear

/-- MARK_FIRE: the forward edge that brings the belt count onto an ARMED mark (R13, log 28). -/
def State.doMarkFire (s : State) : State := if s.markAhead then s.forwardEdge else s

/-! ### Raw eye changes -/

/-- A change of a channel's pin (R19): away from the channel state it begins a pending edge with the count and
flag captured at the change, and a return cancels one. -/
def EyeChan.rawChange (c : EyeChan) (high : Bool) (u : CountUnit) (live : Bool) : EyeChan :=
  let c := { c with raw := high }
  if live && c.settled then
    if c.differs then
      match c.pend with
      | some _ => c
      | none => { c with pend := some ⟨u.count, u.reverse, 0⟩ }
    else { c with pend := none }
  else c

/-- EYE_RAW_CHANGE (R19). -/
def State.doEyeRawChange (s : State) (e : Eye) (high : Bool) : State :=
  let s := s.takeDue
  s.setChan e ((s.chan e).rawChange high s.cu (s.fitted e))

end Sys2Proof.Machine
end

