-- ==== Sys2Proof/Machine/Commands.lean ====
section
/-! DEFINITION. The meaning of each command: one definition per row of spec/opcode_table.json, in the
table's order. The effects are in the family files; here each is given its guard of RESET (R184). -/

namespace Sys2Proof.Machine

/-- The outcome of a command. -/
abbrev Out : Type := Host.Outcome State Fault Refusal

/-- While RESET is held low the part stays in power-on reset (R184): no event acts. -/
def live (s t : State) : Out := .next (if s.boot.resetHeld then s else t)

/-- POWER_ON_RESET. Power-up or RESET held low puts every block into its power-on values and makes the station mode
LOADING, with the outputs held safe (R184). -/
def execPowerOnReset (s : State) : Out := .next s.doPowerOnReset

/-- RESET_RELEASE. Release of RESET starts the belt count, the window timer and ESTOP sampling, raises E-STOP if the
chain is open, and begins strap reading (R184). -/
def execResetRelease (ena enb estop : Bool) (s : State) : Out :=
  .next (s.doResetRelease ena enb estop)

/-- TICK. Each 10 ms tick advances the 32-bit current tick and adds one to every record's saturating
residence (R170). -/
def execTick (pins : PinSample) (s : State) : Out := live s (s.doTick pins)

/-- FORWARD_EDGE. A forward encoder edge adds one to the belt count, clears the reverse-motion flag and adds one to
the window edge count (R1). -/
def execForwardEdge (s : State) : Out := live s s.forwardEdge

/-- REVERSE_EDGE. A reverse encoder edge subtracts one from the belt count, sets the reverse-motion flag and takes
one from the window edge count, without testing marks (R1). -/
def execReverseEdge (s : State) : Out := live s s.reverseEdge

/-- DOUBLE_STEP. A change of both encoder channels between samples changes no count and is passed to no block (R1). -/
def execDoubleStep (s : State) : Out := live s s.doubleStep

/-- MARK_FIRE. A forward edge that brings the belt count onto an ARMED mark makes it FIRED and tells its
consumer: offer, approach, stop or gate-clear (R13). -/
def execMarkFire (s : State) : Out := live s s.doMarkFire

/-- EYE_RAW_CHANGE. A raw eye change away from the channel state begins a pending edge with the captured count and
flag; a return to the channel state cancels it (R19). -/
def execEyeRawChange (eye : Eye) (high : Bool) (s : State) : Out :=
  .next (if s.boot.resetHeld then s.updChan eye fun c => { c with raw := high }
         else s.doEyeRawChange eye high)

/-- EYE_EDGE_CONFIRM. A run of eye-filter tick samples confirms a pending edge, changes the channel state by R21 and
delivers the edge to its consumers by R22 (R20). -/
def execEyeEdgeConfirm (eye : Eye) (s : State) : Out := live s (s.doEyeEdgeConfirm eye)

/-- EYE_FIRST_STATE. In SCANNING each fitted channel takes its first state from a run of samples; when the last one
does, the start-up scan runs and the station becomes ACTIVE (R24). -/
def execEyeFirstState (eye : Eye) (s : State) : Out := live s (s.doEyeFirstState eye)

/-- CHECK_MISSED. When the belt's travel past the first awaited record's prediction exceeds the check tolerance, the
record is declared missed and flagged SLIPPED (R27). -/
def execCheckMissed (eye : Eye) (s : State) : Out := live s (s.doCheckMissed eye)

/-- EYE_JAM. When travel since an ENTRY or EXIT blocked-from count exceeds the jam distance, the condition of
ENTRY-JAM or EXIT-JAM becomes present (R29). -/
def execEyeJam (eye : Eye) (s : State) : Out := live s (s.doEyeJam eye)

/-- EYE_STUCK. When travel since an eye's unaccounted-from count exceeds the jam allowance, the condition of
EYE-STUCK becomes present (R30). -/
def execEyeStuck (eye : Eye) (s : State) : Out := live s (s.doEyeStuck eye)

/-- TAG_REPLY_COMPLETE. A tag reply completed at its third byte delivers the number, NOREAD or garbled result to the
owner, or is discarded in DRAINING (R33). -/
def execTagReplyComplete (b0 b1 b2 : Byte) (s : State) : Out :=
  live s (s.doTagReplyComplete b0 b1 b2)

/-- TAG_REPLY_GAP. A gap of more than one tick after the first or second reply byte completes the reply as garbled
(R31). -/
def execTagReplyGap (b0 : Byte) (b1 : Option Byte) (s : State) : Out :=
  live s (s.doTagReplyGap b0 b1)

/-- READER_TIMEOUT. Expiry of the reader timeout gives the owner NOREAD in READING, or returns DRAINING to IDLE (R33). -/
def execReaderTimeout (s : State) : Out := live s s.doReaderTimeout

/-- RECORD_VANISH. A record whose travel past its predicted EXIT crossing exceeds the jam allowance is removed with
LOST-RACK: to the lost list if TAKEN, or with its offer withdrawn if OFFERED (R54). -/
def execRecordVanish (s : State) : Out := live s s.doRecordVanish

/-- RESIDENCE_EXPOSURE_MET. At the tick at which the TUNNEL head's residence reaches min exposure × 100, the exposure is met
and the offer conditions are tested (R80). -/
def execResidenceExposureMet (s : State) : Out := live s s.doResidenceExposureMet

/-- WINDOW_END. Every 25 ticks the window count is appended to the history, the measured speed is recomputed and,
in RUN or CREEP, the drive level is regulated (R70). -/
def execWindowEnd (s : State) : Out := live s s.doWindowEnd

/-- BELT_UNSTEADY. When the unsteady count in RUN while UNLOCKED reaches the unsteady limit × 100, the condition of
BELT-UNSTEADY becomes present (R79). -/
def execBeltUnsteady (s : State) : Out := live s s.doBeltUnsteady

/-- SPIN_UP_EXPIRY. Expiry of the spin-up time puts the belt into the wanted motion as it then stands (R66). -/
def execSpinUpExpiry (s : State) : Out := live s s.doSpinUpExpiry

/-- OFFER_RESEND. Expiry of the re-send timer sends the OFFER again with the same serial and restarts the timer at
10 or 100 ticks (R86). -/
def execOfferResend (s : State) : Out := live s s.doOfferResend

/-- WHERE_SENT. When travel since TAKE first exceeds half the transfer allowance with no landing answer, one WHERE
is sent (R92). -/
def execWhereSent (s : State) : Out := live s s.doWhereSent

/-- TRANSFER_ALLOWANCE_EXPIRY. When travel since TAKE exceeds the transfer allowance with no landing answer, the record is given
up to the lost list and LOST-RACK is raised (R93). -/
def execTransferAllowanceExpiry (s : State) : Out := live s s.doTransferExpiry

/-- OFFER. A received OFFER is answered by the first matching row: none, REFUSE, TAKE, WAIT, with slot or
waiting-offer changes (R96). -/
def execOffer (h : Hdr) (serial : Serial) (image : Image) (lengthMm : Fin 65536) 
    (s : State) : Out := live s (s.receive h (.offer serial image lengthMm))

/-- TAKE. A TAKE for the OFFERED head's serial makes it TAKEN or LEAVING, disarms approach and stop, records
taken-at and promotes the next record (R88). -/
def execTake (h : Hdr) (serial : Serial) (s : State) : Out := live s (s.receive h (.take serial))

/-- WAIT. A WAIT for the OFFERED head's serial marks the offer ANSWERED and restarts the re-send timer at
100 ticks (R87). -/
def execWait (h : Hdr) (serial : Serial) (s : State) : Out := live s (s.receive h (.wait serial))

/-- REFUSE. A REFUSE for the OFFERED head's serial marks the offer ANSWERED and restarts the re-send timer at
100 ticks (R87). -/
def execRefuse (h : Hdr) (serial : Serial) (reason : RefuseReason) (s : State) : Out :=
  live s (s.receive h (.refuse serial reason))

/-- WITHDRAW. A received WITHDRAW clears a noted offer or frees a RESERVED slot with that serial (R100). -/
def execWithdraw (h : Hdr) (serial : Serial) (s : State) : Out :=
  live s (s.receive h (.withdraw serial))

/-- LANDED. A LANDED OK, NOREAD or MISMATCH sets the landing answer of the matching record, which may then
leave, or is matched against the lost list (R90). -/
def execLanded (h : Hdr) (serial : Serial) (number : RackNo) (answer : LandAnswer) 
    (s : State) : Out := live s (s.receive h (.landed serial number (LandAnswer.status answer)))

/-- LANDED_SKIPPED. A LANDED SKIPPED moves the matching record to the lost list with LOST-RACK and may pass the EXIT
passage on (R91). -/
def execLandedSkipped (h : Hdr) (serial : Serial) (number : RackNo) (s : State) : Out :=
  live s (s.receive h (.landed serial number .skipped))

/-- WHERE. A received WHERE is answered from the landing log, left unanswered while a slot is LANDING, or
answered NOT-SEEN (R106). -/
def execWhereIs (h : Hdr) (serial : Serial) (s : State) : Out :=
  live s (s.receive h (.whereIs serial))

/-- NOT_SEEN. A received NOT-SEEN changes nothing at the upstream station (R92). -/
def execNotSeen (h : Hdr) (serial : Serial) (s : State) : Out :=
  live s (s.receive h (.notSeen serial))

/-- ENTRY_READY. When entry readiness comes to hold for a port with a NOTED offer, as when the rear tail clears the
entry gap, TAKE is sent and a slot reserved (R97). -/
def execEntryReady (s : State) : Out := live s s.doEntryReady

/-- SLOT_ARRIVAL_EXPIRY. When D's travel since a RESERVED slot's taken-at count exceeds the arrival allowance, the slot is
freed and EXPECTED-MISSING is raised (R107). -/
def execSlotArrivalExpiry (s : State) : Out := live s s.doSlotArrivalExpiry

/-- STALL. A STALL from a downstream neighbour makes its span word STALLED while a TAKEN or LEAVING record
goes toward it (R69). -/
def execStall (h : Hdr) (s : State) : Out := live s (s.receive h .stall)

/-- GO. A GO from a downstream neighbour makes its span word FREE and sets its held follow speed (R69). -/
def execGo (h : Hdr) (speed : Fin 1000) (s : State) : Out := live s (s.receive h (.go speed))

/-- GATE_SETTLE. Expiry of the settle timer makes the commanded position the gate position and tests any held
command, readiness and offers (R116). -/
def execGateSettle (s : State) : Out := live s s.doGateSettle

/-- PATIENCE_EXPIRY. Expiry of the patience timer re-resolves an OFFERED DIVERT head to its other port if allowed, or
else restarts the timer (R121). -/
def execPatienceExpiry (s : State) : Out := live s s.doPatienceExpiry

/-- CLASS_KEY_PRESS. A recognised press of class key n in ACTIVE makes n the selected class (R124). -/
def execClassKeyPress (n : RackClass) (s : State) : Out := live s (s.doClassKeyPress n)

/-- SEND_KEY_PRESS. A press of SEND sets the AT-BAY head's class from the selected class, sets the released mark and
clears the selection (R127). -/
def execSendKeyPress (s : State) : Out := live s s.doSendKeyPress

/-- EMPTY_KEY_PRESS. A press of EMPTY makes the AT-BAY record's class EMPTY, releasing it at UNLOAD (R128). -/
def execEmptyKeyPress (s : State) : Out := live s s.doEmptyKeyPress

/-- WANT_TIMER. Expiry of the 100-tick WANT timer queues WANT with the current want and restarts the timer (R132). -/
def execWantTimer (s : State) : Out := live s s.doWantTimer

/-- CALL_LAMP_FLASH. Every 50 ticks in FLASH the call lamp output toggles (R134). -/
def execCallLampFlash (s : State) : Out := live s s.doCallLampFlash

/-- WANT. A WANT from a loader in a branch set sets that loader's heard-want entry fresh with its value
(R140). -/
def execWant (h : Hdr) (n : Fin 16) (s : State) : Out := live s (s.receive h (.want n))

/-- WANT_EXPIRY. When the want expiry has passed since an entry was heard, its fresh flag is cleared and its want
counts 0 (R141). -/
def execWantExpiry (loader : Station) (s : State) : Out := live s (s.doWantExpiry loader)

/-- STEER_EXPIRY. When the steer expiry has passed since an entry's sent-at tick, the entry is removed from its
steered list (R145). -/
def execSteerExpiry (branch : DownPort) (s : State) : Out := live s (s.doSteerExpiry branch)

/-- RACK_IN. A RACK-IN naming this divert as steered-by removes a matching steered-list entry (R146). -/
def execRackIn (h : Hdr) (number : RackNo) (steeredBy : Station) (s : State) : Out :=
  live s (s.receive h (.rackIn number steeredBy))

/-- PARK_DELAY_EXPIRY. Expiry of the park delay queues DOZE-ASK to each upstream neighbour and starts the reply timer, or
parks at once with none connected (R151). -/
def execParkDelayExpiry (s : State) : Out := live s s.doParkDelayExpiry

/-- DOZE_ASK. A DOZE-ASK from a downstream neighbour is answered DOZE-ALLOW or DOZE-DENY by the records within
doze reach (R152). -/
def execDozeAsk (h : Hdr) (s : State) : Out := live s (s.receive h .dozeAsk)

/-- DOZE_ALLOW. A DOZE-ALLOW in ASKING marks its port, and when every port has allowed the belt enters PARK
(R153). -/
def execDozeAllow (h : Hdr) (s : State) : Out := live s (s.receive h .dozeAllow)

/-- DOZE_DENY. A DOZE-DENY in ASKING ends the ask and restarts the park delay (R153). -/
def execDozeDeny (h : Hdr) (s : State) : Out := live s (s.receive h .dozeDeny)

/-- DOZE_REPLY_TIMEOUT. Expiry of the reply timer with a reply still missing ends the ask and restarts the park delay
(R153). -/
def execDozeReplyTimeout (s : State) : Out := live s s.doDozeReplyTimeout

/-- POLL. Expiry of the poll timer in PARK samples every fitted eye and reports a wake cause if any has
changed (R156). -/
def execPoll (s : State) : Out := live s s.doPoll

/-- NEIGHBOUR_SILENT. A HEARD neighbour record unheard for 200 ticks becomes SILENT, raises NEIGHBOUR-SILENT and clears
the port's waiting offer (R172). -/
def execNeighbourSilent (port : Port) (s : State) : Out := live s (s.doNeighbourSilent port)

/-- STATUS_TIMER. Expiry of the 50-tick STATUS timer queues STATUS and restarts the timer (R173). -/
def execStatusTimer (s : State) : Out := live s s.doStatusTimer

/-- STATUS. A received STATUS sets the sender's last belt state heard in its neighbour record (R171). -/
def execStatus (h : Hdr) (info : StatusInfo) (s : State) : Out :=
  live s (s.receive h (.status info))

/-- ATTENTION. A received ATTENTION only refreshes the sender's neighbour record (R169). -/
def execAttention (h : Hdr) (info : AttentionInfo) (s : State) : Out :=
  live s (s.receive h (.attention info))

/-- FRAME_REJECTED. A complete frame failing the receive filter, or a broken frame, is dropped without a cause (R168). -/
def execFrameRejected (chars : List RxChar) (s : State) : Out := live s (s.receiveRun chars)

/-- FRAME_FOR_OTHER. A filtered frame addressed to another station refreshes the sender's neighbour records and is
dropped (R168). -/
def execFrameForOther (h : Hdr) (payload : Payload) (s : State) : Out :=
  live s (s.receive h payload)

/-- SEND_START. After the line has been quiet for the quiet interval plus the back-off, the frame in the send
register begins to be sent with ZDE high (R162). -/
def execSendStart (quietMicros : Nat) (s : State) : Out := live s (s.doSendStart quietMicros)

/-- FRAME_SENT. A frame read back entirely as sent is complete, ZDE goes low and the next queued frame moves into
the register (R162). -/
def execFrameSent (s : State) : Out := live s s.doFrameSent

/-- COLLISION. A character read back differently stops sending and sets a back-off, or discards the frame with
LINE-OVERRUN at the 16th attempt (R163). -/
def execCollision (s : State) : Out := live s s.doCollision

/-- ASK. An ASK addressed to this station is answered with an ATTENTION reply carrying the highest-ranked
cause (R177). -/
def execAsk (h : Hdr) (s : State) : Out := live s (s.receive h .ask)

/-- ACK. An ACK from a panel acts on the highest-ranked PENDING cause, making it ABSENT or PENDING-ACK
(R178). -/
def execAck (h : Hdr) (s : State) : Out := live s (s.receive h .ack)

/-- CLEAR. A CLEAR from a panel makes ABSENT every latched cause and every standing cause whose condition has
ended (R180). -/
def execClear (h : Hdr) (s : State) : Out := live s (s.receive h .clear)

/-- FLUSH. A FLUSH from a panel puts every block into its FLUSH values, empties the track and reruns the
start-up scan (R180). -/
def execFlush (h : Hdr) (s : State) : Out := live s (s.receive h .flush)

/-- ACK_KEY_PRESS. A recognised press of the ACK key in ACTIVE starts its hold count and is a wake cause (R181). -/
def execAckKeyPress (s : State) : Out := live s s.doAckKeyPress

/-- ACK_KEY_RELEASE. Release of the ACK key after fewer than 300 ticks acts as an ACK (R181). -/
def execAckKeyRelease (s : State) : Out := live s s.doAckKeyRelease

/-- ACK_KEY_HOLD_CLEAR. A hold of the ACK key reaching 300 ticks acts as CLEAR (R181). -/
def execAckKeyHoldClear (s : State) : Out := live s s.doAckKeyHoldClear

/-- ACK_KEY_HOLD_FLUSH. A hold of the ACK key reaching 800 ticks at level 3 acts as FLUSH (R181). -/
def execAckKeyHoldFlush (s : State) : Out := live s s.doAckKeyHoldFlush

/-- ATTENTION_LAMP_FLASH. Every 25 ticks in FLASH the attention lamp output toggles (R183). -/
def execAttentionLampFlash (s : State) : Out := live s s.doAttentionLampFlash

/-- ESTOP_OPEN. An ESTOP sample reading low makes the E-STOP condition present and raises E-STOP (R176). -/
def execEstopOpen (s : State) : Out := live s s.doEstopOpen

/-- ESTOP_CLOSE. Three consecutive ESTOP samples reading high end the E-STOP condition (R176). -/
def execEstopClose (s : State) : Out := live s s.doEstopClose

/-- STATION_NUMBER_READ. Three agreeing strap samples fix the station number, which leads either to the profile read or to
UNSET for 0 (R185). -/
def execStationNumberRead (s : State) : Out := live s s.doStationNumberRead

/-- PROFILE_READ. Completion of the 113-byte SPI read checks the profile image, then clamps it and enters SCANNING,
or enters UNSET (R186). -/
def execProfileRead (bytes : List Byte) (s : State) : Out := live s (s.doProfileRead bytes)

/-- KEY_RELEASE. Three consecutive samples reading a pressed SEND, EMPTY or class key as released change its
recognised state to released, so that a later press can be recognised (R124). -/
def execKeyRelease (key : OpKey) (s : State) : Out := live s (s.doKeyRelease key)

end Sys2Proof.Machine
end

