-- ==== Sys2Proof/Machine/Dispatch.lean ====
section
/-! DEFINITION. From a command to its meaning, one arm per row of spec/opcode_table.json. -/

namespace Sys2Proof.Machine

def exec (i : Instr) (s : State) : Host.Outcome State Fault Refusal :=
  match i with
  | .powerOnReset => Sys2Proof.Machine.execPowerOnReset s
  | .resetRelease ena enb estop => Sys2Proof.Machine.execResetRelease ena enb estop s
  | .tick pins => Sys2Proof.Machine.execTick pins s
  | .forwardEdge => Sys2Proof.Machine.execForwardEdge s
  | .reverseEdge => Sys2Proof.Machine.execReverseEdge s
  | .doubleStep => Sys2Proof.Machine.execDoubleStep s
  | .markFire => Sys2Proof.Machine.execMarkFire s
  | .eyeRawChange eye high => Sys2Proof.Machine.execEyeRawChange eye high s
  | .eyeEdgeConfirm eye => Sys2Proof.Machine.execEyeEdgeConfirm eye s
  | .eyeFirstState eye => Sys2Proof.Machine.execEyeFirstState eye s
  | .checkMissed eye => Sys2Proof.Machine.execCheckMissed eye s
  | .eyeJam eye => Sys2Proof.Machine.execEyeJam eye s
  | .eyeStuck eye => Sys2Proof.Machine.execEyeStuck eye s
  | .tagReplyComplete b0 b1 b2 => Sys2Proof.Machine.execTagReplyComplete b0 b1 b2 s
  | .tagReplyGap b0 b1 => Sys2Proof.Machine.execTagReplyGap b0 b1 s
  | .readerTimeout => Sys2Proof.Machine.execReaderTimeout s
  | .recordVanish => Sys2Proof.Machine.execRecordVanish s
  | .residenceExposureMet => Sys2Proof.Machine.execResidenceExposureMet s
  | .windowEnd => Sys2Proof.Machine.execWindowEnd s
  | .beltUnsteady => Sys2Proof.Machine.execBeltUnsteady s
  | .spinUpExpiry => Sys2Proof.Machine.execSpinUpExpiry s
  | .offerResend => Sys2Proof.Machine.execOfferResend s
  | .whereSent => Sys2Proof.Machine.execWhereSent s
  | .transferAllowanceExpiry => Sys2Proof.Machine.execTransferAllowanceExpiry s
  | .offer h serial image lengthMm => Sys2Proof.Machine.execOffer h serial image lengthMm s
  | .take h serial => Sys2Proof.Machine.execTake h serial s
  | .wait h serial => Sys2Proof.Machine.execWait h serial s
  | .refuse h serial reason => Sys2Proof.Machine.execRefuse h serial reason s
  | .withdraw h serial => Sys2Proof.Machine.execWithdraw h serial s
  | .landed h serial number answer => Sys2Proof.Machine.execLanded h serial number answer s
  | .landedSkipped h serial number => Sys2Proof.Machine.execLandedSkipped h serial number s
  | .whereIs h serial => Sys2Proof.Machine.execWhereIs h serial s
  | .notSeen h serial => Sys2Proof.Machine.execNotSeen h serial s
  | .entryReady => Sys2Proof.Machine.execEntryReady s
  | .slotArrivalExpiry => Sys2Proof.Machine.execSlotArrivalExpiry s
  | .stall h => Sys2Proof.Machine.execStall h s
  | .go h speed => Sys2Proof.Machine.execGo h speed s
  | .gateSettle => Sys2Proof.Machine.execGateSettle s
  | .patienceExpiry => Sys2Proof.Machine.execPatienceExpiry s
  | .classKeyPress n => Sys2Proof.Machine.execClassKeyPress n s
  | .sendKeyPress => Sys2Proof.Machine.execSendKeyPress s
  | .emptyKeyPress => Sys2Proof.Machine.execEmptyKeyPress s
  | .wantTimer => Sys2Proof.Machine.execWantTimer s
  | .callLampFlash => Sys2Proof.Machine.execCallLampFlash s
  | .want h n => Sys2Proof.Machine.execWant h n s
  | .wantExpiry loader => Sys2Proof.Machine.execWantExpiry loader s
  | .steerExpiry branch => Sys2Proof.Machine.execSteerExpiry branch s
  | .rackIn h number steeredBy => Sys2Proof.Machine.execRackIn h number steeredBy s
  | .parkDelayExpiry => Sys2Proof.Machine.execParkDelayExpiry s
  | .dozeAsk h => Sys2Proof.Machine.execDozeAsk h s
  | .dozeAllow h => Sys2Proof.Machine.execDozeAllow h s
  | .dozeDeny h => Sys2Proof.Machine.execDozeDeny h s
  | .dozeReplyTimeout => Sys2Proof.Machine.execDozeReplyTimeout s
  | .poll => Sys2Proof.Machine.execPoll s
  | .neighbourSilent port => Sys2Proof.Machine.execNeighbourSilent port s
  | .statusTimer => Sys2Proof.Machine.execStatusTimer s
  | .status h info => Sys2Proof.Machine.execStatus h info s
  | .attention h info => Sys2Proof.Machine.execAttention h info s
  | .frameRejected chars => Sys2Proof.Machine.execFrameRejected chars s
  | .frameForOther h payload => Sys2Proof.Machine.execFrameForOther h payload s
  | .sendStart quietMicros => Sys2Proof.Machine.execSendStart quietMicros s
  | .frameSent => Sys2Proof.Machine.execFrameSent s
  | .collision => Sys2Proof.Machine.execCollision s
  | .ask h => Sys2Proof.Machine.execAsk h s
  | .ack h => Sys2Proof.Machine.execAck h s
  | .clear h => Sys2Proof.Machine.execClear h s
  | .flush h => Sys2Proof.Machine.execFlush h s
  | .ackKeyPress => Sys2Proof.Machine.execAckKeyPress s
  | .ackKeyRelease => Sys2Proof.Machine.execAckKeyRelease s
  | .ackKeyHoldClear => Sys2Proof.Machine.execAckKeyHoldClear s
  | .ackKeyHoldFlush => Sys2Proof.Machine.execAckKeyHoldFlush s
  | .attentionLampFlash => Sys2Proof.Machine.execAttentionLampFlash s
  | .estopOpen => Sys2Proof.Machine.execEstopOpen s
  | .estopClose => Sys2Proof.Machine.execEstopClose s
  | .stationNumberRead => Sys2Proof.Machine.execStationNumberRead s
  | .profileRead bytes => Sys2Proof.Machine.execProfileRead bytes s
  | .keyRelease key => Sys2Proof.Machine.execKeyRelease key s

end Sys2Proof.Machine
end

