-- ==== Sys2Proof/Safety.lean ====
section
/-! DEFINITION. What claims about the C420 are stated in: when a frame reaches the part, what the derived
actions of a step leave alone, which frames are on their way out, and the invariants of a sound state. -/

namespace Sys2Proof.Machine

/-! ### When a command finds the part ready for it -/

/-- RESET is not held low (R184). -/
def State.Runs (s : State) : Prop := s.boot.resetHeld = false

/-- A frame with this header is received and passes the filter (R162, R167, R168): RESET is released, the
mode is past LOADING, the station number is 1 to 63 and not FROM, FROM is not 0, and nothing is being
sent. -/
def State.Hears (s : State) (h : Hdr) : Prop :=
  s.Runs ∧ s.boot.mode ≠ .loading ∧ (∃ n, s.boot.station = some n ∧ n ≠ 0 ∧ h.src ≠ n) ∧ h.src ≠ 0
    ∧ ∀ r, s.line.reg = some r → r.sending = false

/-- The frame is heard and TO names this station (R168). -/
def State.HearsAlone (s : State) (h : Hdr) : Prop :=
  s.Hears h ∧ h.dst ≠ 0 ∧ s.boot.station = some h.dst

/-- The frame is heard, and TO names this station or all (R168). -/
def State.HearsOpen (s : State) (h : Hdr) : Prop :=
  s.Hears h ∧ (h.dst = 0 ∨ s.boot.station = some h.dst)

/-- Nothing that is due is still untaken (log 2). -/
def State.NothingDue (s : State) : Prop := s.takeDue = s

/-- The header and payload of a command that is a received frame of a kind; none for the other commands. -/
def Frame.ofInstr : Instr → Option RxFrame
  | .offer h n i l => some ⟨h, .offer n i l⟩
  | .take h n => some ⟨h, .take n⟩
  | .wait h n => some ⟨h, .wait n⟩
  | .refuse h n r => some ⟨h, .refuse n r⟩
  | .withdraw h n => some ⟨h, .withdraw n⟩
  | .landed h n k a => some ⟨h, .landed n k (LandAnswer.status a)⟩
  | .landedSkipped h n k => some ⟨h, .landed n k .skipped⟩
  | .whereIs h n => some ⟨h, .whereIs n⟩
  | .notSeen h n => some ⟨h, .notSeen n⟩
  | .stall h => some ⟨h, .stall⟩
  | .go h v => some ⟨h, .go v⟩
  | .want h n => some ⟨h, .want n⟩
  | .rackIn h k st => some ⟨h, .rackIn k st⟩
  | .dozeAsk h => some ⟨h, .dozeAsk⟩
  | .dozeAllow h => some ⟨h, .dozeAllow⟩
  | .dozeDeny h => some ⟨h, .dozeDeny⟩
  | .status h i => some ⟨h, .status i⟩
  | .attention h i => some ⟨h, .attention i⟩
  | .frameForOther h p => some ⟨h, p⟩
  | .ask h => some ⟨h, .ask⟩
  | .ack h => some ⟨h, .ack⟩
  | .clear h => some ⟨h, .clear⟩
  | .flush h => some ⟨h, .flush⟩
  | _ => none

/-- The commands that reach the part while RESET is held low: the reset itself, its release, and the pins of
the eyes. -/
def underReset : Instr → Bool
  | .powerOnReset => true
  | .resetRelease _ _ _ => true
  | .eyeRawChange _ _ => true
  | _ => false

/-! ### What the derived actions leave alone -/

/-- The fields of a record that no derived action writes; MISROUTED is left out (R125). -/
def Rec.kept (r : Rec) : Rec :=
  { blankRec r.id r.front with
    number := r.number, cls := r.cls, origin := r.origin, steeredBy := r.steeredBy, hop := r.hop,
    flags := { r.flags with misrouted := false },
    localFlags := { r.localFlags with misrouted := false },
    length := r.length, residence := r.residence, entryOpen := r.entryOpen,
    exitPass := r.exitPass, entry := r.entry }

/-- The fields of a channel that no derived action writes: all but the unaccounted-from count (R30). -/
def EyeChan.kept (c : EyeChan) : EyeChan := { c with unaccounted := none }

/-- The channels and ENTRY's captures. -/
def Eyes.kept (e : Eyes) : Eyes :=
  { e with entry := e.entry.kept, exit := e.exit.kept, checkA := e.checkA.kept,
           checkB := e.checkB.kept, gate := e.gate.kept, bay := e.bay.kept }

/-- The state with everything blanked that the derived actions of a step can write. What remains is written by
the event of a step alone. -/
def State.kept (s : State) : State :=
  { s with
    marks := {}
    eyes := s.eyes.kept
    track := s.track.map Rec.kept
    dr := { m16 := s.dr.m16, vmeas := s.dr.vmeas }
    ex := {}
    en := { log0 := s.en.log0, log1 := s.en.log1 }
    gate := {}
    rt := { wants := s.rt.wants, lastChoice := s.rt.lastChoice }
    bay := { s.bay with released := false, want := 0, lamp := {} }
    idle := { reply0 := s.idle.reply0, reply1 := s.idle.reply1 }
    line := { s.line with queue := [], reg := none }
    att := { s.att with
      causes := { s.att.causes with lineOverrun := {}, misroute := {}, beltUnsteady := {} },
      level := 0, lamp := {} } }

/-! ### Frames on their way out -/

/-- A frame waits in the send queue or stands in the send register. -/
def State.Sends (s : State) (f : Frame) : Prop :=
  f ∈ s.line.queue ∨ ∃ r, s.line.reg = some r ∧ r.frame = f

/-- A PROMPT frame is admitted (R165): the station offers frames, and the queue has a free entry. -/
def State.HasRoom (s : State) : Prop :=
  s.canQueue = true ∧ s.line.queue.length < Config.queueSize

/-! ### Invariants -/

/-- The attention lamp agrees with the causes (R183): its state is the one they give; OFF is low and STEADY
is high, with no flash running; FLASH has a half that runs. -/
def State.LampSound (s : State) : Prop :=
  s.att.lamp.st = s.attState
    ∧ (s.att.lamp.st = .off → s.att.lamp.high = false ∧ s.att.lamp.left = none)
    ∧ (s.att.lamp.st = .steady → s.att.lamp.high = true ∧ s.att.lamp.left = none)
    ∧ (s.att.lamp.st = .flash → s.att.lamp.left.isSome = true)

/-- The drive level (R62, R65, R187): within 0 to 1023, 0 in HOLD and in PARK, and at level 3 the belt is in HOLD
or PARK. The start level and the resume level are within 0 to 1023 too, and the idle logic is in TIMING or
ASKING only while the belt is in HOLD (R150, R155). -/
def State.DriveSound (s : State) : Prop :=
  s.dr.level ≤ 1023 ∧ s.dr.resume ≤ 1023 ∧ s.boot.prof.startLevel ≤ 1023
    ∧ ((s.dr.belt = .hold ∨ s.dr.belt = .park) → s.dr.level = 0)
    ∧ (s.att.level = 3 → s.dr.belt = .hold ∨ s.dr.belt = .park)
    ∧ ((s.idle.phase = .timing ∨ s.idle.phase = .asking) → s.dr.belt = .hold)

/-- No two entries of the queue satisfy a test. -/
def AtMostOne (p : Frame → Bool) (q : List Frame) : Prop := (q.filter p).length ≤ 1

/-- The send queue and register (R162, R164): at most 16 frames, PROMPT before ROUTINE, at most one STATUS and
one WANT, the register empty only with the queue, an attempt count of at most 15 and a back-off of at most
16 slots. -/
def State.LineSound (s : State) : Prop :=
  s.line.queue.length ≤ 16
    ∧ (∃ a b, s.line.queue = a ++ b ∧ (∀ f ∈ a, Payload.prompt f.payload = true)
        ∧ ∀ f ∈ b, Payload.prompt f.payload = false)
    ∧ AtMostOne (fun f => Payload.isStatus f.payload) s.line.queue
    ∧ AtMostOne (fun f => Payload.isWant f.payload) s.line.queue
    ∧ (s.line.reg = none → s.line.queue = [])
    ∧ ∀ r, s.line.reg = some r → r.attempts ≤ 15 ∧ r.backoff ≤ 16

/-- The names of the records are their own: all different, and all below the next one (log 9). -/
def State.NamesSound (s : State) : Prop :=
  (s.track.map (·.id)).Nodup ∧ ∀ r ∈ s.track, r.id < s.nextId

/-- The mark group is with the head (R12, R38): where a head is, it owns the group. -/
def State.HeadSound (s : State) : Prop :=
  s.NamesSound ∧ ∀ r, s.head = some r → s.marks.owner = some r.id

/-- No rack number other than NOTAG stands twice in the track (R42). -/
def State.NumbersSound (s : State) : Prop :=
  s.NamesSound ∧
    (s.track.map (·.number)).Pairwise fun a b => a = notag ∨ b = notag ∨ a ≠ b

/-- The track holds at most the track limit of records, which is at most 12 (R36, R187); in LOADING no profile
has been read and the track is empty (R184). -/
def State.TrackSound (s : State) : Prop :=
  s.boot.prof.trackLimit ≤ 12 ∧ s.track.length ≤ s.boot.prof.trackLimit
    ∧ (s.boot.mode = .loading → s.boot.loaded = false ∧ s.track = [])

end Sys2Proof.Machine
end

