-- ==== Sys2Proof/Certificates/Slice0/Obligations.lean ====
section
/-! DEFINITION. The statements about the C420 that are to be proved. Most say what a command does: exec answers
the next state in which the event has had its effect and the derived actions of the step have followed
(`State.settle`, log 10). What those can write at all is said once, in `Obligations.DerivedActionsKeepTheRest`
and the statements after it. -/

open Sys2Proof Sys2Proof.Machine

/-! ### The machine of commands -/

/-- A step runs the command at the front of the queue, on the state with the queue's rest; on an empty queue the
part idles (95, the model's queue; log 5). -/
def Obligations.StepRunsFrontCommand : Prop :=
  (∀ (c : Instr) (s : State), step { s with pending := c :: s.pending } = exec c s)
    ∧ ∀ s : State, s.pending = [] → step s = .next s

/-- (1) Every command ends in a next state, and no command touches the commands that wait. That POWER_ON_RESET
keeps the queue is the model's choice (log 23). (2) While RESET is held low nothing acts but the reset itself,
and the outputs are held safe (R184). That only the rows of the reset and the pins of the eyes reach the part
then is the model's choice (log 4, log 6). -/
def Obligations.CommandsCompleteAndResetHoldsThem : Prop :=
  (∀ (c : Instr) (s : State), ∃ t, exec c s = .next t ∧ t.pending = s.pending)
  ∧ (∀ (c : Instr) (s : State), s.boot.resetHeld = true →
      (underReset c = false → exec c s = .next s)
        ∧ s.drvPin = 0 ∧ s.brkPin = true ∧ s.gatePin = false ∧ s.lattPin = false ∧ s.lcallPin = false
        ∧ s.zdePin = false)

/-! ### Reset and start-up -/

/-- POWER_ON_RESET from any state (R184): every block at its power-on values as R2, R3, R11, R24, R35, R61, R82,
R83, R95, R115, R123, R135, R149, R164, R170, R171 and R174 give them. That the want is 0 until the profile
gives the want target is the model's choice (log 21). No key has a recognised state yet, no channel a first
state, and the window timer starts at RESET_RELEASE. The pins of the eyes read on. That the eye pins and the
queue outlast the reset is the model's choice (log 23). -/
def Obligations.PowerOnResetValues : Prop :=
  ∀ s : State, ∃ t, exec .powerOnReset s = .next t
    ∧ t.boot.resetHeld = true ∧ t.boot.mode = .loading ∧ t.boot.station = none
    ∧ t.cu.count = 0 ∧ t.cu.reverse = false
    ∧ t.marks.owner = none ∧ t.marks.offer.st = .absent ∧ t.marks.approach.st = .absent
    ∧ t.marks.stop.st = .absent ∧ t.marks.gateClear.st = .absent
    ∧ (∀ e, (t.chan e).pend = none ∧ (t.chan e).awaited = [] ∧ (t.chan e).missed = []
        ∧ (t.chan e).unaccounted = none ∧ (t.chan e).raw = (s.chan e).raw ∧ (t.chan e).settled = false
        ∧ (t.chan e).jam = false ∧ (t.chan e).stuck = false)
    ∧ t.eyes.lead = none ∧ t.eyes.trail = none ∧ t.eyes.leadFresh = false ∧ t.eyes.trailFresh = false
    ∧ t.tag.st = .idle ∧ t.tag.owner = none ∧ t.tag.timeout = none ∧ t.track = []
    ∧ t.dr.belt = .hold ∧ t.dr.level = 0 ∧ t.dr.resume = 0 ∧ t.dr.lock = .unlocked
    ∧ t.dr.holdTicks = 0 ∧ t.dr.holdFrom = none ∧ t.dr.spinLeft = none ∧ t.dr.winEdges = 0 ∧ t.dr.winLeft = none
    ∧ t.dr.history = [] ∧ t.dr.m16 = 0 ∧ t.dr.vmeas = 0 ∧ t.dr.span0 = .free ∧ t.dr.span1 = .free
    ∧ t.dr.satHigh = 0 ∧ t.dr.satLow = 0 ∧ t.dr.inBand = 0 ∧ t.dr.outBand = 0 ∧ t.dr.unsteady = 0
    ∧ t.ex.serial0 = 0 ∧ t.ex.serial1 = 0 ∧ t.ex.lost = [] ∧ t.ex.plainLoss = false
    ∧ t.en.slotA = none ∧ t.en.slotB = none ∧ t.en.noted0 = none ∧ t.en.noted1 = none
    ∧ t.en.log0 = [] ∧ t.en.log1 = [] ∧ t.en.stall0 = false ∧ t.en.stall1 = false
    ∧ t.en.lastGranted = .u1
    ∧ t.gate.pos = .straight ∧ t.gate.commanded = .d0 ∧ t.gatePin = false ∧ t.gate.settle = none
    ∧ t.gate.held = none ∧ t.gate.rackRoute = none
    ∧ t.rt.wants = [] ∧ t.rt.steered0 = [] ∧ t.rt.steered1 = [] ∧ t.rt.lastChoice = .d1
    ∧ t.bay.selected = none ∧ t.bay.released = false ∧ t.bay.want = 0 ∧ t.bay.lamp.st = .off
    ∧ t.lcallPin = false ∧ t.bay.wantTimer = none ∧ t.bay.ackHold = none
    ∧ (∀ k, k = t.bay.sendKey ∨ k = t.bay.emptyKey ∨ k = t.bay.ackKey ∨ k ∈ t.bay.classKeys →
        k.pressed = none ∧ k.cand = false ∧ k.run = 0)
    ∧ t.bay.classKeys.length = 16
    ∧ t.idle.phase = .awake ∧ t.idle.park = none ∧ t.idle.reply = none ∧ t.idle.poll = none
    ∧ t.idle.wakePending = false ∧ t.idle.reply0 = .none ∧ t.idle.reply1 = .none
    ∧ t.line.queue = [] ∧ t.line.reg = none ∧ t.line.tick = 0
    ∧ (∀ p, t.neigh p = none)
    ∧ (∀ c, (t.cause c).st = .absent ∧ (t.cause c).repeats = 0 ∧ (t.cause c).detail = 0
        ∧ (t.cause c).present = false)
    ∧ t.att.level = 0 ∧ t.att.lamp.st = .off ∧ t.pending = s.pending

/-- RESET_RELEASE (R184, R2, R70, R170, R176): the first sample of ENA and ENB is the previous pair, the count
stays, the window timer starts, the current tick is 0, and E-STOP is raised when the chain is open. -/
def Obligations.ResetReleaseStarts : Prop :=
  ∀ (s : State) (ena enb estop : Bool), s.boot.resetHeld = true →
    ∃ u : State, exec (.resetRelease ena enb estop) s = .next u.settle
      ∧ u.boot = { s.boot with resetHeld := false }
      ∧ u.cu = { s.cu with ena := ena, enb := enb }
      ∧ u.dr = { s.dr with winLeft := some 25 }
      ∧ u.line.tick = 0
      ∧ (estop = false → (u.cause .estop).st = .pending ∧ (u.cause .estop).present = true)
      ∧ (estop = true → u.att.causes = s.att.causes ∧ u.line.queue = s.line.queue)
      ∧ u.eyes = s.eyes ∧ u.track = s.track ∧ u.ex = s.ex ∧ u.en = s.en ∧ u.gate = s.gate ∧ u.bay = s.bay

/-- (1) STATION_NUMBER_READ (R185, R186, R188): the third of three agreeing strap samples fixes the number; 1 to
63 begins the profile read, with PCS low and the read command and address sent, each byte the most significant
bit first, a bit over a low and a high half of PCK, which rests low (levels by half periods, without their
length); 0 leads to UNSET with PROFILE-FAULT of detail 1. (2) PROFILE_READ (R72, R186, R187, R188, R189): an
image that passes the check is clamped and converted and the mode is SCANNING, with a HEARD neighbour record for
each connected port and, for a min exposure above 0, the exposure ceiling of (length less offer lead) / min
exposure, rounded down and at least 10; one that fails leads to UNSET with PROFILE-FAULT carrying the detail of
the first check that fails. -/
def Obligations.StartUpReadsNumberAndProfile : Prop :=
  (∀ (s : State) (n : Station), s.Runs → s.boot.mode = .loading → s.boot.station = none →
      s.boot.strapLast = some n → s.boot.strapRun = 3 →
      ∃ t, exec .stationNumberRead s = .next t
        ∧ (n ≠ 0 → t.boot = { s.boot with station := some n, pcs := false, spiOut := [0x03, 0, 0] }
            ∧ (∀ i < 3, ∀ j < 8, ∀ h < 2,
                t.pdoPin (16 * i + 2 * j + h) = ([0x03, 0, 0] : List Nat)[i]!.testBit (7 - j)
                  ∧ t.pckPin (16 * i + 2 * j + h) = decide (h = 1))
            ∧ (∀ j < 8 * 113, t.pckPin (48 + 2 * j) = false ∧ t.pckPin (48 + 2 * j + 1) = true)
            ∧ ∀ k, 2 * (8 * 116) ≤ k → t.pckPin k = false)
        ∧ (s.boot.pcs = true → ∀ k, s.pckPin k = false)
        ∧ (n = 0 → t.boot = { s.boot with station := some 0, mode := .unset }
            ∧ (t.cause .profileFault).st = .pending ∧ (t.cause .profileFault).detail = 1
            ∧ t.line.statusTimer = some 50)
        ∧ t.cu = s.cu ∧ t.tag = s.tag ∧ t.rt.wants = s.rt.wants)
  ∧ (∀ (s : State) (img : List Byte) (n : Station), s.Runs → s.boot.mode = .loading →
      s.boot.station = some n → n ≠ 0 → img.length = 113 →
      ∃ t, exec (.profileRead img) s = .next t
        ∧ (profileFault n img = none →
            t.boot.mode = .scanning ∧ t.boot.loaded = true ∧ t.boot.prof = profileOf img
              ∧ t.boot.cts = countsOf (profileOf img) ∧ t.boot.pcs = true ∧ t.boot.station = some n
              ∧ (let p := profileOf img
                 0 < p.minExposure → (t.boot.ceiling : Int)
                   = max 10 (((p.length : Int) - (p.offerLead : Int)) / (p.minExposure : Int)))
              ∧ t.line.statusTimer = some 50
              ∧ (t.neigh .u0 = if (profileOf img).u0 = 0 then none
                  else some ⟨(profileOf img).u0, s.line.tick, true, none, none⟩)
              ∧ (t.neigh .d0 = if (profileOf img).d0 = 0 then none
                  else some ⟨(profileOf img).d0, s.line.tick, true, none, none⟩)
              ∧ (t.neigh .u1 = if (profileOf img).u1 = 0 then none
                  else some ⟨(profileOf img).u1, s.line.tick, true, none, none⟩)
              ∧ (t.neigh .d1 = if (profileOf img).d1 = 0 then none
                  else some ⟨(profileOf img).d1, s.line.tick, true, none, none⟩))
        ∧ (∀ d, profileFault n img = some d →
            t.boot = { s.boot with pcs := true, mode := .unset }
              ∧ (t.cause .profileFault).st = .pending
              ∧ (t.cause .profileFault).detail = BitVec.ofNat 16 d)
        ∧ t.cu = s.cu ∧ t.tag = s.tag ∧ t.line.tick = s.line.tick)

/-- (1) The check of the profile image (R186): it passes exactly when marker, sum, role, length and neighbours
are as the table of R186 asks, and otherwise the detail is that of the first row that fails. (2) The clamped
profile of any image, field by field (R186, R187): a value within its range is kept and one outside takes the
nearest limit; the dependent clamps follow in the order of R187; lists, marks and the accept set are read bit by
bit. (3) No travel offset of a clamped profile exceeds 17,800 counts, and the exit offset with an allowance is
at most 22,000 (R6, R7): both lie below the half range of the count. (4) The distances of a profile in counts
(R5, R6, R7): each field is its millimetre value, formed first and converted once, mm × K / 1000 to the nearest
count with halves upward; a travel offset whose value is negative is 0. An eye that is absent is not converted.
-/
def Obligations.ProfileIsCheckedClampedAndConverted : Prop :=
  (∀ (n : Station) (img : List Byte),
      let b := imgByte img
      let two (p q : Nat) : Bool := decide (q > 63) || q == n.val || (q != 0 && q == p)
      let one (q : Nat) : Bool := decide (q > 63) || q == n.val
      profileFault n img =
        if b 0 ≠ 0xC4 then some 2
        else if imgSum img ≠ imgWord img 111 then some 3
        else if 5 < b 1 then some 4
        else if imgWord img 10 = 0 then some 5
        else if one (b 2) then some 6
        else if b 1 = 2 ∧ two (b 2) (b 3) then some 7
        else if one (b 4) then some 8
        else if b 1 = 4 ∧ two (b 4) (b 5) then some 9
        else none)
  ∧ (∀ img : List Byte,
      let p := profileOf img
      let b := imgByte img
      let w := imgWord img
      let near (x lo hi : Nat) : Nat := if x < lo then lo else if hi < x then hi else x
      (∀ r, Role.ofCode (b 1) = some r → p.role = r)
        ∧ (p.k = near (w 8) 200 2000 ∧ p.length = near (w 10) 300 8000)
        ∧ (∀ x ∈ [(p.posCheckA, w 12), (p.posCheckB, w 14), (p.posGate, w 16), (p.posBay, w 18)],
            x.1 = if x.2 = 0 then 0 else near x.2 1 (p.length - 1))
        ∧ (p.eyeFilter = near (b 20) 1 10 ∧ p.checkTol = near (b 21) 5 200)
        ∧ (p.rackMin = near (w 22) 300 700 ∧ p.rackMax = near (w 24) p.rackMin 900
            ∧ p.entryGap = near (w 26) 20 500)
        ∧ (p.offerLead = near (w 28) 0 2000 ∧ p.approachLead = min (near (w 30) 0 2000) p.offerLead
            ∧ p.stopLead = min (near (w 32) 0 2000) p.approachLead)
        ∧ (p.transfer = near (w 34) 100 3000 ∧ p.arrival = near (w 36) 100 3000
            ∧ p.jam = near (w 38) 100 3000)
        ∧ p.target = near (w 40) 10 400
        ∧ p.creepDiv = (if b 42 ∈ [2, 4, 8, 16] then b 42 else 4)
        ∧ (p.gain = near (b 43) 1 255 ∧ p.startLevel = near (w 44) 0 1023 ∧ p.spinUp = near (b 46) 5 100)
        ∧ (p.follow = (b 47).testBit 0 ∧ p.reader = (b 47).testBit 1 ∧ p.strict = (b 47).testBit 2)
        ∧ (p.unsteadyLimit = near (b 48) 1 60 ∧ p.minExposure = near (w 49) 0 600)
        ∧ p.trackLimit = (if p.role = .divert then 1 else near (b 51) 1 12)
        ∧ (p.readerTimeout = near (b 52) 5 50 ∧ p.hopLimit = near (b 53) 8 255)
        ∧ p.parkDelay = (if w 54 = 0 then 0 else near (w 54) 5 600)
        ∧ (p.pollPeriod = near (b 56) 2 100 ∧ p.dozeReach = near (w 57) 0 3000)
        ∧ (∀ i < 16, ∀ e, p.routes[i]? = some e →
            e.kind = (match b (59 + i) % 4 with
              | 0 => .port0
              | 1 => .port1
              | 2 => .aliasOf (Fin.ofNat 16 (b (59 + i) / 16))
              | _ => .demand)
            ∧ e.alternate = (b (59 + i)).testBit 2)
        ∧ (p.fallback = (if (b 75).testBit 0 then .d1 else .d0)
            ∧ p.overflow = if (b 75).testBit 1 then .d1 else .d0)
        ∧ (∀ i < 4, (p.loaders0[i]?).map (·.val) = some (near (b (76 + i)) 0 63)
            ∧ (p.loaders1[i]?).map (·.val) = some (near (b (80 + i)) 0 63))
        ∧ (p.wantTarget = near (b 84) 0 8 ∧ p.wantExpiry = near (w 85) 100 1000
            ∧ p.steerExpiry = near (w 87) 10 300)
        ∧ p.patience = (if b 89 = 0 then 0 else near (b 89) 1 120)
        ∧ p.gateSettle = near (b 90) 10 200
        ∧ (∀ i < 16, p.accept.getLsbD i = (w 91).testBit i)
        ∧ (∀ i < 18, p.severities[i]? = some (near (b (93 + i) % 16) 0 3)
            ∧ p.masks[i]? = some ((b (93 + i)).testBit 7))
        ∧ (∀ x ∈ [(p.u0, b 2), (p.d0, b 4), (p.panel1, b 6), (p.panel2, b 7)], x.1.val = near x.2 0 63)
        ∧ p.u1.val = (if p.role = .merge then near (b 3) 0 63 else 0)
        ∧ p.d1.val = (if p.role = .divert then near (b 5) 0 63 else 0)
        ∧ p.routes.length = 16 ∧ p.loaders0.length = 4 ∧ p.loaders1.length = 4
        ∧ p.severities.length = 18 ∧ p.masks.length = 18)
  ∧ (∀ img : List Byte,
      let c := countsOf (profileOf img)
      (∀ x ∈ [c.exit, c.checkA, c.checkB, c.gate, c.bay, c.offer, c.approach, c.stop, c.gateClear],
          x ≤ 17800)
        ∧ c.exit + c.jam ≤ 22000 ∧ c.exit + c.transfer ≤ 22000 ∧ c.exit + c.arrival ≤ 22000
        ∧ c.offer ≤ c.approach ∧ c.approach ≤ c.stop ∧ c.stop ≤ c.exit)
  ∧ (∀ p : Profile,
      let c := countsOf p
      let counts (mm : Int) : Nat := if mm < 0 then 0 else (mm.toNat * p.k + 500) / 1000
      (c.exit = counts p.length ∧ c.tol = counts p.checkTol ∧ c.rackMin = counts p.rackMin
          ∧ c.rackMax = counts p.rackMax ∧ c.entryGap = counts p.entryGap)
        ∧ (∀ x ∈ [(c.checkA, p.posCheckA), (c.checkB, p.posCheckB), (c.gate, p.posGate), (c.bay, p.posBay)],
            x.2 ≠ 0 → x.1 = counts x.2)
        ∧ (c.offer = counts ((p.length : Int) - p.offerLead) ∧ c.approach = counts ((p.length : Int) - p.approachLead)
          ∧ c.stop = counts ((p.length : Int) - p.stopLead))
        ∧ (p.posGate ≠ 0 → c.gateClear = counts (p.posGate + p.rackMax))
        ∧ (p.posGate = 0 → c.gateClear = counts (p.length + p.rackMax))
        ∧ (c.transfer = counts p.transfer ∧ c.arrival = counts p.arrival ∧ c.jam = counts p.jam
          ∧ c.doze = counts p.dozeReach))

/-! ### Distance, belt count, marks, time -/

/-- (1) The forward distance and its three readings (R9): d = (b − a) mod 65,536; reached below 32,768; and the
signed slip from −32,768 to +32,767, which moves a to b. (2) Millimetres to counts and back (R5, R8): R5 rounds
mm × K / 1000 to the nearest count, halves upward; R8 takes floor((n × 1000 + floor(K / 2)) / K) millimetres,
clamped to 1 to 65,535, with 0 for an absent length. (3) A correction by the signed slip brings the record's
predicted crossing at the eye to the count of the edge (R26). -/
def Obligations.DistancesAndConversions : Prop :=
  (∀ a b : Count,
      Machine.dist a b = (b.toNat + 65536 - a.toNat) % 65536
        ∧ (reached a b = true ↔ Machine.dist a b < 32768)
        ∧ (reached a b = true → slip a b = Machine.dist a b)
        ∧ (reached a b = false → slip a b = (Machine.dist a b : Int) - 65536)
        ∧ -32768 ≤ slip a b ∧ slip a b ≤ 32767
        ∧ Count.shift a (slip a b) = b)
  ∧ ((∀ k mm : Nat, 1000 * mmToCounts k mm ≤ mm * k + 500 ∧ mm * k + 500 < 1000 * (mmToCounts k mm + 1))
      ∧ (∀ k n : Nat, 0 < k → 1 ≤ countsToMm k n ∧ countsToMm k n ≤ 65535
          ∧ ∀ m, k * m ≤ n * 1000 + k / 2 → n * 1000 + k / 2 < k * (m + 1) →
              countsToMm k n = if m = 0 then 1 else if 65535 < m then 65535 else m)
      ∧ (∀ k n : Nat, 0 < k → (lengthField k (some n)).val = countsToMm k n)
      ∧ ∀ k : Nat, (lengthField k none).val = 0)
  ∧ (∀ (s : State) (r : Rec) (o : Nat) (x : Count), r ∈ s.track →
      ∃ q ∈ (s.correct r (r.slipAt o x)).track, q.id = r.id ∧ q.crossing o = x)

/-- (1) A forward edge (R1, R3, R4, R13): the count goes up by one and wraps, the flag clears, the window count
goes up by one, and every ARMED mark at the new count is FIRED; nothing else changes before the derived actions,
unless the stop mark fires, of which the bay unit is told (R125). NothingDue leaves out what is taken before the
belt goes on (the model's choice, log 2). (2) A reverse edge (R1, R3, R4, R14): the count goes down by one and
wraps, the flag is set, the window count goes down by one, and no mark is tested. NothingDue as for a forward
edge (log 2). (3) A double step changes no count, no flag and no other block: only the previous pair (R1, R3).
(4) The tests of belt travel (R10, R27, R29, R30, R54, R92, R93, R107) are made at each forward edge, at the new
count; what the edge finds is held for the rows that act on it (the model's own list, log 31). A tick, a reverse
edge and a raw eye change leave nothing found, and with nothing found those rows change nothing. -/
def Obligations.BeltEdgesCountAndFireMarks : Prop :=
  (∀ s : State, s.Runs →
      (∃ t, exec .forwardEdge s = .next t
        ∧ t.cu = { ena := !s.cu.enb, enb := s.cu.ena, count := s.cu.count + 1, reverse := false })
      ∧ (s.NothingDue → ∃ u : State, exec .forwardEdge s = .next u.settleEdge
        ∧ u.dr = { s.dr with winEdges := s.dr.winEdges + 1 }
        ∧ (∀ m ∈ [MarkGroup.offer, MarkGroup.approach, MarkGroup.stop, MarkGroup.gateClear],
            (m u.marks).pos = (m s.marks).pos ∧
            (m u.marks).st = if (m s.marks).st = .armed ∧ (m s.marks).pos = s.cu.count + 1 then .fired
              else (m s.marks).st)
        ∧ u.marks.owner = s.marks.owner
        ∧ u.eyes = s.eyes ∧ u.tag = s.tag ∧ u.ex = s.ex ∧ u.en = s.en ∧ u.gate = s.gate ∧ u.rt = s.rt
        ∧ u.bay = s.bay ∧ u.idle = s.idle ∧ u.boot = s.boot
        ∧ (¬(s.marks.stop.st = .armed ∧ s.marks.stop.pos = s.cu.count + 1) →
            u.track = s.track ∧ u.line = s.line ∧ u.att = s.att)))
  ∧ (∀ s : State, s.Runs →
      (∃ t, exec .reverseEdge s = .next t
        ∧ t.cu = { ena := s.cu.enb, enb := !s.cu.ena, count := s.cu.count - 1, reverse := true })
      ∧ (s.NothingDue → exec .reverseEdge s = .next (State.settleEdge
          { s with
            cu := { ena := s.cu.enb, enb := !s.cu.ena, count := s.cu.count - 1, reverse := true }
            dr := { s.dr with winEdges := s.dr.winEdges - 1 } })))
  ∧ (∀ s : State, s.Runs →
      exec .doubleStep s = .next { s with cu := { s.cu with ena := !s.cu.ena, enb := !s.cu.enb } })
  ∧ ((∀ s : State, s.Runs → s.NothingDue → ∃ t, exec .forwardEdge s = .next t
      ∧ (let c : Count := s.cu.count + 1
         (∀ e i rest r, (s.chan e).awaited = i :: rest → s.recOf i = some r →
            (.missed e i ∈ t.found ↔ s.isCheck e = true ∧ (s.chan e).pendingLead = false
              ∧ s.boot.cts.tol < travel (r.front + BitVec.ofNat 16 (s.offset e)) c))
         ∧ (∀ e, .jam e ∈ t.found ↔ (e = .entry ∨ e = .exit) ∧ s.fitted e = true
              ∧ EyeState.isBlocked (s.chan e).st = true ∧ (s.chan e).jam = false
              ∧ (if e = .exit then (s.chan e).jamDist else s.boot.cts.rackMax + s.boot.cts.jam)
                  < travel (s.chan e).blockedFrom c)
         ∧ (∀ e, .stuck e ∈ t.found ↔ s.watches e = true ∧ (s.chan e).stuck = false
              ∧ ∃ x, (s.chan e).unaccounted = some x ∧ s.boot.cts.jam < travel x c)
         ∧ (∀ i, .vanish i ∈ t.found ↔ s.eyes.exit.pendingLead = false ∧ ∃ r ∈ s.track, r.id = i
              ∧ r.exitPass = .none
              ∧ s.boot.cts.jam < travel (r.front + BitVec.ofNat 16 s.boot.cts.exit) c)
         ∧ (∀ i, .whereSent i ∈ t.found ↔ ∃ r ∈ s.track, r.id = i ∧ r.whereSent = false
              ∧ r.handed = true ∧ r.exitSerial ≠ none ∧ r.landing = none
              ∧ ∃ x, r.takenAt = some x ∧ s.boot.cts.transfer / 2 < travel x c)
         ∧ (∀ i, .transfer i ∈ t.found ↔ ∃ r ∈ s.track, r.id = i
              ∧ r.handed = true ∧ r.exitSerial ≠ none ∧ r.landing = none
              ∧ ∃ x, r.takenAt = some x ∧ s.boot.cts.transfer < travel x c)
         ∧ (∀ n, .arrival n ∈ t.found ↔ s.eyes.entry.pendingLead = false ∧ ∃ x, s.slot n = some x
              ∧ x.landing = none ∧ s.boot.cts.arrival < travel x.takenAt c)))
    ∧ (∀ (s : State) (pins : PinSample) (e : Eye) (high : Bool), s.Runs →
        (∃ t, exec (.tick pins) s = .next t ∧ t.found = [])
        ∧ (∃ t, exec .reverseEdge s = .next t ∧ t.found = [])
        ∧ (∃ t, exec (.eyeRawChange e high) s = .next t ∧ t.found = []))
    ∧ ∀ (s : State) (e : Eye), s.Runs → s.found = [] →
        exec (.checkMissed e) s = .next s ∧ exec (.eyeJam e) s = .next s ∧ exec (.eyeStuck e) s = .next s
          ∧ exec .recordVanish s = .next s ∧ exec .whereSent s = .next s
          ∧ exec .transferAllowanceExpiry s = .next s ∧ exec .slotArrivalExpiry s = .next s)

/-- (1) MARK_FIRE (R13): where an ARMED mark lies at the next count it is the forward edge that reaches it, with
all that the edge does, and with nothing else due the mark fires; where none lies there it changes nothing. That
the row is the edge itself is the model's choice (log 28), and so is NothingDue (log 2). (2) Loading the group
for a record (R11, R12, R9): each mark lies at front plus offset, FIRED when the belt has reached it and ARMED
otherwise; outside a DIVERT the gate-clear mark is ABSENT. (3) The firing of the head's stop mark at LOAD and
UNLOAD, by the forward edge onto it (R13, R125): a head in HEAD or ENTERING that is bay-bound becomes AT-BAY
while no key has released it. Bay-bound are at LOAD an EMPTY, and an UNKNOWN that is PLACED or START; at UNLOAD
every class but EMPTY. At UNLOAD one of a class outside the accept set is then MISROUTED, and MISROUTE is raised
with its number. Any other head stays as it is. NothingDue and NamesSound are the model's own (log 2, log 9). -/
def Obligations.MarksFireOntoTheirCount : Prop :=
  (∀ s : State, s.Runs →
      (∀ m ∈ [MarkGroup.offer, MarkGroup.approach, MarkGroup.stop, MarkGroup.gateClear],
        (m s.marks).st = .armed → (m s.marks).pos = s.cu.count + 1 →
        exec .markFire s = exec .forwardEdge s
          ∧ (s.NothingDue → ∃ u : State, exec .markFire s = .next u.settleEdge ∧ (m u.marks).st = .fired
              ∧ u.cu.count = (m s.marks).pos ∧ u.cu.reverse = false))
      ∧ ((∀ m ∈ [MarkGroup.offer, MarkGroup.approach, MarkGroup.stop, MarkGroup.gateClear],
          (m s.marks).st = .armed → (m s.marks).pos ≠ s.cu.count + 1) →
        exec .markFire s = .next s))
  ∧ (∀ (s : State) (r : Rec),
      let g := (s.loadGroup r).marks
      let k := s.boot.cts
      g.owner = some r.id ∧ g.front = r.front
        ∧ (∀ x ∈ [(g.offer, k.offer), (g.approach, k.approach), (g.stop, k.stop)],
            x.1.pos = r.front + BitVec.ofNat 16 x.2
              ∧ x.1.st = if Machine.dist x.1.pos s.cu.count < 32768 then .fired else .armed)
        ∧ (s.hasRole .divert = true → g.gateClear.pos = r.front + BitVec.ofNat 16 k.gateClear
            ∧ g.gateClear.st = if Machine.dist g.gateClear.pos s.cu.count < 32768 then .fired else .armed)
        ∧ (s.hasRole .divert = false → g.gateClear.st = .absent))
  ∧ (∀ (s : State) (r : Rec), s.Runs → s.NothingDue → s.bayRole = true → s.head = some r →
      s.marks.stop.st = .armed → s.marks.stop.pos = s.cu.count + 1 → s.NamesSound →
      let bound : Prop :=
        (s.hasRole .load = true ∧ (r.cls = classEmpty
          ∨ r.cls = classUnknown ∧ (r.flags.placed = true ∨ r.flags.start = true)))
        ∨ (s.hasRole .unload = true ∧ r.cls ≠ classEmpty)
      let stops : Prop := (r.state = .head ∨ r.state = .entering) ∧ bound ∧ s.bay.released = false
      ∃ u : State, exec .forwardEdge s = .next u.settleEdge
        ∧ (stops → ∃ q ∈ u.track, q.id = r.id ∧ q.state = .atBay ∧ q.cls = r.cls ∧ q.number = r.number
            ∧ q.flags.misrouted = (r.flags.misrouted
                || (s.hasRole .unload && !s.boot.prof.accept.getLsbD r.cls.val)))
        ∧ (stops → s.hasRole .unload = true → s.boot.prof.accept.getLsbD r.cls.val = false →
            (u.cause .misroute).st = .pending ∧ (u.cause .misroute).detail = BitVec.ofNat 16 r.number.val)
        ∧ ((s.hasRole .load = true ∨ s.boot.prof.accept.getLsbD r.cls.val = true) → u.att = s.att)
        ∧ (¬stops → u.track = s.track ∧ u.att = s.att)
        ∧ (∀ q ∈ s.track, q.id ≠ r.id → q ∈ u.track))

/-- A tick with nothing due. The current tick goes up by one and wraps, every record's residence goes up by one
up to 65,535, and every running timer goes down by one (R170, R46, R65, R66, R70, R79). It samples: the straps
until the number is fixed (R185), the eyes, for their first state in SCANNING and for a pending edge outside
PARK (R20, R24), the keys, those of the bay only at LOAD and UNLOAD (R124), and the stop chain (R176); the flash
of both lamps and the hold of the ACK key go on (R134, R183, R181). The count, the marks, the causes, the slots
and the queue stay. That timers are kept as the ticks left, and that what is due is taken before the tick, are
the model's choices (log 26, log 2). -/
def Obligations.TickAdvancesTime : Prop :=
  ∀ (s : State) (pins : PinSample), s.Runs → s.NothingDue →
    let run (k : KeySt) (p : Bool) : Nat := if 0 < k.run ∧ k.cand = p then min (k.run + 1) 3 else 1
    let key (k : KeySt) (low : Bool) : KeySt :=
      ⟨if k.pressed = none ∧ run k low = 3 then some low else k.pressed, low, run k low⟩
    ∃ t, exec (.tick pins) s = .next t
      ∧ t.line = { s.line with tick := s.line.tick + 1,
                               statusTimer := s.line.statusTimer.map (· - 1) }
      ∧ t.track = s.track.map (fun r => { r with residence := min (r.residence + 1) 65535 })
      ∧ t.tag = { s.tag with timeout := s.tag.timeout.map (· - 1) }
      ∧ t.ex = { s.ex with resend := s.ex.resend.map (· - 1), patience := s.ex.patience.map (· - 1) }
      ∧ t.gate = { s.gate with settle := s.gate.settle.map (· - 1) }
      ∧ t.idle = { s.idle with park := s.idle.park.map (· - 1), reply := s.idle.reply.map (· - 1),
                               poll := s.idle.poll.map (· - 1) }
      ∧ t.dr = { s.dr with
          spinLeft := s.dr.spinLeft.map (· - 1), winLeft := s.dr.winLeft.map (· - 1),
          holdTicks := if s.dr.belt = .hold then min (s.dr.holdTicks + 1) 50 else s.dr.holdTicks,
          unsteady := if s.dr.belt = .run ∧ s.dr.lock = .unlocked then min (s.dr.unsteady + 1) 6000
            else s.dr.unsteady }
      ∧ (∀ e, s.fitted e = false → t.chan e = s.chan e)
      ∧ (∀ e, s.fitted e = true → t.chan e =
          let c := s.chan e
          if c.settled then
            if s.dr.belt = .park then c
            else { c with pend := c.pend.map fun p => { p with run := min (p.run + 1) 10 } }
          else if s.boot.mode = .scanning then
            { c with
              firstLevel := c.raw
              firstRun := if 0 < c.firstRun ∧ c.firstLevel = c.raw then min (c.firstRun + 1) 10 else 1 }
          else c)
      ∧ t.bay = { s.bay with
          wantTimer := s.bay.wantTimer.map (· - 1)
          lamp := { s.bay.lamp with left := s.bay.lamp.left.map (· - 1) }
          ackKey := key s.bay.ackKey !pins.kack
          ackHold := s.bay.ackHold.map fun h => { h with ticks := min (h.ticks + 1) 800 }
          sendKey := if s.bayRole then key s.bay.sendKey !pins.ksend else s.bay.sendKey
          emptyKey := if s.bayRole then key s.bay.emptyKey !pins.kempty else s.bay.emptyKey
          classKeys := if s.bayRole then s.bay.classKeys.mapIdx fun i k => key k !(pins.matrix.getLsbD i)
            else s.bay.classKeys }
      ∧ t.att = { s.att with
          lamp := { s.att.lamp with left := s.att.lamp.left.map (· - 1) }
          estopHigh := pins.estop
          estopRun := if pins.estop then min (s.att.estopRun + 1) 3 else 0 }
      ∧ t.boot = (if s.boot.mode = .loading ∧ s.boot.station = none then
          { s.boot with
            strapLast := some pins.straps
            strapRun := if s.boot.strapLast = some pins.straps then min (s.boot.strapRun + 1) 3 else 1 }
          else s.boot)
      ∧ t.eyes.lead = s.eyes.lead ∧ t.eyes.leadFresh = s.eyes.leadFresh ∧ t.eyes.trail = s.eyes.trail
      ∧ t.cu = s.cu ∧ t.marks = s.marks ∧ t.en = s.en ∧ t.rt = s.rt

/-! ### Eyes and tag port -/

/-- (1) EYE_RAW_CHANGE (R18, R19, R24): at a fitted channel that has its first state, a change away from the
channel state begins a pending edge with the count and flag as they stand, unless one is pending already; a
return cancels it; at a channel that is not fitted, only the pin moves. NothingDue is the model's choice (log
2). (2) EYE_EDGE_CONFIRM (R20, R21): a pending edge whose run of samples has the length of the eye filter, in
ACTIVE and outside PARK, changes the channel state by the table of R21 and is no longer pending; the other
channels keep their states, and the belt count stays. That an edge waits in the filter until ACTIVE is the
model's choice (log 22). (3) EYE_EDGE_CONFIRM at BAY of a LOAD or UNLOAD, in ACTIVE (R129, R130, R57, R37). A
trail edge lifts the bay record, the head that is AT-BAY or OFFERED with its stop mark FIRED: it leaves the
track with no cause; with no bay record the track stays. A lead edge with no record over the eye makes a PLACED
record of class UNKNOWN and no number, its front where the edge puts it, its place behind the released records
and those that are as far; at a full track it raises STRAY-RACK with BAY instead; with a record over the eye it
is that record's passage, and the track stays. -/
def Obligations.EyeEdgesArePendedAndConfirmed : Prop :=
  (∀ (s : State) (e : Eye) (high : Bool), s.Runs → s.NothingDue →
      ∃ c : EyeChan, exec (.eyeRawChange e high) s = .next (s.setChan e c)
        ∧ c.raw = high
        ∧ c = { s.chan e with raw := high, pend := c.pend }
        ∧ (s.fitted e = false ∨ (s.chan e).settled = false → c.pend = (s.chan e).pend)
        ∧ (s.fitted e = true → (s.chan e).settled = true →
            high = EyeState.isBlocked (s.chan e).st → c.pend = none)
        ∧ (s.fitted e = true → (s.chan e).settled = true →
            high ≠ EyeState.isBlocked (s.chan e).st →
            c.pend = match (s.chan e).pend with
              | some p => some p
              | none => some ⟨s.cu.count, s.cu.reverse, 0⟩))
  ∧ (∀ (s : State) (e : Eye) (p : PendEdge), s.Runs → s.boot.mode = .active → s.fitted e = true →
      s.dr.belt ≠ .park → (s.chan e).pend = some p → s.boot.prof.eyeFilter ≤ p.run →
      ∃ t, exec (.eyeEdgeConfirm e) s = .next t
        ∧ (t.chan e).st = (match (s.chan e).st, p.reverse with
            | .clear, false => .blocked
            | .clear, true => .returned
            | .blocked, false => .clear
            | .blocked, true => .receded
            | .receded, _ => .blocked
            | .returned, _ => .clear)
        ∧ (t.chan e).pend = none ∧ (t.chan e).raw = (s.chan e).raw
        ∧ (∀ f, f ≠ e → (t.chan f).st = (s.chan f).st ∧ (t.chan f).raw = (s.chan f).raw
            ∧ (t.chan f).pend = (s.chan f).pend)
        ∧ t.cu = s.cu)
  ∧ (∀ (s : State) (p : PendEdge), s.Runs → s.boot.mode = .active → s.bayRole = true → s.fitted .bay = true →
      s.dr.belt ≠ .park → s.eyes.bay.pend = some p → s.boot.prof.eyeFilter ≤ p.run → p.reverse = false →
      s.NamesSound →
      ∃ u : State, exec (.eyeEdgeConfirm .bay) s = .next u.settle
        ∧ (s.eyes.bay.st = .blocked →
            (∀ r, s.head = some r → s.marks.owner = some r.id → s.marks.stop.st = .fired →
              (r.state = .atBay ∨ r.state = .offered) →
              u.track.map Rec.kept = (s.track.filter fun q => q.id != r.id).map Rec.kept
              ∧ u.bay.released = false ∧ u.cause .lostRack = s.cause .lostRack ∧ u.ex.lost = s.ex.lost)
            ∧ ((∀ r, s.head = some r → s.marks.owner ≠ some r.id ∨ s.marks.stop.st ≠ .fired
                ∨ (r.state ≠ .atBay ∧ r.state ≠ .offered)) → u.track = s.track))
        ∧ (s.eyes.bay.st = .clear →
            ((∃ r ∈ s.track, s.over .bay r = true) → u.track = s.track ∧ u.att = s.att)
            ∧ ((∀ r ∈ s.track, s.over .bay r = false) → s.boot.prof.trackLimit ≤ s.track.length →
                u.track = s.track ∧ (u.cause .strayRack).st = .pending
                ∧ (u.cause .strayRack).detail = BitVec.ofNat 16 (Eye.code .bay))
            ∧ ((∀ r ∈ s.track, s.over .bay r = false) → s.track.length < s.boot.prof.trackLimit →
                ∃ a q b, s.track = a ++ b
                  ∧ u.track.map Rec.kept = a.map Rec.kept ++ Rec.kept q :: b.map Rec.kept
                  ∧ q.front = p.count - BitVec.ofNat 16 s.boot.cts.bay
                  ∧ q.number = notag ∧ q.cls = classUnknown ∧ q.origin = 0 ∧ q.steeredBy = 0 ∧ q.hop = 0
                  ∧ q.flags = { placed := true } ∧ q.length = none ∧ q.residence = 0 ∧ q.entryOpen = false
                  ∧ q.exitPass = .none ∧ q.entry = none
                  ∧ (∀ r ∈ a, r.handed = true ∨ s.travelOf q ≤ s.travelOf r)
                  ∧ (∀ r, b.head? = some r → r.handed = false ∧ s.travelOf r < s.travelOf q))))

/-- (1) EYE_EDGE_CONFIRM of a lead edge at ENTRY, with no slot held and no full track (R22, R40, R41, R46, R47):
one record joins the track at its rear, with the captured count as its front, its entry passage OPEN, class
UNKNOWN and the STRAY flag; the records before it stay. NamesSound speaks of the model's own names of records
(log 9). (2) A lead edge at ENTRY with a RESERVED slot and room in the track (R40, R47, R101, R148): one record
more, with the image's number, class and origin, the hop count plus one, and, outside a DIVERT, the steered-by;
the slot is no longer RESERVED. The number may be refused as a duplicate (R42). A hop count above the hop limit
raises CIRCLING with the image's number (R148). -/
def Obligations.EntryLeadCreatesARecord : Prop :=
  (∀ (s : State) (p : PendEdge), s.Runs → s.boot.mode = .active → s.boot.loaded = true →
      s.dr.belt ≠ .park → s.eyes.entry.pend = some p → s.boot.prof.eyeFilter ≤ p.run →
      s.eyes.entry.st = .clear → p.reverse = false → s.track.length < s.boot.prof.trackLimit →
      s.en.slotA = none → s.en.slotB = none → s.NamesSound →
      ∃ t q, exec (.eyeEdgeConfirm .entry) s = .next t
        ∧ t.track.map Rec.kept = s.track.map Rec.kept ++ [Rec.kept q]
        ∧ q.front = p.count ∧ q.entryOpen = true ∧ q.exitPass = .none ∧ q.number = notag
        ∧ q.cls = classUnknown ∧ q.origin = 0 ∧ q.hop = 0 ∧ q.residence = 0
        ∧ (s.hasRole .divert = false → q.steeredBy = 0)
        ∧ q.length = none ∧ q.entry = none ∧ q.flags = { stray := true }
        ∧ t.eyes.lead = some p.count ∧ t.eyes.leadFresh = true)
  ∧ (∀ (s : State) (x : Count) (n : SlotName) (y : Slot), s.trackFull = false →
      s.oldestReserved = some (n, y) → (∀ r ∈ s.track, r.id < s.nextId) →
      let made (t : State) : Prop := t.track.length = s.track.length + 1
        ∧ ∃ q : Rec, t.recOf s.nextId = some q
          ∧ q.front = x ∧ q.cls = y.image.cls ∧ q.origin = y.image.origin ∧ q.hop = satSucc y.image.hop
          ∧ (s.hasRole .divert = false → q.steeredBy = y.image.steeredBy)
          ∧ q.entry = some ⟨y.port, y.serial⟩ ∧ q.entryOpen = true ∧ q.residence = 0
          ∧ (q.number = y.image.number ∨ q.number = notag ∧ q.flags.duplicate = true)
          ∧ (∀ z, t.slot n = some z → z.reserved = false)
          ∧ (s.boot.prof.hopLimit < q.hop.val → (t.cause .circling).st = .pending
              ∧ (t.cause .circling).detail = BitVec.ofNat 16 y.image.number.val)
          ∧ (q.hop.val ≤ s.boot.prof.hopLimit → t.cause .circling = s.cause .circling)
      (∀ p : PendEdge, s.Runs → s.boot.mode = .active → s.boot.loaded = true → s.dr.belt ≠ .park →
        s.eyes.entry.pend = some p → s.boot.prof.eyeFilter ≤ p.run → s.eyes.entry.st = .clear →
        p.reverse = false → p.count = x → ∃ u : State, exec (.eyeEdgeConfirm .entry) s = .next u.settle
          ∧ made u ∧ u.eyes.lead = some x ∧ u.eyes.leadFresh = true)
      ∧ made (s.entryLead x))

/-- (1) A trail edge at ENTRY (R23, R44, R45): the record whose entry passage is OPEN is CLOSED and takes the
measured length; ENTERING becomes HEAD for the head and RIDING for another; a length above the rack maximum
flags it CROWDED and raises CROWDING with its number. (2) EYE_EDGE_CONFIRM of a trail edge at ENTRY, in ACTIVE
(R21, R22, R23, R44, R45): that is what it does. With no fresh lead capture the length is absent and nothing is
CROWDED. The lead capture stays and both fresh flags are clear; with no record whose entry passage is OPEN the
track stays. -/
def Obligations.EntryTrailMeasuresTheRack : Prop :=
  (∀ (s : State) (r : Rec) (l x : Count), s.NamesSound → r ∈ s.track → r.entryOpen = true →
      (∀ q ∈ s.track, q.entryOpen = true → q = r) →
      s.eyes.lead = some l → s.eyes.leadFresh = true →
      ∃ q ∈ (s.entryTrailEdge x).track, q.id = r.id ∧ q.entryOpen = false ∧ q.length = some (Machine.dist l x)
        ∧ q.front = r.front ∧ q.number = r.number
        ∧ (r.state ≠ .entering → q.state = r.state)
        ∧ (r.state = .entering → q.state = if s.head.map (·.id) = some r.id then .head else .riding)
        ∧ (s.boot.cts.rackMax < Machine.dist l x → q.flags.crowded = true
            ∧ ((s.entryTrailEdge x).cause .crowding).st = .pending
            ∧ ((s.entryTrailEdge x).cause .crowding).detail = BitVec.ofNat 16 r.number.val)
        ∧ (Machine.dist l x ≤ s.boot.cts.rackMax → q.flags = r.flags
            ∧ (s.entryTrailEdge x).att = s.att)
        ∧ (s.entryTrailEdge x).eyes.leadFresh = false ∧ (s.entryTrailEdge x).eyes.trailFresh = false)
  ∧ (∀ (s : State) (p : PendEdge), s.Runs → s.boot.mode = .active → s.boot.loaded = true → s.dr.belt ≠ .park →
      s.eyes.entry.pend = some p → s.boot.prof.eyeFilter ≤ p.run → p.reverse = false → s.eyes.entry.st = .blocked →
      s.NamesSound →
      ∃ u : State, exec (.eyeEdgeConfirm .entry) s = .next u.settle
        ∧ u.eyes.lead = s.eyes.lead ∧ u.eyes.trail = some p.count ∧ u.eyes.leadFresh = false ∧ u.eyes.trailFresh = false
        ∧ ((∀ r ∈ s.track, r.entryOpen = false) → u.track = s.track)
        ∧ (∀ r ∈ s.track, r.entryOpen = true → (∀ q ∈ s.track, q.entryOpen = true → q = r) →
            (∀ q ∈ s.track, q ≠ r → q ∈ u.track)
            ∧ ∃ q ∈ u.track, q.id = r.id ∧ q.entryOpen = false ∧ q.front = r.front ∧ q.number = r.number
              ∧ (r.state ≠ .entering → q.state = r.state)
              ∧ (r.state = .entering → q.state = if s.head.map (·.id) = some r.id then .head else .riding)
              ∧ (∀ l, s.eyes.lead = some l → s.eyes.leadFresh = true →
                  q.length = some (Machine.dist l p.count)
                  ∧ (s.boot.cts.rackMax < Machine.dist l p.count → q.flags = { r.flags with crowded := true }
                      ∧ (u.cause .crowding).st = .pending
                      ∧ (u.cause .crowding).detail = BitVec.ofNat 16 r.number.val)
                  ∧ (Machine.dist l p.count ≤ s.boot.cts.rackMax → q.flags = r.flags
                      ∧ u.cause .crowding = s.cause .crowding))
              ∧ ((s.eyes.leadFresh = false ∨ s.eyes.lead = none) →
                  q.length = none ∧ q.flags = r.flags ∧ u.cause .crowding = s.cause .crowding)))

/-- (1) EYE_FIRST_STATE (R24, R189): in SCANNING, a run of eye-filter agreeing samples gives a fitted channel
its first state; while another fitted channel still waits the track, the line and the drive stay, and a watched
eye found blocked with no record over it holds the belt count as its unaccounted-from count (R30); with the last
one the scan runs in SCANNING, and the station then becomes ACTIVE in the same event, with the track and the
causes as the scan leaves them and its STATUS timer at 50 ticks. (2) The start-up scan at the last first state
(R58, R59, R25, R32): from an empty track, every record is a START record of a blocked position of a fitted eye:
front at the belt count less the eye's offset, no number, class UNKNOWN, origin, steered-by and hop count 0,
residence 0, no length and no entry, its entry OPEN at ENTRY alone, SPANNING at EXIT alone. A blocked eye has
its record, or one less than the rack maximum ahead covers it, or the track is full and STRAY-RACK is raised. No
two records stand within the rack maximum, and the track stays within its limit. That eyes of equal offset make
one position with its passages taken from all of them is the model's choice (log 15). That the steered-by is 0
at a DIVERT too is the model's reading of R58 against R143 (log 30). -/
def Obligations.FirstStatesEndTheScan : Prop :=
  (∀ (s : State) (e : Eye), s.Runs → s.boot.mode = .scanning → s.fitted e = true →
      (s.chan e).settled = false → s.boot.prof.eyeFilter ≤ (s.chan e).firstRun →
      ∃ t, exec (.eyeFirstState e) s = .next t
        ∧ (t.chan e).settled = true
        ∧ (t.chan e).st = (if (s.chan e).firstLevel then .blocked else .clear)
        ∧ ((∃ f, f ≠ e ∧ s.fitted f = true ∧ (s.chan f).settled = false) →
            t.boot.mode = .scanning ∧ t.track = s.track ∧ t.line = s.line ∧ t.dr = s.dr ∧ t.att = s.att
            ∧ (s.watches e = true → (s.chan e).firstLevel = true → s.anyOver e = false →
                (s.chan e).unaccounted = none → (t.chan e).unaccounted = some s.cu.count))
        ∧ ((∀ f, f ≠ e → s.fitted f = true → (s.chan f).settled = true) →
            t.boot = { s.boot with mode := .active } ∧ t.line.statusTimer = some 50
              ∧ (s.hasRole .load = true → t.bay.wantTimer = some 100)
              ∧ ∃ w u : State, w = (s.takeFirst e).scan ∧ w.boot = s.boot ∧ t = u.settle
                ∧ u.boot = { w.boot with mode := .active } ∧ u.track = w.track ∧ u.att = w.att)
        ∧ t.cu = s.cu)
  ∧ (∀ (s : State) (e : Eye), s.Runs → s.boot.mode = .scanning → s.boot.loaded = true → s.fitted e = true →
      (s.chan e).settled = false → s.boot.prof.eyeFilter ≤ (s.chan e).firstRun →
      (∀ f, f ≠ e → s.fitted f = true → (s.chan f).settled = true) → s.track = [] →
      (∀ f, (s.chan f).awaited = []) → (∀ f, s.offset f ≤ s.boot.cts.exit) → s.boot.cts.exit < 32768 →
      0 < s.boot.cts.rackMax →
      let blocked (f : Eye) : Prop := s.fitted f = true ∧
        (if f = e then (s.chan e).firstLevel else EyeState.isBlocked (s.chan f).st) = true
      let at' (f : Eye) (q : Rec) : Prop := q.front = s.cu.count - BitVec.ofNat 16 (s.offset f)
      ∃ u : State, exec (.eyeFirstState e) s = .next u.settle ∧ u.boot.mode = .active
        ∧ u.track.length ≤ s.boot.prof.trackLimit
        ∧ (∀ q ∈ u.track, ∃ f, blocked f ∧ at' f q
            ∧ q.number = notag ∧ q.cls = classUnknown ∧ q.origin = 0 ∧ q.steeredBy = 0 ∧ q.hop = 0
            ∧ { q.flags with misrouted := false } = { start := true } ∧ q.residence = 0 ∧ q.length = none
            ∧ q.entry = none ∧ q.exitPort = none
            ∧ (q.entryOpen = true ↔ blocked .entry ∧ s.offset f = 0)
            ∧ (q.exitPass = .spanning ↔ blocked .exit ∧ s.offset f = s.boot.cts.exit)
            ∧ (q.exitPass = .none ∨ q.exitPass = .spanning)
            ∧ ∀ g, s.isCheck g = true → (q.id ∈ (u.chan g).awaited ↔ s.offset f < s.offset g))
        ∧ (∀ f, blocked f → (∃ q ∈ u.track, at' f q)
            ∨ (∃ q ∈ u.track, ∃ g, at' g q ∧ s.offset f < s.offset g
                ∧ s.offset g < s.offset f + s.boot.cts.rackMax)
            ∨ (s.boot.prof.trackLimit ≤ u.track.length ∧ (u.cause .strayRack).st = .pending))
        ∧ (∀ q ∈ u.track, ∀ q' ∈ u.track, ∀ f g, at' f q → at' g q' → s.offset f < s.offset g →
            s.boot.cts.rackMax ≤ s.offset g - s.offset f)
        ∧ (∀ q, q ∈ u.track → q.entryOpen = true → s.boot.prof.reader = true → s.tag.st = .idle →
            u.tag = ⟨.reading, some q.id, some s.boot.prof.readerTimeout, some 0x3C⟩))

/-- (1) CHECK_MISSED (R27): the first awaited record of a check eye, which the last forward edge found past its
predicted crossing by more than the tolerance, and with no lead edge pending, leaves the awaited list, joins the
missed list and is flagged SLIPPED. (2) EYE_JAM and EYE_STUCK (R29, R30, R175, R176): when the last forward edge
found the travel since the blocked-from or unaccounted-from count above the jam distance or allowance, and it
still is, the eye reports its condition, and the cause is PENDING with the eye as detail and its condition
present. (3) EYE_EDGE_CONFIRM of a lead edge at a check eye, captured at X, in ACTIVE (R26, R28). Of the awaited
records whose slip is within the tolerance the one of the smallest takes it, of equals the front-most: it leaves
the list, its front is corrected to meet the edge, and those ahead of it in the list are missed and SLIPPED.
With none, the same of the missed list within four times the tolerance. With none there either, STRAY-RACK is
raised with the eye, and lists and track stay. -/
def Obligations.MissedJammedAndStuckAreReported : Prop :=
  (∀ (s : State) (e : Eye) (r : Rec) (rest : List Nat), s.Runs → s.isCheck e = true →
      (s.chan e).awaited = r.id :: rest → r.id ∉ rest → s.recOf r.id = some r →
      (s.chan e).pendingLead = false → .missed e r.id ∈ s.found →
      s.boot.cts.tol < travel (r.front + BitVec.ofNat 16 (s.offset e)) s.cu.count →
      ∃ t, exec (.checkMissed e) s = .next t
        ∧ (t.chan e).awaited = rest ∧ r.id ∈ (t.chan e).missed
        ∧ (∀ i ∈ (t.chan e).missed, i ∈ (s.chan e).missed ∨ i = r.id)
        ∧ (∃ q ∈ t.track, q.id = r.id ∧ q.flags.slipped = true ∧ q.front = r.front ∧ q.number = r.number)
        ∧ (∀ f, f ≠ e → (t.chan f).awaited = (s.chan f).awaited ∧ (t.chan f).missed = (s.chan f).missed))
  ∧ ((∀ (s : State) (e : Eye), s.Runs → s.boot.loaded = true → (e = .entry ∨ e = .exit) →
      EyeState.isBlocked (s.chan e).st = true → (s.chan e).jam = false → .jam e ∈ s.found →
      (if e = .exit then (s.chan e).jamDist else s.boot.cts.rackMax + s.boot.cts.jam)
        < travel (s.chan e).blockedFrom s.cu.count →
      ∃ t, exec (.eyeJam e) s = .next t ∧ (t.chan e).jam = true
        ∧ (let c : Cause := if e = .entry then .entryJam else .exitJam
           (t.cause c).st = .pending ∧ (t.cause c).present = true
            ∧ (t.cause c).detail = BitVec.ofNat 16 (Eye.code e)
            ∧ (t.cause c).repeats = if (s.cause c).st = .absent then 0 else satSucc (s.cause c).repeats)
        ∧ t.cu = s.cu)
    ∧ (∀ (s : State) (e : Eye) (x : Count), s.Runs → s.watches e = true →
      (s.chan e).unaccounted = some x → (s.chan e).stuck = false → .stuck e ∈ s.found →
      s.boot.cts.jam < travel x s.cu.count →
      ∃ t, exec (.eyeStuck e) s = .next t ∧ (t.chan e).stuck = true
        ∧ (t.cause .eyeStuck).st = .pending ∧ (t.cause .eyeStuck).present = true
        ∧ (t.cause .eyeStuck).detail = BitVec.ofNat 16 (Eye.code e)
        ∧ t.cu = s.cu))
  ∧ (∀ (s : State) (e : Eye) (p : PendEdge), s.Runs → s.boot.mode = .active → s.isCheck e = true →
      s.dr.belt ≠ .park → (s.chan e).pend = some p → s.boot.prof.eyeFilter ≤ p.run → p.reverse = false →
      (s.chan e).st = .clear → s.NamesSound → (s.chan e).awaited.Nodup →
      let cross (r : Rec) : Count := r.front + BitVec.ofNat 16 (s.offset e)
      let size (r : Rec) : Nat := (slip (cross r) p.count).natAbs
      let near (l : List Nat) (n : Nat) (r : Rec) : Prop := r.id ∈ l ∧ r ∈ s.track ∧ size r ≤ n
      ∃ u : State, exec (.eyeEdgeConfirm e) s = .next u.settle
        ∧ (u.chan e).st = .blocked
        ∧ (∀ a r b, (s.chan e).awaited = a ++ r.id :: b → near (s.chan e).awaited s.boot.cts.tol r →
            (∀ q, near a s.boot.cts.tol q → size r < size q) →
            (∀ q, near b s.boot.cts.tol q → size r ≤ size q) →
            (u.chan e).awaited = b
            ∧ (∀ i, i ∈ (u.chan e).missed ↔ (i ∈ (s.chan e).missed ∨ i ∈ a) ∧ ∃ q ∈ s.track, q.id = i)
            ∧ (∃ q ∈ u.track, q.id = r.id ∧ cross q = p.count ∧ q.number = r.number
                ∧ q.flags.slipped = r.flags.slipped)
            ∧ (∀ q ∈ s.track, q.id ∈ a → ∃ q' ∈ u.track, q'.id = q.id ∧ q'.flags.slipped = true ∧ q'.front = q.front)
            ∧ u.cause .strayRack = s.cause .strayRack)
        ∧ (∀ a r b, (∀ q, ¬near (s.chan e).awaited s.boot.cts.tol q) → (s.chan e).missed = a ++ r.id :: b →
            r.id ∉ a → r.id ∉ b → near (s.chan e).missed (4 * s.boot.cts.tol) r →
            (∀ q, near a (4 * s.boot.cts.tol) q → size r < size q) →
            (∀ q, near b (4 * s.boot.cts.tol) q → size r ≤ size q) →
            (u.chan e).missed = a ++ b ∧ (u.chan e).awaited = (s.chan e).awaited
            ∧ (∃ q ∈ u.track, q.id = r.id ∧ cross q = p.count ∧ q.flags.slipped = r.flags.slipped)
            ∧ u.cause .strayRack = s.cause .strayRack)
        ∧ ((∀ q, ¬near (s.chan e).awaited s.boot.cts.tol q) →
            (∀ q, ¬near (s.chan e).missed (4 * s.boot.cts.tol) q) →
            u.track = s.track ∧ (u.chan e).awaited = (s.chan e).awaited ∧ (u.chan e).missed = (s.chan e).missed
            ∧ (u.cause .strayRack).st = .pending
            ∧ (u.cause .strayRack).detail = BitVec.ofNat 16 (Eye.code e)))

/-- (1) What three reply bytes say (R31), and what a complete reply does (R33, R34, R43): a read in progress
ends, the port in IDLE, or DRAINING with its timeout after a garbled reply; DRAINING ends; IDLE ignores the
bytes. The number read becomes that of an owner without a LANDING slot, where no other rack holds it. That a
garbled reply to a read without an owner leads to DRAINING is the model's choice (log 38). (2) TAG_REPLY_GAP and
READER_TIMEOUT (R31, R33, R34): a reply cut short is garbled; at the timeout a read ends as NOREAD and the port
is IDLE; neither gives any record a number. That a garbled reply to a read without an owner leads to DRAINING is
the model's choice (log 38). (3) Landings that end with no number read (R32, R33, R101, R102). TAG_REPLY_GAP and
READER_TIMEOUT in a read of a LANDING slot's record: LANDED NOREAD goes upstream with its number. At the lead
edge of a RESERVED slot's rack: an idle reader begins a read of the new record, whose slot is LANDING; a busy
one gives it NOREAD at once and reads on for its owner; with no reader LANDED OK goes up. (4) A read that ends
for a record of a LANDING slot (R101, R102, R103, R104, R105, R133). NOREAD, the record's own number, or a
number for a record without one: the slot is FREE and LANDED goes upstream with NOREAD or OK, the record's
number and the slot's serial. The number of a newer RESERVED slot: SKIPPED with the number read for the older
slot, EXPECTED-MISSING with its image's number, the record takes number, class, origin, steered-by and hop count
plus one of the newer image, CIRCLING is raised above the hop limit (R148), and OK goes up for the newer serial,
both slots FREE. Any other: the record takes the number and is RELABELLED, TAG-MISMATCH carries the number read,
and so does LANDED MISMATCH. At a LOAD a RACK-IN follows for a record of class EMPTY. The landing log of the
port keeps the last two. That the number read is the last detail where it is refused is the model's choice (log
39). -/
def Obligations.TagPortEndsItsReads : Prop :=
  (∀ (s : State) (b0 b1 b2 : Byte), s.Runs → s.boot.loaded = true → s.boot.prof.reader = true →
      let v := b1.toNat * 256 + b2.toNat
      let good : Bool := decide (b0 = 0x3E) && decide (v ≤ 4095)
      ∃ t, exec (.tagReplyComplete b0 b1 b2) s = .next t
        ∧ t.tag = (match s.tag.st, good with
            | .idle, _ => s.tag
            | .reading, false => { s.tag with st := .draining, owner := none }
            | .reading, true => { s.tag with st := .idle, owner := none, timeout := none }
            | .draining, _ => { s.tag with st := .idle, owner := none, timeout := none })
        ∧ (∀ r, s.tag.st = .reading → good = true → 1 ≤ v → s.tag.owner = some r.id →
            s.recOf r.id = some r → s.slotOf r.id = none → s.numberHeld r.id (Fin.ofNat 4096 v) = false →
            ∃ q ∈ t.track, q.id = r.id ∧ q.number.val = v ∧ q.cls = r.cls ∧ q.origin = r.origin)
        ∧ (s.tag.st ≠ .reading → t.track.map Rec.kept = s.track.map Rec.kept)
        ∧ t.cu = s.cu)
  ∧ ((∀ (s : State) (b0 : Byte) (b1 : Option Byte), s.Runs → s.boot.loaded = true →
      s.boot.prof.reader = true →
      ∃ t, exec (.tagReplyGap b0 b1) s = .next t
        ∧ t.tag = (match s.tag.st with
            | .idle => s.tag
            | .reading => { s.tag with st := .draining, owner := none }
            | .draining => { s.tag with st := .idle, owner := none, timeout := none })
        ∧ t.track.map Rec.kept = s.track.map Rec.kept)
    ∧ (∀ s : State, s.Runs → s.tag.timeout = some 0 → s.tag.st ≠ .idle →
      ∃ t, exec .readerTimeout s = .next t
        ∧ t.tag = { s.tag with st := .idle, owner := none, timeout := none }
        ∧ t.track.map Rec.kept = s.track.map Rec.kept))
  ∧ (
    let two (l : List LandLog) : List LandLog := l.drop (l.length - 2)
    let landed (s u : State) (q : Rec) (m : SlotName) (x : Slot) (st : LandStatus) : Prop :=
      u.slot m = none ∧ u.landLog x.port = two (s.landLog x.port ++ [⟨x.serial, q.number, st⟩])
        ∧ u.Sends ⟨s.upStation x.port, .landed x.serial q.number st⟩
        ∧ (s.hasRole .load = true → q.cls = classEmpty → u.Sends ⟨0, .rackIn q.number q.steeredBy⟩)
    (∀ (s : State) (r : Rec) (m : SlotName) (x : Slot), s.Runs → s.tag.st = .reading → s.tag.owner = some r.id →
      s.recOf r.id = some r → s.slotOf r.id = some (m, x) → s.canQueue = true → s.line.queue.length ≤ 8 →
      (∀ b0 b1, s.boot.loaded = true → s.boot.prof.reader = true →
        ∃ u : State, exec (.tagReplyGap b0 b1) s = .next u.settle ∧ u.track = s.track ∧ landed s u r m x .noread)
      ∧ (s.tag.timeout = some 0 →
        ∃ u : State, exec .readerTimeout s = .next u.settle ∧ u.track = s.track ∧ landed s u r m x .noread))
    ∧ (∀ (s : State) (p : PendEdge) (n : SlotName) (y : Slot), s.Runs → s.boot.mode = .active → s.boot.loaded = true →
      s.dr.belt ≠ .park → s.eyes.entry.pend = some p → s.boot.prof.eyeFilter ≤ p.run → s.eyes.entry.st = .clear →
      p.reverse = false → s.trackFull = false → s.oldestReserved = some (n, y) → (∀ r ∈ s.track, r.id < s.nextId) →
      (∀ m z, s.slot m = some z → z.landing ≠ some s.nextId) → s.canQueue = true → s.line.queue.length ≤ 8 →
      ∃ (u : State) (q : Rec), exec (.eyeEdgeConfirm .entry) s = .next u.settle ∧ u.recOf s.nextId = some q
        ∧ (s.boot.prof.reader = true → s.tag.st = .idle →
            u.tag = ⟨.reading, some s.nextId, some s.boot.prof.readerTimeout, some 0x3C⟩
            ∧ u.slot n = some { y with landing := some s.nextId } ∧ u.landLog y.port = s.landLog y.port)
        ∧ (s.boot.prof.reader = true → s.tag.st ≠ .idle → u.tag = s.tag ∧ landed s u q n y .noread)
        ∧ (s.boot.prof.reader = false → u.tag = s.tag ∧ landed s u q n y .ok)))
  ∧ (∀ (s : State) (r : Rec) (m : SlotName) (x : Slot) (b0 b1 b2 : Byte), s.Runs → s.boot.loaded = true →
      s.boot.prof.reader = true → s.tag.st = .reading → s.tag.owner = some r.id → s.recOf r.id = some r →
      s.slotOf r.id = some (m, x) → s.canQueue = true → s.line.queue.length ≤ 8 →
      let v := b1.toNat * 256 + b2.toNat
      let read : Bool := decide (b0 = 0x3E) && decide (1 ≤ v) && decide (v ≤ 4095)
      let k : RackNo := Fin.ofNat 4096 v
      let two (l : List LandLog) : List LandLog := l.drop (l.length - 2)
      let landed (u : State) (q : Rec) (n : RackNo) (st : LandStatus) : Prop :=
        u.slot m = none ∧ u.landLog x.port = two (s.landLog x.port ++ [⟨x.serial, n, st⟩])
          ∧ u.Sends ⟨s.upStation x.port, .landed x.serial n st⟩
          ∧ (s.hasRole .load = true → q.cls = classEmpty → u.Sends ⟨0, .rackIn q.number q.steeredBy⟩)
      ∃ u : State, exec (.tagReplyComplete b0 b1 b2) s = .next u.settle
        ∧ (read = false → u.track = s.track ∧ landed u r r.number .noread)
        ∧ (read = true → k = r.number → u.track = s.track ∧ landed u r r.number .ok)
        ∧ (read = true → r.number = notag → ∃ q ∈ u.track, q.id = r.id ∧ q.cls = r.cls ∧ q.hop = r.hop
            ∧ q.number = (if s.numberHeld r.id k then notag else k) ∧ landed u q q.number .ok)
        ∧ (∀ m' y, read = true → k ≠ r.number → r.number ≠ notag → s.newerSlot r.id k = some (m', y) →
            s.slot m' = some y ∧ y.landing = none ∧ y.image.number = k ∧ m' ≠ m
            ∧ u.slot m = none ∧ u.slot m' = none
            ∧ u.Sends ⟨s.upStation x.port, .landed x.serial k .skipped⟩
            ∧ (u.cause .expectedMissing).st = .pending
            ∧ (u.cause .expectedMissing).detail = BitVec.ofNat 16 x.image.number.val
            ∧ ∃ q ∈ u.track, q.id = r.id ∧ q.cls = y.image.cls ∧ q.origin = y.image.origin
              ∧ q.steeredBy = y.image.steeredBy ∧ q.hop = satSucc y.image.hop
              ∧ q.entry = some ⟨y.port, y.serial⟩ ∧ q.front = r.front ∧ q.state = r.state
              ∧ (q.number = k ∨ q.number = notag ∧ q.flags.duplicate = true)
              ∧ u.Sends ⟨s.upStation y.port, .landed y.serial q.number .ok⟩
              ∧ (s.hasRole .load = true → q.cls = classEmpty → u.Sends ⟨0, .rackIn q.number q.steeredBy⟩)
              ∧ (s.boot.prof.hopLimit < q.hop.val → (u.cause .circling).st = .pending))
        ∧ (read = true → k ≠ r.number → r.number ≠ notag → s.newerSlot r.id k = none →
            (u.cause .tagMismatch).st = .pending ∧ (u.cause .tagMismatch).detail = BitVec.ofNat 16 v
            ∧ ∃ q ∈ u.track, q.id = r.id ∧ q.flags.relabelled = true ∧ q.cls = r.cls ∧ q.hop = r.hop
              ∧ q.number = (if s.numberHeld r.id k then notag else k)
              ∧ landed u q k .mismatch))

/-! ### Track -/

/-- (1) Removing a record (R55): it leaves the track, and every awaited and missed list; the others stay in
their order; a read it owned goes on without an owner; the slot that was LANDING for it is FREE. (2)
EYE_EDGE_CONFIRM at EXIT, in ACTIVE (R49, R50, R51, R52, R53, R54). A lead edge captured at X goes to the record
of passage NONE whose slip lies from −4 × the tolerance to the jam allowance and is smallest, of equals the
front-most: it is SPANNING, a TAKEN one LEAVING, and sets the jam distance (R29); those ahead of it with passage
NONE are removed with LOST-RACK. With no candidate no passage changes and STRAY-RACK is raised with EXIT. A
trail edge makes the SPANNING record PASSED: LEAVING, it stays until its landing answer is there, and is removed
with it; untaken, it is removed with LOST-RACK. With none SPANNING the track stays. -/
def Obligations.RemovalLeavesNoTrace : Prop :=
  (∀ (s : State) (r : Rec), r ∈ s.track →
      let t := s.removeRec r
      (t.track.map Rec.kept = (s.track.filter fun q => q.id != r.id).map Rec.kept)
        ∧ (∀ e, r.id ∉ (t.chan e).awaited ∧ r.id ∉ (t.chan e).missed)
        ∧ t.tag.owner ≠ some r.id ∧ t.tag.st = s.tag.st ∧ t.tag.timeout = s.tag.timeout
        ∧ (∀ n x, s.slotOf r.id = some (n, x) → t.slot n = none)
        ∧ (r.state = .offered → t.ex.resend = none ∧ t.ex.patience = none)
        ∧ (∀ q, t.head = some q → t.marks.owner = some q.id)
        ∧ t.cu = s.cu ∧ t.dr = s.dr ∧ t.ex.lost = s.ex.lost)
  ∧ (∀ (s : State) (p : PendEdge), s.Runs → s.boot.mode = .active → s.boot.loaded = true →
      s.dr.belt ≠ .park → s.eyes.exit.pend = some p → s.boot.prof.eyeFilter ≤ p.run → p.reverse = false →
      s.NamesSound →
      let v (r : Rec) : Int := slip (r.front + BitVec.ofNat 16 s.boot.cts.exit) p.count
      let can (r : Rec) : Prop :=
        r.exitPass = .none ∧ -(4 * (s.boot.cts.tol : Int)) ≤ v r ∧ v r ≤ (s.boot.cts.jam : Int)
      ∃ u : State, exec (.eyeEdgeConfirm .exit) s = .next u.settle
        ∧ (s.eyes.exit.st = .clear → (∀ r ∈ s.track, ¬can r) →
            u.track = s.track ∧ u.eyes.exit.jamDist = s.boot.cts.rackMax + s.boot.cts.jam
            ∧ (u.cause .strayRack).st = .pending
            ∧ (u.cause .strayRack).detail = BitVec.ofNat 16 (Eye.code .exit))
        ∧ (∀ a r b, s.eyes.exit.st = .clear → s.track = a ++ r :: b → can r →
            (∀ q ∈ a, can q → (v r).natAbs < (v q).natAbs) →
            (∀ q ∈ b, can q → (v r).natAbs ≤ (v q).natAbs) →
            u.track.map (·.id) = ((a.filter fun q => q.exitPass != .none) ++ r :: b).map (·.id)
            ∧ (∃ q ∈ u.track, q.id = r.id ∧ q.exitPass = .spanning ∧ q.front = r.front
                ∧ q.number = r.number ∧ (r.state = .taken → q.state = .leaving))
            ∧ (∀ q ∈ u.track, q.id ≠ r.id → ∃ q' ∈ s.track, q'.id = q.id ∧ q.exitPass = q'.exitPass)
            ∧ u.eyes.exit.jamDist = r.length.getD s.boot.cts.rackMax + s.boot.cts.jam
            ∧ ((∃ q ∈ a, q.exitPass = .none) → (u.cause .lostRack).st = .pending)
            ∧ ((∀ q ∈ a, q.exitPass ≠ .none) → u.cause .lostRack = s.cause .lostRack))
        ∧ (s.eyes.exit.st = .blocked → (∀ r ∈ s.track, r.exitPass ≠ .spanning) → u.track = s.track)
        ∧ (∀ a r b, s.eyes.exit.st = .blocked → s.track = a ++ r :: b →
            (∀ q ∈ a, q.exitPass ≠ .spanning) → r.exitPass = .spanning →
            (r.state = .leaving → r.landing = none → u.track = a ++ { r with exitPass := .passed } :: b)
            ∧ (r.state = .leaving → r.landing ≠ none →
                u.track.map Rec.kept = (a ++ b).map Rec.kept ∧ u.cause .lostRack = s.cause .lostRack)
            ∧ (r.state ≠ .leaving → u.track.map Rec.kept = (a ++ b).map Rec.kept
                ∧ (u.cause .lostRack).st = .pending
                ∧ (u.cause .lostRack).detail = BitVec.ofNat 16 r.number.val
                ∧ (r.state ≠ .taken → u.ex.plainLoss = true)))
        ∧ (u.eyes.exit.st = if s.eyes.exit.st = .clear then .blocked else if s.eyes.exit.st = .blocked then .clear
            else u.eyes.exit.st))

/-- (1) RECORD_VANISH (R54, R52, R94): with no lead edge pending at EXIT, the front-most record whose passage is
NONE and which the last forward edge found, as it still is, past the exit by more than the jam allowance leaves
the track and LOST-RACK is PENDING with its number; a TAKEN record with an exit serial goes to the lost list;
the others, one released without an exchange (R85) among them, set the plain-loss marker and leave the lost list
as it is. That the front-most goes first where several are due is the model's choice (log 14). (2)
TRANSFER_ALLOWANCE_EXPIRY (R93, R94): a TAKEN or LEAVING record with an exit serial and no landing answer whose
travel since TAKE the last forward edge found above the transfer allowance, as it still is, goes to the lost
list, which holds at most 4 entries when it held at most 4, and LOST-RACK is PENDING with its number. The
front-most record due goes first (log 14). (3) LANDED SKIPPED for a TAKEN or LEAVING record (R91, R94): it
leaves the track at once for the lost list, whatever its exit passage, and LOST-RACK is PENDING with its number.
Where it was SPANNING, the passage goes to the front-most record left whose passage is NONE: that one is
SPANNING, LEAVING if it was TAKEN, and its length, or the rack maximum, sets the EXIT jam distance; with no such
record no passage changes. Of several records of one port and serial the front-most is taken (the model's
choice, log 43). That the SKIPPED frame is no late landing of the entry it makes is the model's reading (log
13). -/
def Obligations.GivenUpRecordsAreLost : Prop :=
  (∀ (s : State) (r : Rec), s.Runs → s.eyes.exit.pendingLead = false →
      s.track.find? (fun q => s.found.contains (.vanish q.id) && q.exitPass == .none
        && decide (s.boot.cts.jam < travel (q.front + BitVec.ofNat 16 s.boot.cts.exit) s.cu.count)) = some r →
      ∃ u : State, exec .recordVanish s = .next u.settle
        ∧ u.track.map Rec.kept = (s.track.filter fun q => q.id != r.id).map Rec.kept
        ∧ (u.cause .lostRack).st = .pending
        ∧ (u.cause .lostRack).detail = BitVec.ofNat 16 r.number.val
        ∧ (∀ p n, r.state = .taken → r.exitPort = some p → r.exitSerial = some n →
            ⟨r.number, n, p⟩ ∈ u.ex.lost ∧ (s.ex.lost.length < 4 → u.ex.plainLoss = s.ex.plainLoss))
        ∧ (r.state ≠ .taken ∨ r.exitPort = none ∨ r.exitSerial = none →
            u.ex.plainLoss = true ∧ u.ex.lost = s.ex.lost)
        ∧ u.cu = s.cu ∧ u.boot = s.boot)
  ∧ ((∀ (s : State) (r : Rec) (c : Count), r ∈ s.track → .transfer r.id ∈ s.found → r.handed = true →
      r.exitSerial ≠ none → r.landing = none → r.takenAt = some c →
      s.boot.cts.transfer < travel c s.cu.count → s.transferDue ≠ none)
    ∧ ∀ (s : State) (r : Rec) (c : Count) (p : DownPort) (n : Serial), s.Runs → s.transferDue = some r →
      r.takenAt = some c → r.exitPort = some p → r.exitSerial = some n →
      s.boot.cts.transfer < travel c s.cu.count ∧ r.handed = true ∧ r.landing = none
        ∧ .transfer r.id ∈ s.found ∧ ∃ u : State, exec .transferAllowanceExpiry s = .next u.settle
          ∧ u.track.map Rec.kept = (s.track.filter fun q => q.id != r.id).map Rec.kept
          ∧ (u.cause .lostRack).st = .pending
          ∧ (u.cause .lostRack).detail = BitVec.ofNat 16 r.number.val
          ∧ u.ex.lost = (if s.ex.lost.length < 4 then s.ex.lost else s.ex.lost.drop 1)
              ++ [⟨r.number, n, p⟩]
          ∧ u.ex.serial0 = s.ex.serial0 ∧ u.ex.serial1 = s.ex.serial1
          ∧ u.cu = s.cu ∧ u.boot = s.boot)
  ∧ (∀ (s : State) (h : Hdr) (n : Serial) (k : RackNo) (p : DownPort) (r : Rec),
      s.HearsAlone h → s.downPortOf h.src = some p → s.handedAs p n = some r →
      ∃ u : State, exec (.landedSkipped h n k) s = .next u.settle
        ∧ u.track.map (·.id) = (s.track.filter fun q => q.id != r.id).map (·.id)
        ∧ ⟨r.number, n, p⟩ ∈ u.ex.lost
        ∧ (u.cause .lostRack).st = .pending ∧ (u.cause .lostRack).detail = BitVec.ofNat 16 r.number.val
        ∧ (r.exitPass ≠ .spanning →
            u.track.map Rec.kept = (s.track.filter fun q => q.id != r.id).map Rec.kept)
        ∧ (s.NamesSound → r.exitPass = .spanning → ∀ a q b,
            (s.track.filter fun x => x.id != r.id) = a ++ q :: b → (∀ x ∈ a, x.exitPass ≠ .none) → q.exitPass = .none →
            (∃ q' ∈ u.track, q'.id = q.id ∧ q'.exitPass = .spanning ∧ q'.number = q.number ∧ q'.front = q.front
                ∧ q'.length = q.length ∧ (q.state = .taken → q'.state = .leaving))
            ∧ (∀ x ∈ u.track, x.id ≠ q.id → ∃ y ∈ s.track, y.id = x.id ∧ y.exitPass = x.exitPass)
            ∧ u.eyes.exit.jamDist = q.length.getD s.boot.cts.rackMax + s.boot.cts.jam)
        ∧ (r.exitPass = .spanning → (∀ x ∈ s.track, x.id ≠ r.id → x.exitPass ≠ .none) →
            u.track.map Rec.kept = (s.track.filter fun q => q.id != r.id).map Rec.kept
            ∧ u.eyes.exit.jamDist = s.eyes.exit.jamDist)
        ∧ u.cu = s.cu ∧ u.boot = s.boot)

/-- (1) RESIDENCE_EXPOSURE_MET (R80, R84): "exposure met" holds for a TUNNEL record exactly from min exposure ×
100 ticks of residence; when the head of a TUNNEL then meets every condition of R84, the offer conditions are
tested, and the test offers it on D0: OFFERED, unanswered, with the next serial, which is used up. The state
that the row answers holds it OFFERED so, where neither a cause that stands nor LINE-OVERRUN has severity 3
(R89). (2) A head whose exit port has no neighbour (R85, R39): as soon as every condition of R84 holds, it is
released without an exchange: TAKEN, or LEAVING where it spans, with its exit port, no exit serial, the landing
answer OK, and the belt count as its taken-at count. No serial is used, the lost list stays, both timers of the
offer stop, and no frame goes out but what a MISROUTE of the next head at a bay sends. The derived actions of
any event release it so, where neither a cause that stands nor LINE-OVERRUN has severity 3;
RESIDENCE_EXPOSURE_MET of a TUNNEL is such an event. -/
def Obligations.ExposureMetOffersTheHead : Prop :=
  (∀ (s : State) (r : Rec), s.Runs → s.hasRole .tunnel = true → 0 < s.boot.prof.minExposure →
      (s.exposureMet r = true ↔ s.boot.prof.minExposure * 100 ≤ r.residence)
        ∧ (s.offerable = some r → s.boot.prof.d0 ≠ 0 →
            exec .residenceExposureMet s = .next s.settle
            ∧ s.offerStep = s.sendOffer r .d0
            ∧ (∃ q ∈ s.offerStep.track, q.id = r.id ∧ q.state = .offered ∧ q.exitPort = some .d0
                ∧ q.exitSerial = some s.ex.serial0 ∧ q.answered = false)
            ∧ s.offerStep.ex.serial0 = s.ex.serial0 + 1 ∧ s.offerStep.ex.sendCount = 1
            ∧ s.offerStep.ex.resend = some 10
            ∧ (s.severity .lineOverrun ≠ 3 → (∀ c, (s.cause c).st ≠ .absent → s.severity c ≠ 3) →
                (∃ q ∈ s.settle.track, q.id = r.id ∧ q.state = .offered ∧ q.exitPort = some .d0
                  ∧ q.exitSerial = some s.ex.serial0 ∧ q.answered = false)
                ∧ s.settle.ex.serial0 = s.ex.serial0 + 1)
            ∧ (s.HasRoom → s.offerStep.Sends ⟨s.boot.prof.d0, .offer s.ex.serial0 r.image
                (lengthField s.boot.prof.k r.length)⟩)))
  ∧ (∀ (s : State) (r : Rec), s.offerable = some r → s.downStation s.exitPortOf = 0 →
      let free (q : Rec) : Prop := q.id = r.id
        ∧ q.state = (if r.exitPass = .none then .taken else .leaving) ∧ q.exitPort = some s.exitPortOf
        ∧ q.exitSerial = none ∧ q.landing = some .ok ∧ q.takenAt = some s.cu.count ∧ q.whereSent = false
        ∧ q.number = r.number ∧ q.cls = r.cls ∧ q.front = r.front
      (∃ q ∈ s.offerStep.track, free q)
        ∧ s.offerStep.ex = { s.ex with resend := none, patience := none }
        ∧ s.offerStep.en = s.en ∧ s.offerStep.dr = s.dr
        ∧ ((s.bayRole = false ∨ ∀ q ∈ s.track, q.id ≠ r.id → q.handed = true) →
            s.offerStep.line = s.line ∧ s.offerStep.att = s.att)
        ∧ (s.severity .lineOverrun ≠ 3 → (∀ c, (s.cause c).st ≠ .absent → s.severity c ≠ 3) →
            (∃ q ∈ s.settle.track, free q) ∧ (∃ q ∈ s.settleEdge.track, free q)
            ∧ s.settle.ex.lost = s.ex.lost ∧ s.settle.ex.serial0 = s.ex.serial0 ∧ s.settle.ex.serial1 = s.ex.serial1)
        ∧ (s.Runs → s.hasRole .tunnel = true → 0 < s.boot.prof.minExposure →
            exec .residenceExposureMet s = .next s.settle))

/-! ### Drive -/

/-- WINDOW_END (R70, R71, R74): the window count, clamped to 0 to 1023, joins a history of at most four; M16 is
sixteen times their mean, rounded down, and the reported speed M16 × 250 / K up to 999, or, before a profile
gives K, a free value for an M16 above 0 (the model's choice, log 1); the window restarts. In RUN and CREEP the
level then moves by E × G / 64, truncated toward zero, within 0 to 1023; elsewhere level and lock state stay. -/
def Obligations.WindowEndMeasuresAndRegulates : Prop :=
  ∀ s : State, s.Runs → s.dr.winLeft = some 0 →
    let w := min s.dr.winEdges.toNat 1023
    let h := (s.dr.history ++ [w]).drop (s.dr.history.length + 1 - 4)
    let m := 16 * h.sum / h.length
    let e : Int := (s.dr.t16 : Int) - (m : Int)
    let sum : Int := (s.dr.level : Int) + (e * s.boot.prof.gain).tdiv 64
    ∃ u : State, exec .windowEnd s = .next u.settle
      ∧ u.dr.history = h ∧ u.dr.m16 = m
      ∧ (s.boot.loaded = true → u.dr.vmeas.val = min (m * 250 / s.boot.prof.k) 999)
      ∧ (s.boot.loaded = false → u.dr.vmeas = if m = 0 then 0 else Config.unprofiledSpeed m)
      ∧ u.dr.winEdges = 0 ∧ u.dr.winLeft = some 25 ∧ u.dr.belt = s.dr.belt ∧ u.dr.t16 = s.dr.t16
      ∧ ((s.dr.belt = .run ∨ s.dr.belt = .creep) →
          (u.dr.level : Int) = max 0 (min sum 1023)
          ∧ u.dr.satHigh = (if 1023 < sum ∧ 0 < e then min (s.dr.satHigh + 1) 8 else 0)
          ∧ u.dr.satLow = (if sum < 0 ∧ e < 0 then min (s.dr.satLow + 1) 8 else 0)
          ∧ (u.dr.satHigh = 8 → u.dr.lock = .failSlow ∧ (u.cause .beltOverload).st = .pending
              ∧ (u.cause .beltOverload).detail = BitVec.ofNat 16 u.dr.vmeas.val)
          ∧ (u.dr.satHigh ≠ 8 → u.dr.satLow = 8 → u.dr.lock = .failFast
              ∧ (u.cause .beltOverrun).st = .pending
              ∧ (u.cause .beltOverrun).detail = BitVec.ofNat 16 u.dr.vmeas.val))
      ∧ (s.dr.belt ≠ .run → s.dr.belt ≠ .creep →
          u.dr.level = s.dr.level ∧ u.dr.lock = s.dr.lock ∧ u.dr.satHigh = s.dr.satHigh
            ∧ u.dr.satLow = s.dr.satLow ∧ u.att = s.att)
      ∧ u.track = s.track ∧ u.eyes = s.eyes ∧ u.en = s.en ∧ u.cu = s.cu

/-- (1) The lock step of a window end (R77): four windows in succession within the band lock, two beyond twice
the band unlock, and the band is max(8, T16 / 8). (2) WINDOW_END locks and unlocks by it (R77, R79): in RUN and
CREEP, at a window whose saturation counts stay below 8, the lock state and its two runs become those of the
lock step for the error E = T16 − M16; a belt that is LOCKED then has its unsteady count at 0 and the condition
of BELT-UNSTEADY at an end, and outside RUN and CREEP nothing of it changes. (3) The target (R72, R73, R78): the
profile's target speed, at a TUNNEL with a min exposure at most the ceiling, and with follow at most the last GO
speed, taken as 10 when lower, of the neighbour of each port toward which a record is TAKEN or LEAVING; T16 from
it, in CREEP divided by the creep divisor. Once the profile is read, T16 is the target of the state after every
derived round. A new T16 further from the old one than the old one's band, in RUN or CREEP, makes LOCKED
UNLOCKED and clears the in-band run; nothing else of the drive changes with T16. That the net change of a
derived pass is what is compared is the model's choice (log 35). (4) BELT_UNSTEADY (R79): in RUN and UNLOCKED,
at an unsteady count of the limit × 100, BELT-UNSTEADY is PENDING with its condition present and the reported
speed as detail. Leaving RUN for HOLD or CREEP ends the condition. Where a FLUSH has left the mark with the belt
out of RUN, the condition ends before the next tick, belt edge or raw eye change acts: a PENDING-ACK
BELT-UNSTEADY becomes ABSENT, and no other cause changes. That the end comes then is the model's choice (log
34). -/
def Obligations.LockAndUnsteadyFollowTheError : Prop :=
  (∀ (d : Drive) (e : Int),
      let b := max 8 (d.t16 / 8)
      (d.lock = .unlocked → d.inBand < 4 →
        (b < e.natAbs → (d.lockStep e).lock = .unlocked ∧ (d.lockStep e).inBand = 0)
        ∧ (e.natAbs ≤ b → (d.lockStep e).inBand = d.inBand + 1
            ∧ (d.lockStep e).lock = if d.inBand = 3 then .locked else .unlocked)
        ∧ ((d.lockStep e).lock = .locked → (d.lockStep e).outBand = 0))
      ∧ (d.lock = .locked → d.outBand < 2 →
        (e.natAbs ≤ 2 * b → (d.lockStep e).lock = .locked ∧ (d.lockStep e).outBand = 0)
        ∧ (2 * b < e.natAbs → (d.lockStep e).outBand = d.outBand + 1
            ∧ (d.lockStep e).lock = if d.outBand = 1 then .unlocked else .locked)
        ∧ ((d.lockStep e).lock = .unlocked → (d.lockStep e).inBand = 0))
      ∧ (d.lock = .failSlow ∨ d.lock = .failFast → d.lockStep e = d)
      ∧ (d.lockStep e).level = d.level ∧ (d.lockStep e).belt = d.belt)
  ∧ (∀ s : State, s.Runs → s.dr.winLeft = some 0 →
      ∃ u : State, exec .windowEnd s = .next u.settle
        ∧ (let e : Int := (s.dr.t16 : Int) - (u.dr.m16 : Int)
           ((s.dr.belt = .run ∨ s.dr.belt = .creep) → u.dr.satHigh ≠ 8 → u.dr.satLow ≠ 8 →
              u.dr.lock = (s.dr.lockStep e).lock ∧ u.dr.inBand = (s.dr.lockStep e).inBand
              ∧ u.dr.outBand = (s.dr.lockStep e).outBand
              ∧ (u.dr.lock = .locked → u.dr.unsteady = 0 ∧ (u.cause .beltUnsteady).present = false)
              ∧ (u.dr.lock ≠ .locked → u.dr.unsteady = s.dr.unsteady ∧ u.att = s.att))
           ∧ (s.dr.belt ≠ .run → s.dr.belt ≠ .creep →
              u.dr.lock = s.dr.lock ∧ u.dr.inBand = s.dr.inBand ∧ u.dr.outBand = s.dr.outBand
              ∧ u.dr.unsteady = s.dr.unsteady ∧ u.att = s.att))
        ∧ u.dr.m16 = 16 * u.dr.history.sum / u.dr.history.length)
  ∧ (∀ s : State,
      let base := if s.hasRole .tunnel = true ∧ 0 < s.boot.prof.minExposure then min s.boot.prof.target s.boot.ceiling
        else s.boot.prof.target
      let limit := fun (p : DownPort) (v : Nat) => match s.neigh (DownPort.port p) with
        | some ⟨_, _, _, some g, _⟩ => if s.boot.prof.follow = true ∧ s.handing p = true then min v (max 10 g.val) else v
        | _ => v
      let t := (s.targetSpeed * s.boot.prof.k + 125) / 250
      let b := max 8 (s.dr.t16 / 8)
      let far := (s.dr.belt = .run ∨ s.dr.belt = .creep) ∧ b < ((s.targetT16 : Int) - (s.dr.t16 : Int)).natAbs
      s.targetSpeed = limit .d1 (limit .d0 base)
      ∧ s.targetT16 = (if s.dr.belt = .creep then t / s.boot.prof.creepDiv else t)
      ∧ (s.boot.loaded = true → s.updateTarget = { s with dr := { s.dr with
          t16 := s.targetT16
          inBand := if far then 0 else s.dr.inBand
          lock := if far ∧ s.dr.lock = .locked then .unlocked else s.dr.lock } })
      ∧ (s.boot.loaded = false → s.updateTarget = s)
      ∧ (s.boot.loaded = true → s.settle.dr.t16 = s.settle.targetT16 ∧ s.settleEdge.dr.t16 = s.settleEdge.targetT16))
  ∧ ((∀ s : State, s.dr.belt = .run → s.wanted ≠ .run →
      (s.followBelt.cause .beltUnsteady).present = false ∧ s.followBelt.dr.unsteady = 0)
    ∧ (∀ s : State, (s.dr.belt = .run ∨ (s.cause .beltUnsteady).present = false) → s.doUnsteadyOver = s)
    ∧ (∀ s : State, s.dr.belt ≠ .run → (s.cause .beltUnsteady).present = true →
      ∃ u : State, s.doUnsteadyOver = u.settle
        ∧ u.cause .beltUnsteady = { s.cause .beltUnsteady with
            present := false
            st := if (s.cause .beltUnsteady).st = .pendingAck then .absent else (s.cause .beltUnsteady).st }
        ∧ (∀ c, c ≠ .beltUnsteady → u.cause c = s.cause c)
        ∧ ((s.cause .beltUnsteady).st = .pendingAck → u.att.level = u.levelNow)
        ∧ ((s.cause .beltUnsteady).st ≠ .pendingAck → u.att.level = s.att.level ∧ u.line = s.line)
        ∧ u.dr = s.dr ∧ u.track = s.track ∧ u.ex = s.ex ∧ u.en = s.en)
    ∧ (∀ (s : State) (pins : PinSample) (e : Eye) (high : Bool), s.Runs →
      exec (.tick pins) s = exec (.tick pins) s.doUnsteadyOver
      ∧ exec .forwardEdge s = exec .forwardEdge s.doUnsteadyOver
      ∧ exec .reverseEdge s = exec .reverseEdge s.doUnsteadyOver
      ∧ exec (.eyeRawChange e high) s = exec (.eyeRawChange e high) s.doUnsteadyOver)
    ∧ (∀ s : State, s.Runs → s.dr.belt = .run → s.dr.lock = .unlocked →
      (s.cause .beltUnsteady).present = false → s.boot.prof.unsteadyLimit * 100 ≤ s.dr.unsteady →
      ∃ u : State, exec .beltUnsteady s = .next u.settle
        ∧ (u.cause .beltUnsteady).st = .pending ∧ (u.cause .beltUnsteady).present = true
        ∧ (u.cause .beltUnsteady).detail = BitVec.ofNat 16 s.dr.vmeas.val
        ∧ (∀ c, c ≠ .beltUnsteady → u.cause c = s.cause c)
        ∧ u.dr = s.dr ∧ u.track = s.track ∧ u.eyes = s.eyes ∧ u.ex = s.ex ∧ u.en = s.en ∧ u.boot = s.boot))

/-- (1) SPIN_UP_EXPIRY (R66, R70, R75, R77, R158): the belt enters the wanted motion as it stands: RUN or CREEP
at the level it has, with the window, the history, the saturation counts and the lock state afresh; or HOLD with
the level 0. (2) How the belt follows the wanted motion (R65, R66, R67): from HOLD, a HOLD entered from RUN or
CREEP fewer than 50 ticks ago is left at once at the resume level, and any other through SPIN-UP at the start
level; from RUN or CREEP the belt enters HOLD at once, the level recorded as the resume level and then 0. In
SPIN-UP before its expiry a held HOLD, or a wanted motion that becomes HOLD after it has asked for motion, makes
it enter HOLD at once, with the spin-up time abandoned, as from no regulated state; any other wanted motion
leaves the SPIN-UP to its expiry. ESTOP_OPEN during SPIN-UP is such a HOLD. That a SPIN-UP with nothing wanted
since a wake goes on is the model's reading (log 12). -/
def Obligations.BeltStateFollowsTheWantedMotion : Prop :=
  (∀ s : State, s.Runs → s.dr.belt = .spinUp → s.dr.spinLeft = some 0 →
      ∃ u : State, exec .spinUpExpiry s = .next u.settle
        ∧ (s.wanted ≠ .hold → u.dr.belt = (if s.wanted = .creep then .creep else .run)
            ∧ u.dr.level = s.dr.level ∧ u.dr.history = [] ∧ u.dr.winLeft = some 25 ∧ u.dr.winEdges = 0
            ∧ u.dr.lock = .unlocked ∧ u.dr.satHigh = 0 ∧ u.dr.satLow = 0 ∧ u.dr.inBand = 0
            ∧ u.dr.outBand = 0 ∧ u.att = s.att ∧ u.en = s.en)
        ∧ (s.wanted = .hold → u.dr.belt = .hold ∧ u.dr.level = 0 ∧ u.dr.holdFrom = some .spinUp
            ∧ u.dr.holdTicks = 0 ∧ u.dr.resume = s.dr.resume)
        ∧ u.dr.spinLeft = none
        ∧ u.track = s.track ∧ u.eyes = s.eyes ∧ u.ex = s.ex ∧ u.boot = s.boot ∧ u.cu = s.cu)
  ∧ ((∀ s : State,
      (s.dr.belt = .hold → s.wanted = .hold → s.followBelt = s)
        ∧ (s.dr.belt = .hold → s.wanted ≠ .hold → (s.dr.holdFrom = some .run ∨ s.dr.holdFrom = some .creep) →
            s.dr.holdTicks < 50 →
            s.followBelt.dr.belt = (if s.wanted = .creep then .creep else .run)
              ∧ s.followBelt.dr.level = s.dr.resume)
        ∧ (s.dr.belt = .hold → s.wanted ≠ .hold →
            ((s.dr.holdFrom ≠ some .run ∧ s.dr.holdFrom ≠ some .creep) ∨ 50 ≤ s.dr.holdTicks) →
            s.followBelt.dr.belt = .spinUp ∧ s.followBelt.dr.level = s.boot.prof.startLevel
              ∧ s.followBelt.dr.spinLeft = some s.boot.prof.spinUp)
        ∧ ((s.dr.belt = .run ∨ s.dr.belt = .creep) → s.wanted = .hold →
            s.followBelt.dr.belt = .hold ∧ s.followBelt.dr.level = 0
              ∧ s.followBelt.dr.resume = s.dr.level ∧ s.followBelt.dr.holdTicks = 0
              ∧ s.followBelt.dr.holdFrom = some s.dr.belt)
        ∧ ((s.dr.belt = .run ∨ s.dr.belt = .creep) → s.wanted ≠ .hold →
            s.followBelt.dr.belt = (if s.wanted = .creep then .creep else .run)
              ∧ s.followBelt.dr.level = s.dr.level ∧ s.followBelt.dr.history = s.dr.history)
        ∧ (s.dr.belt = .park → s.followBelt = s))
    ∧ (∀ s : State, s.dr.belt = .spinUp →
        let stopped (t : State) : Prop := t.dr.belt = .hold ∧ t.dr.level = 0 ∧ t.dr.holdFrom = some .spinUp
          ∧ t.dr.holdTicks = 0 ∧ t.dr.spinLeft = none ∧ t.dr.resume = s.dr.resume
        (s.wanted = .hold → s.heldHold = true ∨ s.dr.spinFollows = true → stopped s.followBelt)
        ∧ (s.wanted = .hold → s.heldHold = false → s.dr.spinFollows = false → s.followBelt = s)
        ∧ (s.wanted ≠ .hold → s.followBelt = { s with dr := { s.dr with spinFollows := true } })
        ∧ (s.Runs → s.att.estopHigh = false → (s.cause .estop).st = .absent → (s.cause .estop).present = false →
            ∃ t, exec .estopOpen s = .next t ∧ stopped t ∧ t.att.level = 3)))

/-! ### Hand-off -/

/-- (1) OFFER_RESEND (R86, R87): at the expiry the OFFER of the OFFERED head goes out again with its serial and
its image as it stands; unanswered, a send count below 4 goes up by one and the timer restarts at 10 ticks, or
at 100 once the count is 4; answered, it restarts at 100 and the count stays. With no OFFERED head nothing is
sent. That a row that is not due changes nothing is the model's choice (log 3). (2) WHERE_SENT (R92): when a
forward edge finds the travel since TAKE above half the transfer allowance with no landing answer, one WHERE
with the exit serial goes to the exit port's neighbour, and the mark keeps it from going again. The front-most
record due goes first (log 14). -/
def Obligations.OfferAndWhereAreSentAgain : Prop :=
  ((∀ (s : State) (r : Rec) (p : DownPort) (n : Serial), s.Runs → s.ex.resend = some 0 →
      s.head = some r → r.state = .offered → r.exitPort = some p → r.exitSerial = some n →
      ∃ u : State, exec .offerResend s = .next u.settle
        ∧ (r.answered = true → u.ex = { s.ex with resend := some 100 })
        ∧ (r.answered = false → s.ex.sendCount < 3 →
            u.ex = { s.ex with sendCount := s.ex.sendCount + 1, resend := some 10 })
        ∧ (r.answered = false → s.ex.sendCount = 3 →
            u.ex = { s.ex with sendCount := 4, resend := some 100 })
        ∧ (r.answered = false → 4 ≤ s.ex.sendCount → u.ex = { s.ex with resend := some 100 })
        ∧ (s.HasRoom → u.Sends ⟨s.downStation p, .offer n r.image
            (lengthField s.boot.prof.k r.length)⟩ ∧ u.att = s.att)
        ∧ u.track = s.track ∧ u.marks = s.marks ∧ u.dr = s.dr ∧ u.en = s.en ∧ u.eyes = s.eyes)
    ∧ ∀ s : State, s.Runs → (∀ r, s.head = some r → r.state ≠ .offered) →
      exec .offerResend s = .next s)
  ∧ ((∀ (s : State) (r : Rec) (c : Count), r ∈ s.track → .whereSent r.id ∈ s.found → r.handed = true →
      r.exitSerial ≠ none → r.landing = none → r.whereSent = false → r.takenAt = some c →
      s.boot.cts.transfer / 2 < travel c s.cu.count → s.whereDue ≠ none)
    ∧ ∀ (s : State) (r : Rec) (p : DownPort) (n : Serial), s.Runs → s.whereDue = some r →
      r.exitPort = some p → r.exitSerial = some n →
      r.whereSent = false ∧ .whereSent r.id ∈ s.found ∧ ∃ u : State, exec .whereSent s = .next u.settle
        ∧ u.track = s.track.map (fun q => if q.id = r.id then { q with whereSent := true } else q)
        ∧ (s.HasRoom → u.Sends ⟨s.downStation p, .whereIs n⟩ ∧ u.att = s.att)
        ∧ u.ex = s.ex ∧ u.marks = s.marks ∧ u.dr = s.dr ∧ u.en = s.en ∧ u.eyes = s.eyes)

/-- TAKE for the OFFERED head (R88, R39, R15): it is TAKEN, or LEAVING where it spans, unanswered and unlanded,
its taken-at count the belt count; both timers of the offer stop; a next head owns the mark group, and with none
the owner's approach and stop marks are disarmed. -/
def Obligations.TakeReleasesTheHead : Prop :=
  ∀ (s : State) (h : Hdr) (n : Serial) (p : DownPort) (r : Rec), s.HearsAlone h →
    s.head = some r → r.state = .offered → s.downPortOf h.src = some p → r.exitPort = some p →
    r.exitSerial = some n →
    ∃ u : State, exec (.take h n) s = .next u.settle
      ∧ (∃ q ∈ u.track, q.id = r.id
          ∧ q.state = (if r.exitPass = .none then .taken else .leaving)
          ∧ q.answered = false ∧ q.landing = none ∧ q.takenAt = some s.cu.count
          ∧ q.whereSent = false ∧ q.exitPort = some p ∧ q.exitSerial = some n)
      ∧ u.track.map Rec.kept = s.track.map Rec.kept
      ∧ u.ex = { s.ex with resend := none, patience := none }
      ∧ (∀ q, u.head = some q → u.marks.owner = some q.id)
      ∧ (u.head = none → s.marks.owner = some r.id →
          u.marks = { s.marks with approach := s.marks.approach.disarm, stop := s.marks.stop.disarm })
      ∧ u.cu = s.cu ∧ u.eyes = s.eyes ∧ u.gate = s.gate ∧ u.rt = s.rt ∧ u.boot = s.boot

/-- (1) WAIT and REFUSE for the OFFERED head (R87, R39): the offer is ANSWERED and the re-send timer restarts at
100 ticks, whatever the reason; the record stays OFFERED. (2) A frame of the exchange that names no record or
serial here changes no record (R87, R88, R90, R92): a TAKE, WAIT or REFUSE that finds no OFFERED head with its
serial, and every NOT-SEEN. What a heard frame does in any case remains: the neighbour record, and the wake. -/
def Obligations.AnswersMatchTheOutstandingOffer : Prop :=
  (∀ (s : State) (h : Hdr) (n : Serial) (p : DownPort) (r : Rec) (c : Instr), s.HearsAlone h →
      (c = .wait h n ∨ ∃ x, c = .refuse h n x) →
      s.head = some r → r.state = .offered → s.downPortOf h.src = some p → r.exitPort = some p →
      r.exitSerial = some n →
      ∃ u : State, exec c s = .next u.settle
        ∧ u.track = s.track.map (fun q => if q.id = r.id then { q with answered := true } else q)
        ∧ u.ex = { s.ex with resend := some 100 }
        ∧ u.marks = s.marks ∧ u.cu = s.cu ∧ u.eyes = s.eyes ∧ u.gate = s.gate ∧ u.rt = s.rt
        ∧ u.boot = s.boot)
  ∧ (∀ (s : State) (h : Hdr) (n : Serial), s.HearsAlone h →
      (exec (.notSeen h n) s = .next (State.settle (State.wake (s.refresh h.src))))
      ∧ (s.offeredTo h.src n = none →
          exec (.take h n) s = .next (State.settle (State.wake (s.refresh h.src)))
          ∧ exec (.wait h n) s = .next (State.settle (State.wake (s.refresh h.src)))
          ∧ ∀ x, exec (.refuse h n x) s = .next (State.settle (State.wake (s.refresh h.src))))
      ∧ (State.wake (s.refresh h.src)).track = s.track ∧ (State.wake (s.refresh h.src)).ex = s.ex
      ∧ (State.wake (s.refresh h.src)).cu = s.cu ∧ (State.wake (s.refresh h.src)).eyes = s.eyes)

/-- (1) LANDED OK, NOREAD or MISMATCH for a TAKEN or LEAVING record (R90, R39, R51, R53): its landing answer
takes the status; with the passage PASSED it is removed, and otherwise it stays in its place. At a DIVERT the
first answer of a record whose rack route has the demand mark adds an entry to the steered list of its exit
port, with the number carried, for NOREAD the record's own, and the sender (R144, R145). Of several records of
one port and serial the front-most is taken (the model's choice, log 43). (2) A late LANDED (R94): with no such
record and the serial in the lost list with that port, the entry goes, the repeat count of a LOST-RACK that is
not ABSENT rises and its detail is the entry's number; LOST-RACK is ABSENT when the list is then empty and no
plain loss stands. Of several entries of one port and serial the oldest is taken (the model's choice, log 43).
-/
def Obligations.LandedReportsAreAccounted : Prop :=
  (∀ (s : State) (h : Hdr) (n : Serial) (k : RackNo) (a : LandAnswer) (p : DownPort) (r : Rec),
      s.HearsAlone h → s.downPortOf h.src = some p → s.handedAs p n = some r →
      ∃ u : State, exec (.landed h n k a) s = .next u.settle
        ∧ (r.exitPass ≠ .passed →
            u.track = s.track.map (fun q => if q.id = r.id then { q with landing := some a } else q))
        ∧ (r.exitPass = .passed →
            u.track.map Rec.kept = (s.track.filter fun q => q.id != r.id).map Rec.kept)
        ∧ (s.hasRole .divert = true → r.landing = none → (∃ rt, s.gate.rackRoute = some rt ∧ rt.demand = true) →
            u.steered p = addSteered (s.steered p) ⟨if a = .noread then r.number else k, h.src, s.line.tick⟩)
        ∧ ((s.hasRole .divert = false ∨ r.landing ≠ none ∨ ∀ rt, s.gate.rackRoute = some rt → rt.demand = false) →
            u.steered p = s.steered p)
        ∧ u.steered (DownPort.other p) = s.steered (DownPort.other p)
        ∧ u.ex.lost = s.ex.lost ∧ u.cu = s.cu ∧ u.boot = s.boot)
  ∧ (∀ (s : State) (h : Hdr) (n : Serial) (k : RackNo) (a : LandAnswer) (p : DownPort) (x : LostEntry),
      s.HearsAlone h → s.downPortOf h.src = some p → s.handedAs p n = none → s.lostAs p n = some x →
      ∃ u : State, exec (.landed h n k a) s = .next u.settle
        ∧ u.ex.lost = s.ex.lost.erase x ∧ u.track = s.track
        ∧ ((s.cause .lostRack).st ≠ .absent →
            (u.cause .lostRack).repeats = satSucc (s.cause .lostRack).repeats
            ∧ (u.cause .lostRack).detail = BitVec.ofNat 16 x.number.val
            ∧ (u.cause .lostRack).st = if s.ex.lost.erase x = [] ∧ s.ex.plainLoss = false then .absent
                else (s.cause .lostRack).st)
        ∧ ((s.cause .lostRack).st = .absent → (u.cause .lostRack).st = .absent)
        ∧ u.ex.plainLoss = s.ex.plainLoss ∧ u.cu = s.cu ∧ u.eyes = s.eyes ∧ u.boot = s.boot)

/-- PATIENCE_EXPIRY of an OFFERED DIVERT head (R121, R122): where its route allows the other port, that
neighbour is connected and HEARD and its front is short of the gate, the offer is withdrawn, the record is
ALTERED and its rack route is the other port; otherwise the timer starts again and the offer stands. -/
def Obligations.PatienceTurnsTheHead : Prop :=
  ∀ (s : State) (r : Rec) (rt : Route), s.Runs → s.ex.patience = some 0 → s.head = some r →
    s.gate.rackRoute = some rt → r.state = .offered → s.hasRole .divert = true →
    ∃ u : State, exec .patienceExpiry s = .next u.settle
      ∧ (rt.alternate = true → s.canTurnTo (DownPort.other rt.port) = true → s.atGate r = false →
          u.gate.rackRoute = some { rt with port := DownPort.other rt.port }
          ∧ (∃ q ∈ u.track, q.id = r.id ∧ q.state = (if r.entryOpen then .entering else .head)
              ∧ q.flags.altered = true ∧ q.exitPort = none ∧ q.exitSerial = none)
          ∧ u.ex.resend = none ∧ u.ex.patience = none
          ∧ (∀ p n, r.exitPort = some p → r.exitSerial = some n → s.HasRoom →
              u.Sends ⟨s.downStation p, .withdraw n⟩))
      ∧ ((rt.alternate = false ∨ s.canTurnTo (DownPort.other rt.port) = false ∨ s.atGate r = true) →
          u = { s with ex := { s.ex with patience :=
            if 0 < s.boot.prof.patience then some (s.boot.prof.patience * 100) else none } })
      ∧ u.cu = s.cu ∧ u.eyes = s.eyes ∧ u.marks = s.marks

/-- OFFER, the eight rows of R96: what is answered and what becomes of slot and waiting-offer record. The frame
is first noted as heard (R171); v is the state then. -/
def Obligations.OfferAnsweredByTheRows : Prop :=
  ∀ (s : State) (h : Hdr) (n : Serial) (i : Image) (len : Fin 65536), s.HearsAlone h →
    let v := s.refresh h.src
    ∃ u : State, exec (.offer h n i len) s = .next (State.settle (State.wake u))
      ∧ (s.boot.mode = .scanning → u = v)
      ∧ (s.boot.mode = .unset → u = v.sendPrompt h.src (.refuse n .unset))
      ∧ (s.boot.mode = .active → s.upPortOf h.src = none →
          u = v.sendPrompt h.src (.refuse n .wrongPort))
      ∧ (∀ p, s.boot.mode = .active → s.upPortOf h.src = some p →
          (∀ m x, s.slotHolding p n = some (m, x) →
            u = State.sendPrompt (v.setSlot m (some { x with image := i })) (s.upStation p) (.take n))
          ∧ (s.slotHolding p n = none →
            (∀ q, s.noted p = some q → q.serial = n → v.entryReady p q.route = false →
              u = State.sendPrompt (v.setNoted p (some { q with image := i })) (s.upStation p) (.wait n))
            ∧ (2 ≤ v.att.level →
              (∀ q, s.noted p = some q → q.serial = n → v.entryReady p q.route = true) →
              u = State.sendPrompt (v.setNoted p none) (s.upStation p) (.refuse n .restricted))
            ∧ (∀ q, s.noted p = some q → q.serial = n → v.entryReady p q.route = true →
              v.att.level < 2 → u = v.takeOffer p n i q.route)
            ∧ (v.att.level < 2 → s.hasRole .divert = false →
              (v.entryReady p none = true → (∀ q, s.noted p = some q → q.route = none) →
                u = v.takeOffer p n i none)
              ∧ (v.entryReady p none = false → (∀ q, s.noted p = some q → q.serial ≠ n) →
                u = State.sendPrompt (v.setNoted p (some ⟨n, i, none⟩)) (s.upStation p) (.wait n)))
            ∧ (v.att.level < 2 → s.hasRole .divert = true →
              (∀ q, s.noted p = some q → q.serial ≠ n) →
              ∃ w rt, v.resolve i.cls = (w, rt)
                ∧ u = if w.entryReady p (some rt) then w.takeOffer p n i (some rt)
                    else State.sendPrompt (w.setNoted p (some ⟨n, i, some rt⟩)) (s.upStation p)
                      (.wait n))))

/-- (1) A new TAKE (R99, R110): the free slot becomes RESERVED for the offer's port, serial and image, its
taken-at count the belt count; the port's waiting-offer record is NONE; TAKE goes to the port's neighbour; at a
MERGE the port is the last granted one. (2) ENTRY_READY (R97, R99, R111): with a NOTED offer whose port is
ready, it is taken; at a MERGE with both ports NOTED, alternation takes the one not last granted. Which
readiness this row tests is the model's choice (log 29). -/
def Obligations.TakeReservesAndReadinessTakes : Prop :=
  (∀ (s : State) (p : UpPort) (n : Serial) (i : Image) (rt : Option Route) (m : SlotName),
      s.freeSlot = some m →
      let u := s.takeOffer p n i rt
      s.slot m = none
        ∧ u.slot m = some ⟨none, p, n, i, s.cu.count, rt⟩
        ∧ u.en.newest = m ∧ u.noted p = none ∧ u.noted (UpPort.other p) = s.noted (UpPort.other p)
        ∧ (s.hasRole .merge = true → u.en.lastGranted = p)
        ∧ (s.hasRole .merge = false → u.en.lastGranted = s.en.lastGranted)
        ∧ (s.HasRoom → u.Sends ⟨s.upStation p, .take n⟩ ∧ u.att = s.att)
        ∧ u.track = s.track ∧ u.dr = s.dr ∧ u.ex = s.ex)
  ∧ (∀ (s : State) (p : UpPort) (q : Noted), s.Runs → s.noted p = some q →
      s.entryReady p q.route = true →
      (p = .u1 → s.noted .u0 = none ∨ s.hasRole .merge = true ∧ s.en.lastGranted = .u0) →
      ∃ u : State, exec .entryReady s = .next u.settle
        ∧ (∃ m, s.freeSlot = some m
            ∧ u.slot m = some ⟨none, p, q.serial, q.image, s.cu.count, q.route⟩)
        ∧ u.noted p = none
        ∧ (s.HasRoom → u.Sends ⟨s.upStation p, .take q.serial⟩)
        ∧ (s.hasRole .merge = true → u.en.lastGranted = p ∧ u.noted (UpPort.other p) = s.noted (UpPort.other p))
        ∧ u.track = s.track ∧ u.dr = s.dr ∧ u.ex = s.ex ∧ u.cu = s.cu)

/-- (1) WITHDRAW from an upstream neighbour (R100): the NOTED record with its serial becomes NONE and the
RESERVED slot with its port and serial FREE; a LANDING slot stays, and so does whatever it does not name. A
WITHDRAW from any other station changes nothing of the exchange. (2) WHERE from an upstream neighbour in ACTIVE
(R106): a logged LANDED goes out again with the same number and status and is not logged again; a LANDING slot
with the serial draws no answer; any other case draws NOT-SEEN. -/
def Obligations.WithdrawAndWhereAreObeyed : Prop :=
  ((∀ (s : State) (h : Hdr) (n : Serial) (p : UpPort), s.HearsAlone h → s.upPortOf h.src = some p →
      ∃ u : State, exec (.withdraw h n) s = .next (State.settle (State.wake u))
        ∧ (∀ q, s.noted p = some q → q.serial = n → u.noted p = none)
        ∧ (∀ q, s.noted p = some q → q.serial ≠ n → u.noted p = some q)
        ∧ u.noted (UpPort.other p) = s.noted (UpPort.other p)
        ∧ (∀ m x, s.slot m = some x →
            u.slot m = if x.landing = none ∧ x.port = p ∧ x.serial = n then none else some x)
        ∧ u.track = s.track ∧ u.ex = s.ex ∧ u.dr = s.dr ∧ u.en.log0 = s.en.log0 ∧ u.en.log1 = s.en.log1)
    ∧ ∀ (s : State) (h : Hdr) (n : Serial), s.HearsAlone h → s.upPortOf h.src = none →
      exec (.withdraw h n) s = .next (State.settle (State.wake (s.refresh h.src))))
  ∧ (∀ (s : State) (h : Hdr) (n : Serial) (p : UpPort), s.HearsAlone h → s.boot.mode = .active →
      s.upPortOf h.src = some p →
      let v := s.refresh h.src
      ∃ u : State, exec (.whereIs h n) s = .next (State.settle (State.wake u))
        ∧ (∀ x ∈ s.landLog p, x.serial = n → (∀ y ∈ s.landLog p, y.serial = n → y = x) →
            u = v.sendPrompt h.src (.landed n x.number x.status))
        ∧ ((∀ x ∈ s.landLog p, x.serial ≠ n) →
            (∀ m x i, s.slotHolding p n = some (m, x) → x.landing = some i → u = v)
            ∧ (∀ m x, s.slotHolding p n = some (m, x) → x.landing = none →
                u = v.sendPrompt h.src (.notSeen n))
            ∧ (s.slotHolding p n = none → u = v.sendPrompt h.src (.notSeen n)))
        ∧ u.landLog p = s.landLog p ∧ u.track = s.track)

/-- SLOT_ARRIVAL_EXPIRY (R107): a RESERVED slot whose travel since TAKE the last forward edge found above the
arrival allowance, as it still is, with no lead edge pending at ENTRY, becomes FREE, and EXPECTED-MISSING is
PENDING with its image's number. With a lead edge pending there, and with every RESERVED slot within the
allowance, no slot expires. -/
def Obligations.LapsedSlotIsFreed : Prop :=
  (∀ (s : State) (m : SlotName) (x : Slot), s.Runs → s.eyes.entry.pendingLead = false →
    s.slot m = some x → x.landing = none → .arrival m ∈ s.found →
    s.boot.cts.arrival < travel x.takenAt s.cu.count →
    (∀ k y, k ≠ m → s.slot k = some y →
      y.landing = none → travel y.takenAt s.cu.count ≤ s.boot.cts.arrival) →
    ∃ u : State, exec .slotArrivalExpiry s = .next u.settle
      ∧ u.slot m = none ∧ (∀ k, k ≠ m → u.slot k = s.slot k)
      ∧ (u.cause .expectedMissing).st = .pending
      ∧ (u.cause .expectedMissing).detail = BitVec.ofNat 16 x.image.number.val
      ∧ u.track = s.track ∧ u.dr = s.dr ∧ u.ex = s.ex ∧ u.cu = s.cu ∧ u.en.log0 = s.en.log0)
  ∧ (∀ s : State, s.Runs → s.eyes.entry.pendingLead = true → exec .slotArrivalExpiry s = .next s)
  ∧ ∀ s : State, s.Runs →
    (∀ m x, s.slot m = some x → x.landing = none → travel x.takenAt s.cu.count ≤ s.boot.cts.arrival) →
    exec .slotArrivalExpiry s = .next s

/-- (1) STALL and GO from a downstream neighbour (R69, R171): STALL makes the port's span word STALLED while a
TAKEN or LEAVING record goes there, and is ignored otherwise; GO makes it FREE and keeps its speed in the
sender's neighbour records. That a STALL or GO sent to all is obeyed too is the model's reading (log 20). (2)
STALL and GO to the upstream neighbours (R108, R81): a belt that enters HOLD from RUN, CREEP or SPIN-UP, at its
expiry or before it, sends STALL to the neighbour of each concerned port and sets its stall mark; one that
leaves HOLD, by SPIN-UP or by the short-hold bypass, or PARK, sends GO with the target speed to the neighbour of
each port that is concerned or marked, and leaves no mark. Ports that are not concerned get no STALL, and those
neither concerned nor marked get no GO. The queue is taken to have room for a STATUS and two frames. That a mark
which has outlasted its slot draws a GO at a wake is the model's choice (log 36). -/
def Obligations.SpanWordsFollowStallAndGo : Prop :=
  (∀ (s : State) (h : Hdr) (v : Fin 1000) (p : DownPort), s.HearsOpen h → s.downPortOf h.src = some p →
      (∃ u : State, exec (.stall h) s = .next u.settle
        ∧ u.span p = (if s.handing p then .stalled else s.span p)
        ∧ u.span (DownPort.other p) = s.span (DownPort.other p)
        ∧ u.dr.belt = s.dr.belt ∧ u.dr.level = s.dr.level ∧ u.track = s.track ∧ u.en = s.en ∧ u.ex = s.ex)
      ∧ (∃ u : State, exec (.go h v) s = .next u.settle
        ∧ u.span p = .free ∧ u.span (DownPort.other p) = s.span (DownPort.other p)
        ∧ (∀ q x, s.neigh q = some x → u.neigh q = some (if x.station = h.src then
            { x with lastHeard := s.line.tick, heard := true, go := some v } else x))
        ∧ u.dr.belt = s.dr.belt ∧ u.dr.level = s.dr.level ∧ u.track = s.track ∧ u.en = s.en ∧ u.ex = s.ex))
  ∧ (
    let stalls := fun (s u : State) =>
      (∀ p, u.stallMark p = (s.stallMark p || s.concerned p))
      ∧ (s.canQueue = true → s.line.queue.length + 3 ≤ 16 → (s.line.reg = none → s.line.queue = []) →
        (∀ p, s.concerned p = true → u.Sends ⟨s.upStation p, .stall⟩)
        ∧ (∀ f, Payload.isStatus f.payload = false → u.Sends f →
            s.Sends f ∨ ∃ p, s.concerned p = true ∧ f = ⟨s.upStation p, .stall⟩))
    let goes := fun (s u : State) =>
      (∀ p, u.stallMark p = false)
      ∧ (s.canQueue = true → s.line.queue.length + 3 ≤ 16 → (s.line.reg = none → s.line.queue = []) →
        (∀ p, s.concerned p = true ∨ s.stallMark p = true →
            u.Sends ⟨s.upStation p, .go (Fin.ofNat 1000 (min s.targetSpeed 999))⟩)
        ∧ (∀ f, Payload.isStatus f.payload = false → u.Sends f → s.Sends f ∨
            ∃ p, (s.concerned p = true ∨ s.stallMark p = true)
              ∧ f = ⟨s.upStation p, .go (Fin.ofNat 1000 (min s.targetSpeed 999))⟩))
    (∀ s : State, (s.dr.belt = .run ∨ s.dr.belt = .creep) → s.wanted = .hold → stalls s s.followBelt)
    ∧ (∀ s : State, s.dr.belt = .spinUp → s.wanted = .hold → (s.heldHold = true ∨ s.dr.spinFollows = true) →
        stalls s s.followBelt)
    ∧ (∀ s : State, s.Runs → s.dr.belt = .spinUp → s.dr.spinLeft = some 0 → s.wanted = .hold →
        ∃ u : State, exec .spinUpExpiry s = .next u.settle ∧ stalls s u)
    ∧ (∀ s : State, s.dr.belt = .hold → s.wanted ≠ .hold → goes s s.followBelt)
    ∧ (∀ s : State, s.idle.phase = .parked → s.att.level ≠ 3 → goes s s.wake))

/-! ### Gate and routes -/

/-- (1) GATE_SETTLE (R116): at the end of the settle timer the commanded position is the gate position. What the
derived actions then do with a held command that the gate law forbids is the model's choice (log 48). (2) The
gate law (R116, R117): outside MOVING, a claimant's route that the gate does not serve moves the gate, with the
settle timer at the profile's time, while no record is TAKEN or LEAVING and the front of none has reached the
gate; otherwise the command is held. A gate that serves the route stays. That a forbidden command is held at a
settle expiry too is the model's choice (log 48). -/
def Obligations.GateMovesByItsLaw : Prop :=
  (∀ s : State, s.Runs → s.gate.pos = .moving → s.gate.settle = some 0 →
      exec .gateSettle s = .next (State.settle { s with gate := { s.gate with
        pos := if s.gate.commanded = .d0 then .straight else .branch, settle := none } }))
  ∧ (∀ (s : State) (rt : Route), s.hasRole .divert = true → s.gate.pos ≠ .moving →
      s.claimantRoute = some rt →
      (s.gate.setFor rt.port = true → s.gateStep.gate = { s.gate with held := none })
        ∧ (s.gate.setFor rt.port = false →
            ((∃ r ∈ s.track, r.handed = true ∨ s.gateOffset ≤ travel r.front s.cu.count) →
              s.gateStep.gate = { s.gate with held := some rt.port })
            ∧ ((∀ r ∈ s.track, r.handed = false ∧ travel r.front s.cu.count < s.gateOffset) →
              s.gateStep.gate = { s.gate with pos := .moving, commanded := rt.port, held := none,
                                              settle := some s.boot.prof.gateSettle })))

/-- (1) Resolving a route (R136, R137, R138): a PORT entry reached in at most four ALIAS steps gives its port,
the alternate mark only when every entry read allows it; a chain whose fifth step is needed gives the fallback
port with both marks clear and raises ROUTE-LOOP with the class. (2) The choice at a DEMAND entry (R139, R142):
with E the fresh wants of a branch's loaders less its steered list, the overflow branch when neither is above 0,
the larger, or on a tie the branch not chosen last. -/
def Obligations.RoutesResolveByAliasAndDemand : Prop :=
  (∀ (s : State) (c : Fin 6 → RackClass) (m : Fin 5) ,
      let e : RackClass → RouteEntry := fun x => s.boot.prof.routes.getD x.val ⟨.port0, false⟩
      (∀ i : Fin 5, i < m → (e (c i.castSucc)).kind = .aliasOf (c i.succ)) →
      let alt : Bool := decide (∀ i : Fin 5, i ≤ m → (e (c i.castSucc)).alternate = true)
      ((e (c m.castSucc)).kind = .port0 → s.resolve (c 0) = (s, ⟨.d0, alt, false⟩))
        ∧ ((e (c m.castSucc)).kind = .port1 → s.resolve (c 0) = (s, ⟨.d1, alt, false⟩))
        ∧ ((e (c m.castSucc)).kind = .demand →
            s.resolve (c 0) = ({ s with rt := { s.rt with lastChoice := s.demandChoice } },
              ⟨s.demandChoice, alt, true⟩))
        ∧ (m = 4 → (e (c 4)).kind = .aliasOf (c 5) →
            s.resolve (c 0) = (s.raise .routeLoop (c 0).val, ⟨s.boot.prof.fallback, false, false⟩)))
  ∧ (∀ s : State,
      let e (b : DownPort) : Int :=
        (((s.rt.wants.filter fun w => w.fresh && w.station != 0 && (s.loaders b).contains w.station).map
          fun w => (w.want.val : Int)).sum) - ((s.steered b).length : Int)
      (e .d0 ≤ 0 → e .d1 ≤ 0 → s.demandChoice = s.boot.prof.overflow)
        ∧ (0 < e .d0 → e .d1 < e .d0 → s.demandChoice = .d0)
        ∧ (0 < e .d1 → e .d0 < e .d1 → s.demandChoice = .d1)
        ∧ (0 < e .d0 → e .d0 = e .d1 → s.demandChoice ≠ s.rt.lastChoice))

/-- (1) WANT and WANT_EXPIRY (R140, R141): at a DIVERT that keeps the table, a WANT from a station of a loader
set leaves one entry of that station fresh with its value and the current tick, and the others as they were, and
a WANT from any other station is ignored; a fresh entry whose want expiry has passed is kept and no longer
fresh. (2) The want of a LOAD (R131, R132): after the derived actions of any event, a belt edge among them, it
is the want target less the EMPTY records whose slot is FREE and the slots held, within 0 to 15; a change while
ACTIVE queues WANT with the new value, where a WANT waits or four entries are free. A change that the event
itself makes does so too where the derived actions undo it, as a slot that is freed and reserved again. (3) The
steered lists (R145, R146): a list holds at most 8 entries after an addition to one of at most 8, the new one
last and no other of its number, a ninth pushing the oldest out, the rest in their order; at the steer expiry
the old entries leave from the front; a RACK-IN with this station's steered-by removes the first entry of its
number from the sender's branch, which is the branch whose loader set names the sender, the first of both; and
else from the other branch; and, with no number or with one that stands in neither, the oldest entry of the
sender's branch without a number, or nothing. From a station of neither set it removes the entry of its number
alone, sought in branch 0 and then in branch 1. With another steered-by it does nothing. -/
def Obligations.WantsAndSteeredListsAreKept : Prop :=
  ((∀ (s : State) (h : Hdr) (n : Fin 16), s.Hears h → s.steers = true →
      ((s.loaders .d0).contains h.src || (s.loaders .d1).contains h.src) = true →
      ∃ t, exec (.want h n) s = .next t
        ∧ (⟨h.src, n, s.line.tick, true⟩ : HeardWant) ∈ t.rt.wants
        ∧ (∀ w ∈ t.rt.wants, w.station = h.src → w = ⟨h.src, n, s.line.tick, true⟩)
        ∧ (t.rt.wants.filter fun w => w.station != h.src) = s.rt.wants.filter fun w => w.station != h.src)
    ∧ (∀ (s : State) (h : Hdr) (n : Fin 16), s.Hears h →
      (s.steers = false ∨ (s.loaders .d0).contains h.src = false ∧ (s.loaders .d1).contains h.src = false) →
      exec (.want h n) s = .next (State.settle (s.refresh h.src)))
    ∧ (∀ (s : State) (l : Station) (w : HeardWant), s.Runs → w ∈ s.rt.wants → w.station = l →
      w.fresh = true → s.boot.prof.wantExpiry ≤ (s.line.tick - w.heardAt).toNat →
      ∃ t, exec (.wantExpiry l) s = .next t
        ∧ t.rt.wants = s.rt.wants.map (fun x =>
            if x.station = l ∧ x.fresh = true
                ∧ s.boot.prof.wantExpiry ≤ (s.line.tick - x.heardAt).toNat
              then { x with fresh := false } else x)
        ∧ t.cu = s.cu ∧ t.line.tick = s.line.tick))
  ∧ (∀ s : State, s.hasRole .load = true →
      (∀ u ∈ [s.settle, s.settleEdge],
        let n := (u.track.filter fun r => r.cls == classEmpty
            && (u.en.slotA.all fun x => x.landing != some r.id)
            && (u.en.slotB.all fun x => x.landing != some r.id)).length
          + u.en.slotA.toList.length + u.en.slotB.toList.length
        u.bay.want = min (s.boot.prof.wantTarget - n) 15)
      ∧ (s.wantNow ≠ s.bay.want → s.wantStep.bay = { s.bay with want := s.wantNow }
        ∧ (s.boot.mode = .active → s.canQueue = true →
            ((∃ f ∈ s.line.queue, Payload.isWant f.payload = true) ∨ s.line.queue.length ≤ 12) →
            s.wantStep.Sends ⟨0, .want (Fin.ofNat 16 s.wantNow)⟩)
        ∧ (s.boot.mode ≠ .active → s.wantStep.line = s.line))
      ∧ (s.wantNow = s.bay.want → s.wantStep = s)
      ∧ (s.wantNow ≠ s.bay.want → s.boot.mode = .active → s.canQueue = true →
          ((∃ f ∈ s.line.queue, Payload.isWant f.payload = true) ∨ s.line.queue.length ≤ 12) →
          (∃ k, s.settle.Sends ⟨0, .want k⟩) ∧ ∃ k, s.settleEdge.Sends ⟨0, .want k⟩))
  ∧ ((∀ (l : List Steered) (x : Steered), l.length ≤ 8 →
      (addSteered l x).length ≤ 8 ∧ (addSteered l x).getLast? = some x
        ∧ (x.number ≠ notag → ∀ y ∈ addSteered l x, y.number = x.number → y = x)
        ∧ (x.number = notag ∨ (∀ y ∈ l, y.number ≠ x.number) →
            addSteered l x = (if l.length < 8 then l else l.drop 1) ++ [x])
        ∧ (∀ y ∈ l, y.number = x.number → x.number ≠ notag →
            addSteered l x = (l.filter fun z => z.number != x.number) ++ [x]))
    ∧ (∀ (s : State) (b : DownPort) (x : Steered) (l : List Steered), s.Runs → s.steered b = x :: l →
      s.boot.prof.steerExpiry * 100 ≤ (s.line.tick - x.sentAt).toNat →
      exec (.steerExpiry b) s = .next (State.settle (s.setSteered b ((x :: l).dropWhile fun y =>
        decide (s.boot.prof.steerExpiry * 100 ≤ (s.line.tick - y.sentAt).toNat)))))
    ∧ (∀ (s : State) (h : Hdr) (k : RackNo) (st : Station) (b : DownPort), s.Hears h → s.steers = true →
      s.boot.station = some st → s.senderBranch h.src = some b → k ≠ notag →
      (s.steered b).any (fun x => x.number == k) = true →
      ∃ u : State, exec (.rackIn h k st) s = .next u.settle
        ∧ u.steered b = (s.steered b).eraseP (fun x => x.number == k)
        ∧ u.steered (DownPort.other b) = s.steered (DownPort.other b)
        ∧ u.rt.wants = s.rt.wants ∧ u.track = s.track ∧ u.dr = s.dr ∧ u.en = s.en)
    ∧ (∀ (s : State) (h : Hdr) (k : RackNo) (st : Station), s.Hears h → s.steers = true → s.boot.station = some st →
        let v := s.refresh h.src
        let has (b : DownPort) (n : RackNo) : Prop := ∃ x ∈ s.steered b, x.number = n
        let drop (b : DownPort) (n : RackNo) : State := v.setSteered b ((s.steered b).eraseP fun x => x.number == n)
        let unnamed : Prop := k = notag ∨ ∀ b, ¬has b k
        s.senderBranch h.src = (if (s.loaders .d0).contains h.src then some .d0
          else if (s.loaders .d1).contains h.src then some .d1 else none)
        ∧ (∀ b, s.senderBranch h.src = some b → k ≠ notag → ¬has b k → has (DownPort.other b) k →
            exec (.rackIn h k st) s = .next (drop (DownPort.other b) k).settle)
        ∧ (∀ b, s.senderBranch h.src = some b → unnamed → has b notag →
            exec (.rackIn h k st) s = .next (drop b notag).settle)
        ∧ (∀ b, s.senderBranch h.src = some b → unnamed → ¬has b notag → exec (.rackIn h k st) s = .next v.settle)
        ∧ (s.senderBranch h.src = none →
            (k ≠ notag → has .d0 k → exec (.rackIn h k st) s = .next (drop .d0 k).settle)
            ∧ (k ≠ notag → ¬has .d0 k → has .d1 k → exec (.rackIn h k st) s = .next (drop .d1 k).settle)
            ∧ (unnamed → exec (.rackIn h k st) s = .next v.settle)))
    ∧ (∀ (s : State) (h : Hdr) (k : RackNo) (st : Station), s.Hears h →
        (s.steers = false ∨ s.boot.station ≠ some st) →
        exec (.rackIn h k st) s = .next (State.settle (s.refresh h.src))))

/-! ### Bay -/

/-- CLASS_KEY_PRESS and KEY_RELEASE (R124): in ACTIVE, the one class key recognised at a sample becomes the
selected class, two at once leave it; a recognised release only lets the key be pressed again. At LOAD and
UNLOAD a row's KS output is low while that row is sampled and the other three are high, and position n reads
pressed when KR (n mod 4) is low in the row of KS (n / 4). -/
def Obligations.ClassKeysSelectOneClass : Prop :=
  (∀ s : State, s.bayRole = true → ∀ row k : Fin 4, s.ksPin row k = true ↔ k ≠ row)
  ∧ (∀ (p : PinSample) (n : Fin 16),
    PinSample.position p n.val = !(p.matrix.getLsbD n.val)
    ∧ PinSample.position p n.val = !(PinSample.krPin p (n.val / 4) (n.val % 4)))
  ∧ (∀ (s : State) (n : RackClass), s.Runs → s.boot.mode = .active → (s.classKey n).pressDue = true →
    ∃ t, exec (.classKeyPress n) s = .next t
      ∧ ((∀ m, m ≠ n → (s.classKey m).pressDue = false) → t.bay.selected = some n)
      ∧ ((∃ m, m ≠ n ∧ (s.classKey m).pressDue = true) → t.bay.selected = s.bay.selected)
      ∧ (∀ m, (t.classKey m).pressed = if (s.classKey m).pressDue then some true
          else (s.classKey m).pressed)
      ∧ t.track.map Rec.kept = s.track.map Rec.kept ∧ t.cu = s.cu)
  ∧ (∀ (s : State) (n : RackClass), s.Runs → (s.classKey n).releaseDue = true →
    ∃ t, exec (.keyRelease (.cls n)) s = .next t
      ∧ (t.classKey n).pressed = some false ∧ (∀ m, m ≠ n → t.classKey m = s.classKey m)
      ∧ t = { s with bay := t.bay } ∧ t.bay.selected = s.bay.selected)
  ∧ (∀ s : State, s.Runs → s.bay.sendKey.releaseDue = true →
    exec (.keyRelease .send) s = .next { s with bay := { s.bay with
      sendKey := { s.bay.sendKey with pressed := some false } } })
  ∧ (∀ s : State, s.Runs → s.bay.emptyKey.releaseDue = true →
    exec (.keyRelease .empty) s = .next { s with bay := { s.bay with
      emptyKey := { s.bay.emptyKey with pressed := some false } } })

/-- (1) SEND (R124, R127): in ACTIVE, with an AT-BAY record and a selected class other than EMPTY, the record's
class becomes the selected one, MIXED for UNKNOWN, its origin this station at a LOAD, and the selection is NONE;
with no such record or class it is ignored and the selection stays. (2) EMPTY (R124, R128): at an UNLOAD the
AT-BAY record's class becomes EMPTY and it is released; at a LOAD a record of class UNKNOWN becomes EMPTY and is
not released, and any other is left; with none AT-BAY it is ignored. -/
def Obligations.SendAndEmptyKeysSetTheClass : Prop :=
  (∀ s : State, s.Runs → s.boot.mode = .active → s.bay.sendKey.pressDue = true →
      s.bay.emptyKey.pressDue = false →
      ∃ u : State, exec .sendKeyPress s = .next u.settle
        ∧ u.bay.sendKey = { s.bay.sendKey with pressed := some true }
        ∧ (∀ r c, s.atBayRec = some r → s.bay.selected = some c → c ≠ classEmpty →
            u.bay.released = true ∧ u.bay.selected = none
            ∧ ∃ q ∈ u.track, q.id = r.id ∧ q.cls = (if c = classUnknown then classMixed else c)
              ∧ q.origin = (if s.hasRole .load then s.boot.station.getD 0 else r.origin)
              ∧ q.state = .atBay ∧ q.number = r.number ∧ q.flags = r.flags)
        ∧ ((s.atBayRec = none ∨ s.bay.selected = none ∨ s.bay.selected = some classEmpty) →
            u.track = s.track ∧ u.bay.selected = s.bay.selected ∧ u.bay.released = s.bay.released)
        ∧ u.ex = s.ex ∧ u.eyes = s.eyes ∧ u.cu = s.cu)
  ∧ (∀ s : State, s.Runs → s.boot.mode = .active → s.bay.emptyKey.pressDue = true →
      s.bay.sendKey.pressDue = false →
      ∃ u : State, exec .emptyKeyPress s = .next u.settle
        ∧ u.bay.emptyKey = { s.bay.emptyKey with pressed := some true }
        ∧ (∀ r, s.atBayRec = some r → s.hasRole .unload = true →
            u.bay.released = true
            ∧ ∃ q ∈ u.track, q.id = r.id ∧ q.cls = classEmpty ∧ q.origin = r.origin ∧ q.flags = r.flags)
        ∧ (∀ r, s.atBayRec = some r → s.hasRole .unload = false →
            u.bay.released = s.bay.released
            ∧ (r.cls = classUnknown → ∃ q ∈ u.track, q.id = r.id ∧ q.cls = classEmpty ∧ q.state = .atBay)
            ∧ (r.cls ≠ classUnknown → u.track = s.track))
        ∧ (s.atBayRec = none → u.track = s.track ∧ u.bay.released = s.bay.released)
        ∧ u.bay.selected = s.bay.selected ∧ u.ex = s.ex ∧ u.eyes = s.eyes ∧ u.cu = s.cu)

/-- The periodic reports and lamps (R132, R173, R134, R183): at its expiry the WANT timer restarts at 100 ticks
and WANT is queued, the STATUS timer at 50 ticks and STATUS is queued, the call lamp toggles every 50 ticks in
FLASH and the attention lamp every 25. -/
def Obligations.TimersRestartAndLampsToggle : Prop :=
  ∀ s : State, s.Runs →
    (s.bay.wantTimer = some 0 →
      exec .wantTimer s = .next (State.settle (State.queueWant
        { s with bay := { s.bay with wantTimer := some 100 } })))
    ∧ (s.line.statusTimer = some 0 →
      exec .statusTimer s = .next (State.settle (State.queueStatus
        { s with line := { s.line with statusTimer := some 50 } })))
    ∧ (s.bay.lamp.left = some 0 →
      exec .callLampFlash s = .next { s with bay := { s.bay with
        lamp := { s.bay.lamp with high := !s.bay.lamp.high, left := some 50 } } })
    ∧ (s.att.lamp.left = some 0 →
      exec .attentionLampFlash s = .next { s with att := { s.att with
        lamp := { s.att.lamp with high := !s.att.lamp.high, left := some 25 } } })

/-! ### Idle logic -/

/-- (1) PARK_DELAY_EXPIRY (R151, R154): with upstream neighbours connected, the phase is ASKING with a reply
timer of 20 ticks and no reply marked, and DOZE-ASK goes to each; with none, the belt enters PARK at once, and
where an eye has changed it leaves PARK again for SPIN-UP, or at level 3 keeps the wake pending (R68, R157,
R159). (2) DOZE-ASK from a downstream neighbour in ACTIVE (R152): ALLOW when no record that is neither TAKEN nor
LEAVING and has its passage NONE lies within doze reach of the exit and no TAKEN or LEAVING record goes to that
port, and DENY otherwise. From any other station, or outside ACTIVE, it is not answered. TO of 0 is heard here
too (the model's reading, log 20). (3) DOZE-ALLOW, DOZE-DENY and the reply timeout (R153, R154): an ALLOW in
ASKING marks its port, and the last one puts the belt into PARK, or through it into SPIN-UP where an eye has
changed, or at level 3 keeps that wake pending; a DENY, or the timeout, returns to TIMING with the full park
delay. TO of 0 is heard here too (the model's reading, log 20). -/
def Obligations.DozeExchangeParksTheBelt : Prop :=
  (∀ s : State, s.Runs → s.idle.phase = .timing → s.idle.park = some 0 →
      ∃ u : State, exec .parkDelayExpiry s = .next u.settle
        ∧ (s.connectedUp ≠ [] →
            u.idle = { s.idle with phase := .asking, park := none, reply := some 20,
                                   reply0 := .none, reply1 := .none }
            ∧ u.dr = s.dr
            ∧ (s.canQueue = true → s.line.queue.length + 2 ≤ 16 →
                ∀ p ∈ s.connectedUp, u.Sends ⟨s.upStation p, .dozeAsk⟩))
        ∧ (s.connectedUp = [] → s.eyeChanged = false →
            u.dr = { s.dr with belt := .park } ∧ u.idle.phase = .parked
            ∧ u.idle.poll = some s.boot.prof.pollPeriod ∧ u.idle.wakePending = false)
        ∧ (s.connectedUp = [] → s.eyeChanged = true →
            (s.att.level ≠ 3 → u.dr.belt = .spinUp ∧ u.dr.level = s.boot.prof.startLevel
                ∧ u.dr.spinLeft = some s.boot.prof.spinUp ∧ u.idle.phase = .awake ∧ u.idle.poll = none)
            ∧ (s.att.level = 3 → u.dr = { s.dr with belt := .park } ∧ u.idle.phase = .parked
                ∧ u.idle.wakePending = true))
        ∧ u.track = s.track ∧ u.ex = s.ex ∧ u.eyes = s.eyes ∧ u.cu = s.cu)
  ∧ ((∀ (s : State) (h : Hdr) (p : DownPort), s.HearsOpen h → s.boot.mode = .active →
      s.downPortOf h.src = some p →
      let v := s.refresh h.src
      ((∀ r ∈ s.track, (r.handed = false → r.exitPass = .none →
            s.travelOf r + s.boot.cts.doze < s.boot.cts.exit)
          ∧ (r.handed = true → r.exitPort ≠ some p)) →
        exec (.dozeAsk h) s = .next (State.settle (v.sendPrompt h.src .dozeAllow)))
      ∧ ((∃ r ∈ s.track, (r.handed = false ∧ r.exitPass = .none ∧
            s.boot.cts.exit ≤ s.travelOf r + s.boot.cts.doze)
          ∨ (r.handed = true ∧ r.exitPort = some p)) →
        exec (.dozeAsk h) s = .next (State.settle (v.sendPrompt h.src .dozeDeny))))
    ∧ ∀ (s : State) (h : Hdr), s.HearsOpen h → (s.boot.mode ≠ .active ∨ s.downPortOf h.src = none) →
      exec (.dozeAsk h) s = .next (State.settle (s.refresh h.src)))
  ∧ ((∀ (s : State) (h : Hdr) (p : UpPort), s.HearsOpen h → s.upPortOf h.src = some p →
      s.idle.phase = .asking →
      (∃ u : State, exec (.dozeAllow h) s = .next u.settle
        ∧ u.replyMark p = .allow
        ∧ ((∃ q ∈ s.connectedUp, q ≠ p ∧ s.replyMark q ≠ .allow) →
            u.idle.phase = .asking ∧ u.dr = s.dr ∧ u.idle.reply = s.idle.reply)
        ∧ ((∀ q ∈ s.connectedUp, q ≠ p → s.replyMark q = .allow) → s.eyeChanged = false →
            u.idle.phase = .parked ∧ u.dr = { s.dr with belt := .park } ∧ u.idle.reply = none
            ∧ u.idle.poll = some s.boot.prof.pollPeriod)
        ∧ ((∀ q ∈ s.connectedUp, q ≠ p → s.replyMark q = .allow) → s.eyeChanged = true →
            ((s.refresh h.src).att.level ≠ 3 → u.dr.belt = .spinUp ∧ u.idle.phase = .awake)
            ∧ ((s.refresh h.src).att.level = 3 → u.dr = { s.dr with belt := .park } ∧ u.idle.phase = .parked
                ∧ u.idle.wakePending = true))
        ∧ u.track = s.track ∧ u.ex = s.ex ∧ u.eyes = s.eyes)
      ∧ (∃ u : State, exec (.dozeDeny h) s = .next u.settle
        ∧ u.idle.phase = .timing ∧ u.idle.reply = none
        ∧ u.idle.park = some (s.boot.prof.parkDelay * 100)
        ∧ u.dr = s.dr ∧ u.track = s.track ∧ u.ex = s.ex ∧ u.eyes = s.eyes))
    ∧ (∀ s : State, s.Runs → s.idle.phase = .asking → s.idle.reply = some 0 →
      exec .dozeReplyTimeout s = .next (State.settle { s with idle := { s.idle with
        phase := .timing, reply := none, park := some (s.boot.prof.parkDelay * 100) } })))

/-- POLL (R156, R157, R159, R68): in PARK the poll timer restarts; an eye whose pin differs from its channel
state is a wake cause: below level 3 the belt leaves PARK for SPIN-UP at the start level and the phase is AWAKE,
at level 3 the wake is kept pending; with no eye changed the belt stays in PARK. -/
def Obligations.PollWakesTheBelt : Prop :=
  ∀ s : State, s.Runs → s.idle.phase = .parked → s.idle.poll = some 0 →
    ∃ u : State, exec .poll s = .next u.settle
      ∧ ((∀ e, s.fitted e = true → (s.chan e).raw = EyeState.isBlocked (s.chan e).st) →
          u = { s with idle := { s.idle with poll := some s.boot.prof.pollPeriod } })
      ∧ ((∃ e, s.fitted e = true ∧ (s.chan e).raw ≠ EyeState.isBlocked (s.chan e).st) →
          (s.att.level ≠ 3 → u.dr.belt = .spinUp ∧ u.dr.level = s.boot.prof.startLevel
              ∧ u.dr.spinLeft = some s.boot.prof.spinUp ∧ u.idle.phase = .awake ∧ u.idle.poll = none
              ∧ u.idle.wakePending = false)
          ∧ (s.att.level = 3 → u = { s with idle := { s.idle with
              poll := some s.boot.prof.pollPeriod, wakePending := true } }))
      ∧ u.track = s.track ∧ u.eyes = s.eyes ∧ u.ex = s.ex

/-! ### Line -/

/-- Every frame that passes the filter is heard (R168, R171): the neighbour records of its sender are HEARD at
the current tick, whatever its kind and whoever it is for; the others keep their last-heard ticks. A frame that
is not heard changes nothing: one that fails the filter (R168), one in LOADING or at station number 0 (R169),
one that comes while this station sends (R162, R167). That its own sending shuts every frame out is the model's
reading (log 27). -/
def Obligations.EveryHeardFrameRefreshes : Prop :=
  ∀ (c : Instr) (f : RxFrame) (s : State), Frame.ofInstr c = some f →
    (s.Hears f.hdr → ∃ t, exec c s = .next t
      ∧ (∀ p x, s.neigh p = some x → x.station = f.hdr.src →
          ∃ y, t.neigh p = some y ∧ y.station = x.station ∧ y.heard = true
            ∧ y.lastHeard = s.line.tick)
      ∧ (∀ p x, s.neigh p = some x → x.station ≠ f.hdr.src → t.neigh p = some x)
      ∧ t.line.tick = s.line.tick ∧ t.cu = s.cu ∧ t.boot = s.boot)
    ∧ (s.Runs → ¬s.Hears f.hdr → exec c s = .next s)

/-- (1) STATUS keeps the belt state heard, whatever its TO (R171); an ATTENTION and a frame for another station
do nothing more than be heard, when it is of a kind that acts only where it is delivered (R168, R169). (2)
NEIGHBOUR_SILENT (R172, R99): a HEARD record unheard for 200 ticks becomes SILENT, and NEIGHBOUR-SILENT is
PENDING with station × 256 + belt state heard, 7 for none; an upstream port's waiting-offer record is cleared.
-/
def Obligations.StatusAndSilenceOfNeighbours : Prop :=
  ((∀ (s : State) (h : Hdr) (i : StatusInfo), s.Hears h →
      ∃ t, exec (.status h i) s = .next t
        ∧ (∀ p x, s.neigh p = some x → x.station = h.src →
            t.neigh p = some { x with lastHeard := s.line.tick, heard := true, belt := some i.belt })
        ∧ t.track.map Rec.kept = s.track.map Rec.kept)
    ∧ (∀ (s : State) (h : Hdr) (i : AttentionInfo), s.Hears h →
      exec (.attention h i) s = .next (State.settle (s.refresh h.src)))
    ∧ (∀ (s : State) (h : Hdr) (p : Payload), s.Hears h → h.dst ≠ 0 → s.boot.station ≠ some h.dst →
      (∀ i, p ≠ .status i) → (∀ n, p ≠ .want n) → (∀ k st, p ≠ .rackIn k st) →
      exec (.frameForOther h p) s = .next (State.settle (s.refresh h.src))))
  ∧ (∀ (s : State) (p : Port) (x : Neigh), s.Runs → s.boot.mode ≠ .loading → s.neigh p = some x →
      x.heard = true → 200 ≤ (s.line.tick - x.lastHeard).toNat →
      ∃ u : State, exec (.neighbourSilent p) s = .next u.settle
        ∧ u.neigh p = some { x with heard := false } ∧ (∀ q, q ≠ p → u.neigh q = s.neigh q)
        ∧ (u.cause .neighbourSilent).st = .pending ∧ (u.cause .neighbourSilent).present = true
        ∧ (u.cause .neighbourSilent).detail =
            BitVec.ofNat 16 (x.station.val * 256 + (x.belt.map BeltState.code).getD 7)
        ∧ (p = .u0 → u.en = { s.en with noted0 := none }) ∧ (p = .u1 → u.en = { s.en with noted1 := none })
        ∧ ((p = .d0 ∨ p = .d1) → u.en = s.en)
        ∧ u.track = s.track ∧ u.dr = s.dr ∧ u.ex = s.ex ∧ u.eyes = s.eyes ∧ u.cu = s.cu)

/-- (1) FRAME_REJECTED (R167, R168): a run of characters that spells no frame changes nothing, and a run that
spells a frame is that frame received. A run spells a frame only if it begins with the very bytes of that frame,
FROM above 0, all with their stop bits high. So it spells none when it starts with another byte than 0xA5, is
broken by a low stop bit or cut short, has a CHECK that is not the CRC of its body, an unknown KIND, a LEN other
than the kind's, or a TO, FROM or payload field out of its range. That the row carries raw characters, and runs
a frame they spell, is the model's choice (log 19). (2) SEND_START, FRAME_SENT and COLLISION (R162, R163): the
frame in the register begins once the line has been quiet for 240 µs and its back-off; complete, it leaves the
register to the head of the queue; at a collision the attempt count rises and sets the back-off, and the 16th
failed attempt discards the frame with LINE-OVERRUN. That the quiet time is an operand of SEND_START is the
model's choice (log 18). (3) What goes out on ZTX (R161, R162): while a frame is being sent ZDE is high and ZTX
carries its characters back to back: START 0xA5, KIND, TO, FROM this station's number, LEN, the payload, and the
CRC high byte first; each a low start bit, eight data bits with the least significant first, and a high stop
bit. The line rests high after them, and while nothing is sent ZDE is low, no character goes out and the level
of ZTX is open. That the level is open while ZDE is low, and high after the last character, is the model's
choice (log 18). -/
def Obligations.SendingAndBrokenRuns : Prop :=
  ((∀ (s : State) (chars : List RxChar), s.Runs →
      (parseRun chars = none → exec (.frameRejected chars) s = .next s)
      ∧ (∀ f, parseRun chars = some f →
          exec (.frameRejected chars) s = exec (.frameForOther f.hdr f.payload) s
          ∧ f.hdr.src ≠ 0
          ∧ ∃ n, chars.take n = (frameBytes f.hdr.dst f.hdr.src f.payload).map
              fun b => ⟨BitVec.ofNat 8 b, true⟩))
    ∧ (∀ chars : List RxChar,
      ((∀ c cs, chars = c :: cs → c.byte ≠ 0xA5) → parseRun chars = none)
      ∧ ((∃ c ∈ chars.take 7, c.stopOk = false) → parseRun chars = none)
      ∧ (chars.length < 7 → parseRun chars = none))
    ∧ ∀ (kind dst src hi lo : Byte) (payload : List Byte) (rest : List RxChar), payload.length ≤ 24 →
      let run : List RxChar := (0xA5 :: kind :: dst :: src :: BitVec.ofNat 8 payload.length :: payload
        ++ [hi, lo]).map (fun b => ⟨b, true⟩) ++ rest
      let p := payload.map (·.toNat)
      let body := [kind.toNat, dst.toNat, src.toNat, payload.length] ++ p
      ((crc body).toNat ≠ hi.toNat * 256 + lo.toNat → parseRun run = none)
      ∧ ((∀ q, Payload.kind q ≠ kind.toNat) → parseRun run = none)
      ∧ ((∀ q, Payload.kind q = kind.toNat → (Payload.bytes q).length ≠ payload.length) → parseRun run = none)
      ∧ ((∀ q, Payload.kind q = kind.toNat → Payload.bytes q ≠ p) → parseRun run = none)
      ∧ (63 < dst.toNat ∨ 63 < src.toNat ∨ src = 0 → parseRun run = none))
  ∧ (∀ (s : State) (r : SendReg), s.Runs → s.line.reg = some r →
      (∀ q, r.sending = false → 240 + 500 * r.backoff ≤ q →
        exec (.sendStart q) s = .next { s with line := { s.line with reg := some { r with sending := true } } })
      ∧ (∀ q, r.sending = false → q < 240 + 500 * r.backoff → exec (.sendStart q) s = .next s)
      ∧ (r.sending = true →
        (s.line.queue = [] → exec .frameSent s = .next { s with line := { s.line with reg := none } })
        ∧ (∀ f q, s.line.queue = f :: q → exec .frameSent s =
            .next { s with line := { s.line with reg := some ⟨f, 0, 0, false⟩, queue := q } })
        ∧ (r.attempts < 15 → ∀ n, s.boot.station = some n → exec .collision s =
            .next { s with line := { s.line with reg := some { r with
              attempts := r.attempts + 1, sending := false,
              backoff := (n.val + 5 * (r.attempts + 1)) % 16 + 1 } } })
        ∧ (15 ≤ r.attempts → ∃ u : State, exec .collision s = .next u.settle
            ∧ (u.cause .lineOverrun).st = .pending
            ∧ (u.cause .lineOverrun).detail = BitVec.ofNat 16 (Payload.kind r.frame.payload)
            ∧ (∀ f q, s.line.queue = f :: q → u.line.reg = some ⟨f, 0, 0, false⟩)
            ∧ u.track = s.track ∧ u.dr = s.dr ∧ u.ex = s.ex ∧ u.en = s.en)))
  ∧ (∀ (s : State) (n : Station), s.Runs → s.boot.station = some n →
      (∀ r, s.line.reg = some r → r.sending = true →
        let p := Payload.bytes r.frame.payload
        let body := [Payload.kind r.frame.payload, r.frame.dst.val, n.val, p.length] ++ p
        s.zdePin = true
          ∧ s.ztxChars = [0xA5] ++ body ++ [(crc body).toNat / 256, (crc body).toNat % 256]
          ∧ (∀ k b, s.ztxChars[k]? = some b →
              s.ztxPin (10 * k) = false ∧ (∀ j < 8, s.ztxPin (10 * k + 1 + j) = b.testBit j)
                ∧ s.ztxPin (10 * k + 9) = true)
          ∧ ∀ i, 10 * s.ztxChars.length ≤ i → s.ztxPin i = true)
      ∧ ((∀ r, s.line.reg = some r → r.sending = false) →
          s.zdePin = false ∧ s.ztxChars = [] ∧ ∀ i, s.ztxPin i = Config.openZtx i))

/-- A frame offered to the queue (R164, R165, R166): a PROMPT frame goes to the rear of the PROMPT frames when
an entry is free, and is discarded with LINE-OVERRUN otherwise; a ROUTINE frame goes to the rear with four
entries free, and is dropped otherwise; a STATUS or WANT takes the place of the one that waits. The register
takes the head only when it is empty (R162), and then at once: with no frame waiting, the frame offered goes to
the register itself, no attempt made and no back-off. -/
def Obligations.QueueAdmitsByClass : Prop :=
  ∀ (s : State) (d : Station) (p : Payload), s.canQueue = true →
    (s.line.reg ≠ none →
      (s.line.queue.length < 16 →
        (s.sendPrompt d p).line.queue =
          s.line.queue.filter (fun g => Payload.prompt g.payload) ++ [⟨d, p⟩]
            ++ s.line.queue.filter (fun g => !Payload.prompt g.payload)
        ∧ s.sendPrompt d p = { s with line := (s.sendPrompt d p).line }
        ∧ (s.sendPrompt d p).line.reg = s.line.reg)
      ∧ (16 ≤ s.line.queue.length → s.sendPrompt d p = s.raise .lineOverrun (Payload.kind p))
      ∧ (s.line.queue.length ≤ 12 →
          s.offerRoutine ⟨d, p⟩ = { s with line := { s.line with queue := s.line.queue ++ [⟨d, p⟩] } })
      ∧ (12 < s.line.queue.length → s.offerRoutine ⟨d, p⟩ = s)
      ∧ ((s.line.queue.any fun g => Payload.isStatus g.payload) = true →
          let q := s.line.queue.map fun g =>
            if Payload.isStatus g.payload then ⟨0, .status s.statusInfo⟩ else g
          s.queueStatus = { s with line := { s.line with queue := q } })
      ∧ ((s.line.queue.any fun g => Payload.isWant g.payload) = true →
          let q := s.line.queue.map fun g =>
            if Payload.isWant g.payload then ⟨0, .want (Fin.ofNat 16 s.bay.want)⟩ else g
          s.queueWant = { s with line := { s.line with queue := q } }))
    ∧ (s.line.reg = none →
      let takes (x : Frame) (q : List Frame) : State :=
        { s with line := { s.line with reg := some ⟨x, 0, 0, false⟩, queue := q } }
      (s.line.queue = [] →
        s.sendPrompt d p = takes ⟨d, p⟩ [] ∧ s.offerRoutine ⟨d, p⟩ = takes ⟨d, p⟩ []
          ∧ s.queueStatus = takes ⟨0, .status s.statusInfo⟩ []
          ∧ s.queueWant = takes ⟨0, .want (Fin.ofNat 16 s.bay.want)⟩ [])
      ∧ (s.line.queue.length < 16 → ∀ x q,
          s.line.queue.filter (fun g => Payload.prompt g.payload) ++ [⟨d, p⟩]
            ++ s.line.queue.filter (fun g => !Payload.prompt g.payload) = x :: q →
          s.sendPrompt d p = takes x q)
      ∧ (16 ≤ s.line.queue.length → s.sendPrompt d p = s.raise .lineOverrun (Payload.kind p))
      ∧ (s.line.queue.length ≤ 12 → ∀ x q, s.line.queue ++ [⟨d, p⟩] = x :: q → s.offerRoutine ⟨d, p⟩ = takes x q)
      ∧ (12 < s.line.queue.length → s.offerRoutine ⟨d, p⟩ = s)
      ∧ (∀ x q, (s.line.queue.any fun g => Payload.isStatus g.payload) = true →
          s.line.queue.map (fun g => if Payload.isStatus g.payload then ⟨0, .status s.statusInfo⟩ else g) = x :: q →
          s.queueStatus = takes x q)
      ∧ (∀ x q, (s.line.queue.any fun g => Payload.isWant g.payload) = true →
          s.line.queue.map (fun g =>
            if Payload.isWant g.payload then ⟨0, .want (Fin.ofNat 16 s.bay.want)⟩ else g) = x :: q →
          s.queueWant = takes x q))

/-- The bytes of a frame on the line spell that frame back (R161, R167, R168): for every header with FROM 1 to
63 and every payload within the ranges of the frame kinds table, the run of its characters, all with their stop
bits high, parses to exactly that frame. -/
def Obligations.FrameBytesParseBack : Prop :=
  ∀ (h : Hdr) (p : Payload), h.src ≠ 0 → (∀ i, p = .status i → i.mode ≠ .loading) →
    parseRun ((frameBytes h.dst h.src p).map fun b => ⟨BitVec.ofNat 8 b, true⟩) = some ⟨h, p⟩

/-! ### Attention -/

/-- Raising a cause (R174, R175, R182): from ABSENT it is PENDING with repeat count 0 and the detail, and the
level is the highest severity among the causes not ABSENT; otherwise it is PENDING, the repeat count goes up to
at most 255 and the detail is replaced, and the level stays. The other causes stay. A raise from ABSENT queues
one ATTENTION to all stations, where the report mask is yes, the station may queue, and four entries are free:
with the cause, its severity, the detail, repeat count 0, reply flag 0 and the pending count after the raise.
But for a STATUS of the level it queues no other frame, and where the station may not queue, none. The highest
severity is that of some cause that is not ABSENT, none is above it, and with every cause ABSENT it is 0. -/
def Obligations.RaiseMakesTheCausePending : Prop :=
  (∀ v : State, ((∀ k, (v.cause k).st = .absent) → v.levelNow = 0)
    ∧ ((∃ k, (v.cause k).st ≠ .absent) → ∃ k, (v.cause k).st ≠ .absent ∧ v.severity k = v.levelNow)
    ∧ (∀ k, (v.cause k).st ≠ .absent → v.severity k ≤ v.levelNow))
  ∧ (∀ (s : State) (c : Cause) (d : Nat), (s.cause c).st = .absent →
      let u := s.raise c d
      let report : Frame := ⟨0, .attention
        { cause := some c, severity := s.severity c, detail := BitVec.ofNat 16 d, repeats := 0, reply := false
          pendingCount := u.pendingCount }⟩
      s.reportMask c = (!s.boot.loaded || s.boot.prof.masks.getD (Cause.code c) true)
      ∧ (s.reportMask c = true → s.canQueue = true → s.line.queue.length ≤ 12 → u.Sends report)
      ∧ (∀ f, u.Sends f → Payload.isStatus f.payload = true ∨ s.Sends f ∨ (s.reportMask c = true ∧ f = report))
      ∧ (12 < s.line.queue.length → ∀ f, u.Sends f → Payload.isStatus f.payload = true ∨ s.Sends f)
      ∧ (s.canQueue = false → u.line = s.line))
  ∧ ∀ (s : State) (c : Cause) (d : Nat),
    ((s.raise c d).cause c).st = .pending
      ∧ ((s.raise c d).cause c).detail = BitVec.ofNat 16 d
      ∧ ((s.raise c d).cause c).present = (s.cause c).present
      ∧ (∀ k, k ≠ c → (s.raise c d).cause k = s.cause k)
      ∧ ((s.cause c).st = .absent → ((s.raise c d).cause c).repeats = 0
          ∧ (s.raise c d).att.level = (s.raise c d).levelNow)
      ∧ ((s.cause c).st ≠ .absent →
          ((s.raise c d).cause c).repeats.val = min ((s.cause c).repeats.val + 1) 255
          ∧ (s.raise c d).att.level = s.att.level ∧ (s.raise c d).line = s.line)
      ∧ (∀ k, ((s.raise c d).cause k).st ≠ .absent → (s.raise c d).severity k ≤ (s.raise c d).levelNow)
      ∧ (s.raise c d).track = s.track ∧ (s.raise c d).dr = s.dr ∧ (s.raise c d).ex = s.ex
      ∧ (s.raise c d).en = s.en ∧ (s.raise c d).boot = s.boot

/-- ASK (R177): in SCANNING, ACTIVE and UNSET the answer goes to the asker with the reply flag, naming the
highest-ranked cause that is not ABSENT with its severity, detail, repeat count and the pending count; cause 255
and zeros with none. An ASK to all stations is not answered. -/
def Obligations.AskNamesTheTopCause : Prop :=
  (∀ (s : State) (h : Hdr), s.HearsAlone h →
    let v := s.refresh h.src
    exec (.ask h) s = .next (State.settle (v.sendPrompt h.src (.attention v.askAnswer)))
      ∧ v.askAnswer.reply = true
      ∧ ((∀ c, (v.cause c).st = .absent) →
          v.askAnswer = { cause := none, severity := 0, detail := 0, repeats := 0, reply := true,
                          pendingCount := 0 })
      ∧ (∀ c, (v.cause c).st ≠ .absent →
          ∃ k, v.askAnswer.cause = some k ∧ (v.cause k).st ≠ .absent ∧ v.severity c ≤ v.severity k
            ∧ (v.severity c = v.severity k → Cause.code k ≤ Cause.code c)
            ∧ v.askAnswer.severity = v.severity k ∧ v.askAnswer.detail = (v.cause k).detail
            ∧ v.askAnswer.repeats = (v.cause k).repeats ∧ v.askAnswer.pendingCount = v.pendingCount))
  ∧ ∀ (s : State) (h : Hdr), s.Hears h → h.dst = 0 →
    exec (.ask h) s = .next (State.settle (s.refresh h.src))

/-- ACK (R178, R180, R181): from a panel in ACTIVE, or by a press of the ACK key of fewer than 300 ticks, it
acts on the highest-ranked PENDING cause, which is PENDING-ACK when it is standing and its condition present,
and ABSENT otherwise; the other causes stay. An ABSENT LOST-RACK clears the plain-loss marker, an ABSENT
BELT-OVERLOAD ends FAIL-SLOW and an ABSENT BELT-OVERRUN FAIL-FAST (R179), and the level follows a change to
ABSENT (R182). With no cause PENDING nothing changes. From any other station it is ignored. -/
def Obligations.AckActsOnTheTopPendingCause : Prop :=
  (∀ v : State,
    ((∀ c, (v.cause c).st ≠ .pending) → v.ackTop = v)
      ∧ (∀ k, (v.cause k).st = .pending →
          (∀ c, (v.cause c).st = .pending → v.severity c < v.severity k
            ∨ v.severity c = v.severity k ∧ Cause.code k ≤ Cause.code c) →
          (v.ackTop.cause k).st = (if Cause.standing k = true ∧ (v.cause k).present = true then .pendingAck
            else .absent)
          ∧ (∀ c, c ≠ k → v.ackTop.cause c = v.cause c)
          ∧ v.ackTop.ex = { v.ex with plainLoss := v.ex.plainLoss && k != .lostRack }
          ∧ v.ackTop.dr = { v.dr with lock :=
              if k = .beltOverload ∧ v.dr.lock = .failSlow ∨ k = .beltOverrun ∧ v.dr.lock = .failFast
              then .unlocked else v.dr.lock }
          ∧ ((v.ackTop.cause k).st = .absent → v.ackTop.att.level = v.ackTop.levelNow)
          ∧ ((v.ackTop.cause k).st ≠ .absent → v.ackTop.att.level = v.att.level))
      ∧ v.ackTop.track = v.track ∧ v.ackTop.eyes = v.eyes ∧ v.ackTop.en = v.en ∧ v.ackTop.cu = v.cu)
  ∧ (∀ (s : State) (h : Hdr), s.HearsAlone h →
    exec (.ack h) s = .next (State.settle (if s.obeys h.src then (s.refresh h.src).ackTop
      else s.refresh h.src)))
  ∧ ∀ (s : State) (k : AckHold), s.Runs → s.bay.ackKey.releaseDue = true → s.bay.ackHold = some k →
    k.ticks < 300 →
    let v := { s with bay := { s.bay with
      ackKey := { s.bay.ackKey with pressed := some false }, ackHold := none } }
    exec .ackKeyRelease s = .next v.ackTop.settle

/-- (1) CLEAR from a panel in ACTIVE, and the ACK key held to 300 ticks (R180, R181, R182): every latched cause
and every standing one whose condition has ended is ABSENT, the others stay, and the level is the highest
severity left. A LOST-RACK that becomes ABSENT clears the plain-loss marker, and a BELT-OVERLOAD or BELT-OVERRUN
that does ends its FAIL-SLOW or FAIL-FAST (R179). From any other station CLEAR is ignored. (2) The ACK key
(R124, R157, R181): a press recognised in ACTIVE starts the time of the hold at 0 and is a wake cause; the
release of a press that has acted as CLEAR, and as FLUSH from 800 ticks, is nothing more. -/
def Obligations.ClearAndTheAckKey : Prop :=
  (
    let cleared (v u : State) : Prop :=
      (∀ c, (u.cause c).st = if Cause.standing c = true ∧ (v.cause c).present = true then (v.cause c).st
          else .absent)
      ∧ (∀ c, (u.cause c).present = (v.cause c).present ∧ (u.cause c).repeats = (v.cause c).repeats
          ∧ (u.cause c).detail = (v.cause c).detail)
      ∧ u.att.level = u.levelNow
      ∧ u.ex = { v.ex with plainLoss := v.ex.plainLoss && (v.cause .lostRack).st == .absent }
      ∧ u.dr = { v.dr with lock :=
          if (v.cause .beltOverload).st ≠ .absent ∧ v.dr.lock = .failSlow
              ∨ (v.cause .beltOverrun).st ≠ .absent ∧ v.dr.lock = .failFast
          then .unlocked else v.dr.lock }
      ∧ u.track = v.track ∧ u.eyes = v.eyes ∧ u.en = v.en ∧ u.marks = v.marks ∧ u.gate = v.gate
    (∀ (s : State) (h : Hdr), s.HearsAlone h →
      let v := s.refresh h.src
      (s.obeys h.src = false → exec (.clear h) s = .next v.settle)
      ∧ (s.obeys h.src = true → ∃ u : State, exec (.clear h) s = .next u.settle ∧ cleared v u))
    ∧ (∀ (s : State) (k : AckHold), s.Runs → s.bay.ackHold = some k → k.clearDone = false → 300 ≤ k.ticks →
      ∃ u : State, exec .ackKeyHoldClear s = .next u.settle ∧ cleared s u
        ∧ u.bay = { s.bay with ackHold := some { k with clearDone := true } }))
  ∧ ((∀ s : State, s.Runs → s.bay.ackKey.pressDue = true → s.boot.mode = .active →
      exec .ackKeyPress s = .next (State.settle (State.wake { s with bay := { s.bay with
        ackKey := { s.bay.ackKey with pressed := some true }, ackHold := some ⟨0, false, false⟩ } })))
    ∧ (∀ (s : State) (k : AckHold), s.Runs → s.bay.ackKey.releaseDue = true → s.bay.ackHold = some k →
      let v := { s with bay := { s.bay with
        ackKey := { s.bay.ackKey with pressed := some false }, ackHold := none } }
      300 ≤ k.ticks → k.clearDone = true → (k.flushDone = true ∨ k.ticks < 800) →
        exec .ackKeyRelease s = .next v.settle))

/-- FLUSH from a panel in ACTIVE, and the ACK key held to 800 ticks at level 3 with its CLEAR done (R180, R181,
R61, R83, R95, R82, R24, R35, R114, R160): before the scan the track is empty; slots, offers, logs, stall marks,
lists, captures, lost list and rack route are gone; serials are 0; the marks that are not ABSENT are DISARMED
(R17); the belt is in HOLD at level 0, entered from no regulated state, its tick count 0 and no spin-up time
left. The channels keep all but RECEDED, RETURNED and their lists; the belt count, the gate position, M16 and
the reported speed stay. Every cause, its counts and its condition mark stay as they are, the level and the lamp
too (R174, R182). That BELT-UNSTEADY does so as well where the belt leaves RUN, and loses its condition only
when time or the belt goes on, is the model's choice (log 34). The frames on their way stay, but for a STATUS of
the move to HOLD (R173), which shows a track count of 0 (the model's choice, log 33). The scan then refills the
track. -/
def Obligations.FlushEmptiesAndRescans : Prop :=
  (∀ (s : State) (h : Hdr), s.HearsAlone h →
    exec (.flush h) s = .next (State.settle (if s.obeys h.src then (s.refresh h.src).flushAll
      else s.refresh h.src)))
  ∧ (∀ (s : State) (k : AckHold), s.Runs → s.bay.ackHold = some k → k.clearDone = true →
    k.flushDone = false → 800 ≤ k.ticks →
    let v := { s with bay := { s.bay with ackHold := some { k with flushDone := true } } }
    exec .ackKeyHoldFlush s = .next (State.settle (if s.att.level = 3 then v.flushAll else v)))
  ∧ (∀ v : State,
    ∃ w : State, v.flushAll = w.scan
      ∧ w.track = [] ∧ w.marks.owner = none
      ∧ (∀ m ∈ [MarkGroup.offer, MarkGroup.approach, MarkGroup.stop, MarkGroup.gateClear],
          (m w.marks).pos = (m v.marks).pos
            ∧ (m w.marks).st = if (m v.marks).st = .absent then .absent else .disarmed)
      ∧ w.ex = { plainLoss := (v.cause .lostRack).st != .absent }
      ∧ w.en = {}
      ∧ w.dr.belt = .hold ∧ w.dr.level = 0 ∧ w.dr.resume = 0 ∧ w.dr.lock = .unlocked ∧ w.dr.history = []
      ∧ w.dr.satHigh = 0 ∧ w.dr.satLow = 0 ∧ w.dr.inBand = 0 ∧ w.dr.outBand = 0 ∧ w.dr.unsteady = 0
      ∧ w.dr.holdFrom = none ∧ w.dr.holdTicks = 0 ∧ w.dr.spinLeft = none
      ∧ w.dr.span0 = .free ∧ w.dr.span1 = .free ∧ w.dr.m16 = v.dr.m16 ∧ w.dr.vmeas = v.dr.vmeas
      ∧ w.dr.winLeft = v.dr.winLeft ∧ w.dr.winEdges = v.dr.winEdges
      ∧ (∀ e, w.chan e = { v.chan e with
          awaited := []
          missed := []
          st := match (v.chan e).st with
            | .clear => .clear
            | .blocked => .blocked
            | .receded => .clear
            | .returned => .blocked })
      ∧ w.eyes.lead = none ∧ w.eyes.leadFresh = false ∧ w.eyes.trail = none ∧ w.eyes.trailFresh = false
      ∧ w.tag = { v.tag with owner := none, st := if v.tag.st = .reading then .draining else v.tag.st }
      ∧ w.gate = { v.gate with rackRoute := none, held := none }
      ∧ w.bay = { v.bay with selected := none, released := false }
      ∧ w.idle = { v.idle with phase := .awake, park := none, reply := none, poll := none, wakePending := false }
      ∧ w.att = v.att
      ∧ w.line = { v.line with queue := w.line.queue, reg := w.line.reg }
      ∧ (v.dr.belt = .hold → w.line = v.line)
      ∧ (∀ f, Payload.isStatus f.payload = false → (w.Sends f ↔ v.Sends f))
      ∧ (v.line.reg ≠ none → w.line.reg = v.line.reg
          ∧ (w.line.queue.filter fun f => !Payload.isStatus f.payload)
              = v.line.queue.filter fun f => !Payload.isStatus f.payload)
      ∧ (v.dr.belt ≠ .hold → v.canQueue = true → (v.line.reg = none → v.line.queue = []) →
          ((∃ f ∈ v.line.queue, Payload.isStatus f.payload = true) ∨ v.line.queue.length ≤ 12) →
          ∃ i : StatusInfo, w.Sends ⟨0, .status i⟩ ∧ i.belt = .hold ∧ i.trackCount = 0)
      ∧ w.cu = v.cu ∧ w.rt = v.rt ∧ w.boot = v.boot)

/-- The stop chain (R176, R179): a sample that reads low raises E-STOP with detail 0, its condition present;
three consecutive samples that read high end the condition, which makes a PENDING-ACK E-STOP ABSENT and leaves a
PENDING one PENDING. -/
def Obligations.StopChainOpensAndCloses : Prop :=
  (∀ s : State, s.Runs → s.att.estopHigh = false → (s.cause .estop).present = false →
    ∃ t, exec .estopOpen s = .next t ∧ (t.cause .estop).st = .pending
      ∧ (t.cause .estop).present = true ∧ (t.cause .estop).detail = 0
      ∧ t.cu = s.cu ∧ t.track.map Rec.kept = s.track.map Rec.kept)
  ∧ (∀ s : State, s.Runs → s.att.estopRun = 3 → (s.cause .estop).present = true →
    ∃ t, exec .estopClose s = .next t ∧ (t.cause .estop).present = false
      ∧ (t.cause .estop).st = (if (s.cause .estop).st = .pendingAck then .absent else (s.cause .estop).st)
      ∧ t.cu = s.cu ∧ t.track.map Rec.kept = s.track.map Rec.kept)

/-! ### The derived actions of a step -/

/-- What the derived actions of a step cannot write (95; log 10): the loader, the count, the tag port, the queue
of commands, the channels but for their unaccounted-from counts, the captures, the identity and place of every
record, M16 and the reported speed, the logs, the heard wants, the keys and the selection, the neighbour records
and the tick, and every cause but LINE-OVERRUN, MISROUTE and BELT-UNSTEADY. -/
def Obligations.DerivedActionsKeepTheRest : Prop :=
  ∀ s : State, s.settle.kept = s.kept ∧ s.settleEdge.kept = s.kept

/-- The derived actions send frames and lose none (R164, R166): a frame on its way out that is no STATUS and no
WANT stays on its way; a cause that is PENDING stays PENDING; a released record stays as it is. (The order of
the derived actions is the model's choice, log 10.) -/
def Obligations.DerivedActionsLoseNothing : Prop :=
  ∀ s : State,
    (∀ f, Payload.isStatus f.payload = false → Payload.isWant f.payload = false → s.Sends f →
      s.settle.Sends f ∧ s.settleEdge.Sends f)
    ∧ (∀ c, (s.cause c).st = .pending →
        (s.settle.cause c).st = .pending ∧ (s.settleEdge.cause c).st = .pending)
    ∧ (s.NamesSound → ∀ r ∈ s.track, r.handed = true → r ∈ s.settle.track ∧ r ∈ s.settleEdge.track)

/-- (1) After every derived round, of a command and of a belt edge, a span word with nothing going to its port
is FREE, at level 3 the belt is in HOLD or PARK and no head is OFFERED, the attention lamp is in the state the
causes give, and where the head owned the mark group before it the head then owns it (R12, R62, R69, R89, R183).
(The order of the derived actions is the model's choice, log 10.) (2) After every derived round the call lamp is
in the first matching state of R134's table, evaluated on the track, the released mark and the want as they then
stand: FLASH at an UNLOAD for an unreleased AT-BAY record that is MISROUTED, STEADY for another unreleased one,
FLASH at a LOAD with none AT-BAY and all of a want target above 0 wanted, and otherwise, as in any other mode or
role, OFF. OFF is low and STEADY is high; a lamp already in FLASH keeps its phase, and one that enters FLASH is
high for a first 50 ticks, also where the event ended a FLASH and the derived actions begin another. (That the
lamp is evaluated at the end of the step is the model's choice, log 10.) -/
def Obligations.DerivedActionsBringTheBlocksTogether : Prop :=
  (∀ s : State,
      ∀ t, t = s.settle ∨ t = s.settleEdge →
        (t.att.level = 3 → t.dr.belt = .hold ∨ t.dr.belt = .park)
        ∧ (t.att.level = 3 → ∀ r, t.head = some r → r.state ≠ .offered)
        ∧ (∀ p, t.handing p = false → s.handing p = false → t.span p = .free)
        ∧ t.att.lamp.st = t.attState
        ∧ (s.HeadSound → t.HeadSound))
  ∧ ((∀ s t : State, t = s.settle ∨ t = s.settleEdge →
      let bay := t.boot.mode = .active ∧ (t.hasRole .load = true ∨ t.hasRole .unload = true)
      let first := t.track.find? fun r => r.state == .atBay
      (¬ bay → t.bay.lamp.st = .off)
      ∧ (bay → ∀ r, first = some r → t.bay.released = false →
          t.bay.lamp.st = if t.hasRole .unload = true ∧ r.flags.misrouted = true then .flash else .steady)
      ∧ (bay → ∀ r, first = some r → t.bay.released = true → t.bay.lamp.st = .off)
      ∧ (bay → first = none → t.bay.lamp.st =
          if t.hasRole .load = true ∧ 0 < t.boot.prof.wantTarget ∧ t.bay.want = t.boot.prof.wantTarget then .flash
          else .off)
      ∧ (t.bay.lamp.st = .off → t.lcallPin = false)
      ∧ (t.bay.lamp.st = .steady → t.boot.resetHeld = false → t.lcallPin = true)
      ∧ (s.wantStep.callState ≠ .flash → t.bay.lamp.st = .flash →
          t.bay.lamp.high = true ∧ t.bay.lamp.left = some 50))
    ∧ (∀ s : State, s.callLampStep.bay.lamp =
        if s.callState = .flash then
          if s.bay.lamp.st = .flash then s.bay.lamp else { st := .flash, high := true, left := some 50 }
        else { st := s.callState, high := decide (s.callState = .steady), left := none }))

/-! ### Invariants -/

/-- Every step keeps the attention lamp in agreement with the causes (R183). -/
def Obligations.StepKeepsLampSound : Prop :=
  ∀ s t : State, s.LampSound → step s = .next t → t.LampSound

/-- Every step keeps the drive level within 0 to 1023, 0 in HOLD and PARK, and the belt in HOLD or PARK at level
3 (R62). -/
def Obligations.StepKeepsDriveSound : Prop :=
  ∀ s t : State, s.DriveSound → step s = .next t → t.DriveSound

/-- Every step keeps the send queue within its bounds and its order (R162, R164). -/
def Obligations.StepKeepsLineSound : Prop :=
  ∀ s t : State, s.LineSound → step s = .next t → t.LineSound

/-- Every step keeps the track within the track limit (R36, R37). -/
def Obligations.StepKeepsTrackSound : Prop :=
  ∀ s t : State, s.TrackSound → step s = .next t → t.TrackSound

/-- (1) Every step keeps the rack numbers of the track different (R42). (The names of the records are the
model's own, log 9.) (2) Every step keeps the mark group with the head: where a head is, it owns the group (R12,
R38). -/
def Obligations.StepKeepsNumbersSound : Prop :=
  (∀ s t : State, s.NumbersSound → step s = .next t → t.NumbersSound)
  ∧ (∀ s t : State, s.HeadSound → step s = .next t → t.HeadSound)

/-- The state that power-on reset leaves meets every invariant. (The reset state is RESET held low, the model's
choice, log 4.) -/
def Obligations.ResetMeetsTheInvariants : Prop :=
  State.reset.LampSound ∧ State.reset.DriveSound ∧ State.reset.LineSound ∧ State.reset.TrackSound
    ∧ State.reset.NumbersSound ∧ State.reset.HeadSound ∧ State.reset.pending = []
end

