-- ==== Sys2Proof/Laws/Blocks.lean ====
section
/-! SUPPORT. Which blocks of the state an operation can write: one lemma per shared operation. `s.get b` is
block b of s, and `(op s).get b = s.get b` for every block b that op leaves alone. -/

namespace Sys2Proof.Machine

/-- The blocks of the state. -/
inductive Block where
  | boot | cu | marks | eyes | tag | track | nextId | dr | ex | en | gate | rt | bay | idle | line | att
  | found | pending
  deriving DecidableEq, Repr

/-- What a block holds. -/
abbrev Block.Val : Block → Type
  | .boot => Boot
  | .cu => CountUnit
  | .marks => MarkGroup
  | .eyes => Eyes
  | .tag => TagPort
  | .track => List Rec
  | .nextId => Nat
  | .dr => Drive
  | .ex => ExitSide
  | .en => EntrySide
  | .gate => Gate
  | .rt => RouteUnit
  | .bay => Bay
  | .idle => Idle
  | .line => Line
  | .att => Attention
  | .found => List BeltTest
  | .pending => List Instr

/-- A block of a state. -/
def State.get (s : State) : (b : Block) → b.Val
  | .boot => s.boot
  | .cu => s.cu
  | .marks => s.marks
  | .eyes => s.eyes
  | .tag => s.tag
  | .track => s.track
  | .nextId => s.nextId
  | .dr => s.dr
  | .ex => s.ex
  | .en => s.en
  | .gate => s.gate
  | .rt => s.rt
  | .bay => s.bay
  | .idle => s.idle
  | .line => s.line
  | .att => s.att
  | .found => s.found
  | .pending => s.pending

variable {b : Block} (s : State)

/-! ### One block replaced -/

@[simp] theorem State.get_marks (x : MarkGroup) (h : b ≠ .marks) :
    State.get { s with marks := x } b = s.get b := by cases b <;> first | rfl | exact absurd rfl h
@[simp] theorem State.get_eyes (x : Eyes) (h : b ≠ .eyes) :
    State.get { s with eyes := x } b = s.get b := by cases b <;> first | rfl | exact absurd rfl h
@[simp] theorem State.get_tag (x : TagPort) (h : b ≠ .tag) :
    State.get { s with tag := x } b = s.get b := by cases b <;> first | rfl | exact absurd rfl h
@[simp] theorem State.get_track (x : List Rec) (h : b ≠ .track) :
    State.get { s with track := x } b = s.get b := by cases b <;> first | rfl | exact absurd rfl h
@[simp] theorem State.get_dr (x : Drive) (h : b ≠ .dr) :
    State.get { s with dr := x } b = s.get b := by cases b <;> first | rfl | exact absurd rfl h
@[simp] theorem State.get_ex (x : ExitSide) (h : b ≠ .ex) :
    State.get { s with ex := x } b = s.get b := by cases b <;> first | rfl | exact absurd rfl h
@[simp] theorem State.get_en (x : EntrySide) (h : b ≠ .en) :
    State.get { s with en := x } b = s.get b := by cases b <;> first | rfl | exact absurd rfl h
@[simp] theorem State.get_gate (x : Gate) (h : b ≠ .gate) :
    State.get { s with gate := x } b = s.get b := by cases b <;> first | rfl | exact absurd rfl h
@[simp] theorem State.get_rt (x : RouteUnit) (h : b ≠ .rt) :
    State.get { s with rt := x } b = s.get b := by cases b <;> first | rfl | exact absurd rfl h
@[simp] theorem State.get_bay (x : Bay) (h : b ≠ .bay) :
    State.get { s with bay := x } b = s.get b := by cases b <;> first | rfl | exact absurd rfl h
@[simp] theorem State.get_idle (x : Idle) (h : b ≠ .idle) :
    State.get { s with idle := x } b = s.get b := by cases b <;> first | rfl | exact absurd rfl h
@[simp] theorem State.get_line (x : Line) (h : b ≠ .line) :
    State.get { s with line := x } b = s.get b := by cases b <;> first | rfl | exact absurd rfl h
@[simp] theorem State.get_att (x : Attention) (h : b ≠ .att) :
    State.get { s with att := x } b = s.get b := by cases b <;> first | rfl | exact absurd rfl h
@[simp] theorem State.get_track_nextId (x : List Rec) (n : Nat) (h : b ≠ .track) (h' : b ≠ .nextId) :
    State.get { s with track := x, nextId := n } b = s.get b := by
  cases b <;> first | rfl | exact absurd rfl h | exact absurd rfl h'

/-! ### Access -/

@[simp] theorem State.get_setChan (e : Eye) (c : EyeChan) (h : b ≠ .eyes) :
    (s.setChan e c).get b = s.get b := by cases e <;> simp [State.setChan, h]
@[simp] theorem State.get_updChan (e : Eye) (f : EyeChan → EyeChan) (h : b ≠ .eyes) :
    (s.updChan e f).get b = s.get b := by simp [State.updChan, h]
@[simp] theorem State.get_updChans (f : EyeChan → EyeChan) (h : b ≠ .eyes) :
    (s.updChans f).get b = s.get b := by simp [State.updChans, h]
@[simp] theorem State.get_setCause (c : Cause) (e : CauseEntry) (h : b ≠ .att) :
    (s.setCause c e).get b = s.get b := by simp [State.setCause, h]
@[simp] theorem State.get_setNeigh (p : Port) (n : Option Neigh) (h : b ≠ .line) :
    (s.setNeigh p n).get b = s.get b := by cases p <;> simp [State.setNeigh, h]
@[simp] theorem State.get_updNeighs (f : Neigh → Neigh) (h : b ≠ .line) :
    (s.updNeighs f).get b = s.get b := by simp [State.updNeighs, h]
@[simp] theorem State.get_bumpSerial (p : DownPort) (h : b ≠ .ex) :
    (s.bumpSerial p).get b = s.get b := by cases p <;> simp [State.bumpSerial, h]
@[simp] theorem State.get_setSpan (p : DownPort) (w : SpanWord) (h : b ≠ .dr) :
    (s.setSpan p w).get b = s.get b := by cases p <;> simp [State.setSpan, h]
@[simp] theorem State.get_setSlot (n : SlotName) (x : Option Slot) (h : b ≠ .en) :
    (s.setSlot n x).get b = s.get b := by cases n <;> simp [State.setSlot, h]
@[simp] theorem State.get_setNoted (p : UpPort) (x : Option Noted) (h : b ≠ .en) :
    (s.setNoted p x).get b = s.get b := by cases p <;> simp [State.setNoted, h]
@[simp] theorem State.get_setLandLog (p : UpPort) (x : List LandLog) (h : b ≠ .en) :
    (s.setLandLog p x).get b = s.get b := by cases p <;> simp [State.setLandLog, h]
@[simp] theorem State.get_setStallMark (p : UpPort) (x : Bool) (h : b ≠ .en) :
    (s.setStallMark p x).get b = s.get b := by cases p <;> simp [State.setStallMark, h]
@[simp] theorem State.get_setSteered (p : DownPort) (x : List Steered) (h : b ≠ .rt) :
    (s.setSteered p x).get b = s.get b := by cases p <;> simp [State.setSteered, h]
@[simp] theorem State.get_setReply (p : UpPort) (m : ReplyMark) (h : b ≠ .idle) :
    (s.setReply p m).get b = s.get b := by cases p <;> simp [State.setReply, h]
@[simp] theorem State.get_updRec (i : Nat) (f : Rec → Rec) (h : b ≠ .track) :
    (s.updRec i f).get b = s.get b := by simp [State.updRec, h]

/-! ### Line and causes -/

@[simp] theorem State.get_setQueue (q : List Frame) (h : b ≠ .line) :
    (s.setQueue q).get b = s.get b := by simp [State.setQueue, h]
@[simp] theorem State.get_offerRoutine (f : Frame) (h : b ≠ .line) :
    (s.offerRoutine f).get b = s.get b := by unfold State.offerRoutine; split <;> simp [h]
@[simp] theorem State.get_offerCoalesced (p : Payload → Bool) (f : Frame) (h : b ≠ .line) :
    (s.offerCoalesced p f).get b = s.get b := by unfold State.offerCoalesced; split <;> simp [h]
@[simp] theorem State.get_queueStatus (h : b ≠ .line) : s.queueStatus.get b = s.get b := by
  simp [State.queueStatus, h]
@[simp] theorem State.get_queueWant (h : b ≠ .line) : s.queueWant.get b = s.get b := by
  simp [State.queueWant, h]
@[simp] theorem State.get_attLampStep (h : b ≠ .att) : s.attLampStep.get b = s.get b := by
  simp [State.attLampStep, h]
@[simp] theorem State.get_changeCause (c : Cause) (e : CauseEntry) (h : b ≠ .att) :
    (s.changeCause c e).get b = s.get b := by simp [State.changeCause, h]
@[simp] theorem State.get_recomputeLevel (h : b ≠ .att) (h' : b ≠ .line) :
    s.recomputeLevel.get b = s.get b := by unfold State.recomputeLevel; split <;> simp [h, h']
@[simp] theorem State.get_raise (c : Cause) (d : Nat) (h : b ≠ .att) (h' : b ≠ .line) :
    (s.raise c d).get b = s.get b := by
  unfold State.raise; (try dsimp only); split <;> (try split) <;> simp [h, h']
@[simp] theorem State.get_raiseStanding (c : Cause) (d : Nat) (h : b ≠ .att) (h' : b ≠ .line) :
    (s.raiseStanding c d).get b = s.get b := by simp [State.raiseStanding, h, h']
@[simp] theorem State.get_sendPrompt (d : Station) (p : Payload) (h : b ≠ .att) (h' : b ≠ .line) :
    (s.sendPrompt d p).get b = s.get b := by
  unfold State.sendPrompt; split <;> (try split) <;> simp [h, h']
@[simp] theorem State.get_absentOne (c : Cause) (h : b ≠ .att) (h₁ : b ≠ .ex) (h₂ : b ≠ .dr) :
    (s.absentOne c).get b = s.get b := by
  unfold State.absentOne; (try dsimp only); (repeat' split) <;> simp [h, h₁, h₂]
theorem State.get_foldl_absentOne (cs : List Cause) (h : b ≠ .att) (h₁ : b ≠ .ex) (h₂ : b ≠ .dr) :
    ∀ s : State, (cs.foldl State.absentOne s).get b = s.get b := by
  induction cs with
  | nil => intro s; rfl
  | cons c cs ih => intro s; simp [ih, h, h₁, h₂]
@[simp] theorem State.get_absentAll (cs : List Cause) (h : b ≠ .att) (h₁ : b ≠ .ex) (h₂ : b ≠ .dr)
    (h₃ : b ≠ .line) : (s.absentAll cs).get b = s.get b := by
  simp [State.absentAll, State.get_foldl_absentOne, h, h₁, h₂, h₃]
@[simp] theorem State.get_conditionEnd (c : Cause) (h : b ≠ .att) (h₁ : b ≠ .ex) (h₂ : b ≠ .dr)
    (h₃ : b ≠ .line) : (s.conditionEnd c).get b = s.get b := by
  unfold State.conditionEnd; (try dsimp only); split <;> simp [h, h₁, h₂, h₃]

/-! ### Routes -/

@[simp] theorem State.get_resolve (c : RackClass) (h : b ≠ .att) (h₁ : b ≠ .line) (h₂ : b ≠ .rt) :
    (s.resolve c).1.get b = s.get b := by unfold State.resolve; split <;> simp [h, h₁, h₂]
@[simp] theorem State.get_steeredAdd (p : DownPort) (n : RackNo) (st : Station) (h : b ≠ .rt) :
    (s.steeredAdd p n st).get b = s.get b := by simp [State.steeredAdd, h]

/-! ### Track -/

@[simp] theorem State.get_flagRec (i : Nat) (f : Flags) (h : b ≠ .track) :
    (s.flagRec i f).get b = s.get b := by simp [State.flagRec, h]
@[simp] theorem State.get_stopFired (h : b ≠ .track) (h₁ : b ≠ .att) (h₂ : b ≠ .line) :
    s.stopFired.get b = s.get b := by
  unfold State.stopFired; (try dsimp only); (repeat' split) <;> simp [h, h₁, h₂]
@[simp] theorem State.get_loadGroup (r : Rec) (h : b ≠ .track) (h₁ : b ≠ .att) (h₂ : b ≠ .line)
    (h₃ : b ≠ .marks) : (s.loadGroup r).get b = s.get b := by
  unfold State.loadGroup; (try dsimp only); split <;> simp [h, h₁, h₂, h₃]
@[simp] theorem State.get_recomputeGroup (c : Count) (h : b ≠ .track) (h₁ : b ≠ .att) (h₂ : b ≠ .line)
    (h₃ : b ≠ .marks) : (s.recomputeGroup c).get b = s.get b := by
  unfold State.recomputeGroup; (try dsimp only); split <;> simp [h, h₁, h₂, h₃]
@[simp] theorem State.get_rehead (h : b ≠ .track) (h₁ : b ≠ .att) (h₂ : b ≠ .line)
    (h₃ : b ≠ .marks) (h₄ : b ≠ .bay) : s.rehead.get b = s.get b := by
  unfold State.rehead; (try dsimp only); (repeat' split) <;> simp [h, h₁, h₂, h₃, h₄]
@[simp] theorem State.get_sendLanded (p : UpPort) (n : Serial) (k : RackNo) (st : LandStatus)
    (x : Option (RackNo × Station)) (h : b ≠ .en) (h₁ : b ≠ .att) (h₂ : b ≠ .line) :
    (s.sendLanded p n k st x).get b = s.get b := by
  unfold State.sendLanded; (try dsimp only); split <;> simp [h, h₁, h₂]
@[simp] theorem State.get_endLanding (i : Nat) (st : LandStatus) (x : Option RackNo)
    (h : b ≠ .en) (h₁ : b ≠ .att) (h₂ : b ≠ .line) : (s.endLanding i st x).get b = s.get b := by
  unfold State.endLanding; split <;> simp [h, h₁, h₂]
@[simp] theorem State.get_setNumber (i : Nat) (n : RackNo)
    (h : b ≠ .track) (h₁ : b ≠ .att) (h₂ : b ≠ .line) : (s.setNumber i n).get b = s.get b := by
  unfold State.setNumber; split <;> simp [h, h₁, h₂]
@[simp] theorem State.get_hopTest (i : Nat) (h₁ : b ≠ .att) (h₂ : b ≠ .line) :
    (s.hopTest i).get b = s.get b := by
  unfold State.hopTest; (repeat' split) <;> simp [h₁, h₂]
@[simp] theorem State.get_wantStep (h : b ≠ .bay) (h₁ : b ≠ .line) : s.wantStep.get b = s.get b := by
  unfold State.wantStep; (try dsimp only); (repeat' split) <;> simp [h, h₁]
@[simp] theorem State.get_callLampStep (h : b ≠ .bay) : s.callLampStep.get b = s.get b := by
  simp [State.callLampStep, h]
@[simp] theorem State.get_bayFollows (h : b ≠ .bay) (h₁ : b ≠ .line) : s.bayFollows.get b = s.get b := by
  simp [State.bayFollows, h, h₁]
@[simp] theorem State.get_skipTo (i : Nat) (o : SlotName) (x : Slot) (w : SlotName) (y : Slot) (n : RackNo)
    (h : b ≠ .track) (h₁ : b ≠ .att) (h₂ : b ≠ .line) (h₃ : b ≠ .en) (h₄ : b ≠ .bay) :
    (s.skipTo i o x w y n).get b = s.get b := by simp [State.skipTo, h, h₁, h₂, h₃, h₄]
@[simp] theorem State.get_tagResult (i : Nat) (x : Option RackNo)
    (h : b ≠ .track) (h₁ : b ≠ .att) (h₂ : b ≠ .line) (h₃ : b ≠ .en) (h₄ : b ≠ .bay) :
    (s.tagResult i x).get b = s.get b := by
  unfold State.tagResult; (repeat' split) <;> simp [h, h₁, h₂, h₃, h₄]
@[simp] theorem State.get_readDue (i : Nat)
    (h : b ≠ .track) (h₁ : b ≠ .att) (h₂ : b ≠ .line) (h₃ : b ≠ .en) (h₄ : b ≠ .tag) (h₅ : b ≠ .bay) :
    (s.readDue i).get b = s.get b := by
  unfold State.readDue; (repeat' split) <;> simp [h, h₁, h₂, h₃, h₄, h₅]
theorem State.get_foldl (f : State → Eye → State) (es : List Eye)
    (hf : ∀ t e, (f t e).get b = t.get b) : ∀ s : State, (es.foldl f s).get b = s.get b := by
  induction es with
  | nil => intro s; rfl
  | cons e es ih => intro s; simp [ih, hf]
@[simp] theorem State.get_joinAwaited (i : Nat) (p : Eye → Bool) (h : b ≠ .eyes) :
    (s.joinAwaited i p).get b = s.get b := by
  unfold State.joinAwaited
  refine State.get_foldl _ _ (fun t e => ?_) s
  split <;> simp [h]
@[simp] theorem State.get_leaveLists (i : Nat) (h : b ≠ .eyes) :
    (s.leaveLists i).get b = s.get b := by simp [State.leaveLists, h]
@[simp] theorem State.get_sendWithdraw (r : Rec) (h : b ≠ .ex) (h₁ : b ≠ .att) (h₂ : b ≠ .line) :
    (s.sendWithdraw r).get b = s.get b := by
  unfold State.sendWithdraw; (try dsimp only); split <;> simp [h, h₁, h₂]
@[simp] theorem State.get_withdrawHead (h : b ≠ .ex) (h₁ : b ≠ .att) (h₂ : b ≠ .line)
    (h₃ : b ≠ .track) : s.withdrawHead.get b = s.get b := by
  unfold State.withdrawHead; (repeat' split) <;> simp [h, h₁, h₂, h₃]
@[simp] theorem State.get_abandonLanding (i : Nat) (h : b ≠ .en) (h₁ : b ≠ .att) (h₂ : b ≠ .line) :
    (s.abandonLanding i).get b = s.get b := by
  unfold State.abandonLanding; split <;> simp [h, h₁, h₂]
@[simp] theorem State.get_removeRec (r : Rec) (h : b ≠ .ex) (h₁ : b ≠ .att) (h₂ : b ≠ .line)
    (h₃ : b ≠ .track) (h₄ : b ≠ .eyes) (h₅ : b ≠ .tag) (h₆ : b ≠ .gate) (h₇ : b ≠ .bay) (h₈ : b ≠ .en)
    (h₉ : b ≠ .marks) : (s.removeRec r).get b = s.get b := by
  unfold State.removeRec
  extract_lets w s₁ s₂ s₃ c₁ s₄ c₂ s₅ c₃ s₆ s₇
  have e₁ : s₁.get b = s.get b := by simp only [s₁]; split <;> simp [h, h₁, h₂]
  have e₂ : s₂.get b = s₁.get b := s₁.get_track _ h₃
  have e₃ : s₃.get b = s₂.get b := s₂.get_leaveLists _ h₄
  have e₄ : s₄.get b = s₃.get b := by simp only [s₄]; split <;> simp [h₅]
  have e₅ : s₅.get b = s₄.get b := by simp only [s₅]; split <;> simp [h₆]
  have e₆ : s₆.get b = s₅.get b := by simp only [s₆]; split <;> simp [h₇]
  have e₇ : s₇.get b = s₆.get b := s₆.get_abandonLanding _ h₈ h₁ h₂
  rw [s₇.bayFollows.get_rehead h₃ h₁ h₂ h₉ h₇, s₇.get_bayFollows h₇ h₂, e₇, e₆, e₅, e₄, e₃, e₂, e₁]
@[simp] theorem State.get_pushLost (x : LostEntry) (h : b ≠ .ex) : (s.pushLost x).get b = s.get b := by
  unfold State.pushLost; split <;> simp [h]
@[simp] theorem State.get_raiseLost (r : Rec) (x : Bool) (h : b ≠ .ex) (h₁ : b ≠ .att) (h₂ : b ≠ .line) :
    (s.raiseLost r x).get b = s.get b := by cases x <;> simp [State.raiseLost, h, h₁, h₂]
@[simp] theorem State.get_toLost (r : Rec) (h : b ≠ .ex) (h₁ : b ≠ .att) (h₂ : b ≠ .line) :
    (s.toLost r).get b = s.get b := by unfold State.toLost; split <;> simp [h, h₁, h₂]
@[simp] theorem State.get_release (r : Rec) (f : Rec → Rec) (h : b ≠ .track) (h₁ : b ≠ .att)
    (h₂ : b ≠ .line) (h₃ : b ≠ .marks) (h₄ : b ≠ .bay) (h₅ : b ≠ .ex) :
    (s.release r f).get b = s.get b := by
  unfold State.release
  extract_lets s₁ s₂ c₁ s₃
  have e₁ : s₁.get b = s.get b := s.get_updRec _ _ h
  have e₂ : s₂.get b = s₁.get b := by simp only [s₂]; split <;> simp [h₃]
  have e₃ : s₃.get b = s₂.get b := s₂.get_ex _ h₅
  rw [s₃.callLampStep.get_rehead h h₁ h₂ h₃ h₄, s₃.get_callLampStep h₄, e₃, e₂, e₁]
@[simp] theorem State.get_takeRoute (i : Nat) (rt : Route) (h : b ≠ .track) (h₁ : b ≠ .gate) :
    (s.takeRoute i rt).get b = s.get b := by
  unfold State.takeRoute; (try dsimp only); split <;> simp [h, h₁]
@[simp] theorem State.get_appendRec (r : Rec) (h : b ≠ .track) (h₁ : b ≠ .nextId) :
    (s.appendRec r).get b = s.get b := by simp [State.appendRec, h, h₁]

/-! ### Drive and idle logic -/

@[simp] theorem State.get_sendStalls (h : b ≠ .en) (h₁ : b ≠ .att) (h₂ : b ≠ .line) :
    s.sendStalls.get b = s.get b := by
  simp only [State.sendStalls, List.foldl]; (repeat' split) <;> simp [h, h₁, h₂]
@[simp] theorem State.get_sendGos (h : b ≠ .en) (h₁ : b ≠ .att) (h₂ : b ≠ .line) :
    s.sendGos.get b = s.get b := by
  simp only [State.sendGos, List.foldl]; (repeat' split) <;> simp [h, h₁, h₂]
@[simp] theorem State.get_leaveRun (h : b ≠ .dr) (h₁ : b ≠ .att) (h₂ : b ≠ .line) (h₃ : b ≠ .ex) :
    s.leaveRun.get b = s.get b := by
  unfold State.leaveRun; (try dsimp only); split <;> simp [h, h₁, h₂, h₃]
@[simp] theorem State.get_enterHold (h : b ≠ .dr) (h₁ : b ≠ .att) (h₂ : b ≠ .line) (h₃ : b ≠ .ex)
    (h₄ : b ≠ .en) : s.enterHold.get b = s.get b := by
  unfold State.enterHold; (try dsimp only); split <;> simp [h, h₁, h₂, h₃, h₄]
@[simp] theorem State.get_enterSpinUp (x : Bool) (h : b ≠ .dr) (h₁ : b ≠ .att) (h₂ : b ≠ .line)
    (h₃ : b ≠ .en) : (s.enterSpinUp x).get b = s.get b := by
  simp [State.enterSpinUp, h, h₁, h₂, h₃]
@[simp] theorem State.get_enterRegulated (x : BeltState) (l : Nat) (h : b ≠ .dr) (h₂ : b ≠ .line) :
    (s.enterRegulated x l).get b = s.get b := by simp [State.enterRegulated, h, h₂]
@[simp] theorem State.get_switchRegulated (x : BeltState) (h : b ≠ .dr) (h₁ : b ≠ .att)
    (h₂ : b ≠ .line) (h₃ : b ≠ .ex) : (s.switchRegulated x).get b = s.get b := by
  unfold State.switchRegulated; (try dsimp only); split <;> simp [h, h₁, h₂, h₃]
@[simp] theorem State.get_followBelt (h : b ≠ .dr) (h₁ : b ≠ .att) (h₂ : b ≠ .line) (h₃ : b ≠ .ex)
    (h₄ : b ≠ .en) : s.followBelt.get b = s.get b := by
  unfold State.followBelt; (repeat' split) <;> simp [h, h₁, h₂, h₃, h₄]
@[simp] theorem State.get_updateTarget (h : b ≠ .dr) : s.updateTarget.get b = s.get b := by
  unfold State.updateTarget; (try dsimp only); (repeat' split) <;> simp [h]
@[simp] theorem State.get_freeSpans (h : b ≠ .dr) : s.freeSpans.get b = s.get b := by
  unfold State.freeSpans; (try dsimp only); (repeat' split) <;> simp [h]
@[simp] theorem State.get_leavePark (h : b ≠ .dr) (h₁ : b ≠ .att) (h₂ : b ≠ .line) (h₃ : b ≠ .en)
    (h₄ : b ≠ .idle) : s.leavePark.get b = s.get b := by simp [State.leavePark, h, h₁, h₂, h₃, h₄]
@[simp] theorem State.get_wake (h : b ≠ .dr) (h₁ : b ≠ .att) (h₂ : b ≠ .line) (h₃ : b ≠ .en)
    (h₄ : b ≠ .idle) : s.wake.get b = s.get b := by
  unfold State.wake; (repeat' split) <;> simp [h, h₁, h₂, h₃, h₄]
@[simp] theorem State.get_pendingWake (h : b ≠ .dr) (h₁ : b ≠ .att) (h₂ : b ≠ .line) (h₃ : b ≠ .en)
    (h₄ : b ≠ .idle) : s.pendingWake.get b = s.get b := by
  unfold State.pendingWake; split <;> simp [h, h₁, h₂, h₃, h₄]
@[simp] theorem State.get_enterPark (h : b ≠ .dr) (h₁ : b ≠ .att) (h₂ : b ≠ .line) (h₃ : b ≠ .en)
    (h₄ : b ≠ .idle) : s.enterPark.get b = s.get b := by
  have two : State.get { s with
      dr := { s.dr with belt := .park }
      idle := { s.idle with phase := .parked, park := none, reply := none,
                            poll := some s.boot.prof.pollPeriod, wakePending := false } } b
      = s.get b := by
    cases b <;> first | rfl | exact absurd rfl h | exact absurd rfl h₄
  unfold State.enterPark; (try dsimp only); split <;> simp [h, h₁, h₂, h₃, h₄, two]
@[simp] theorem State.get_startTiming (h : b ≠ .idle) : s.startTiming.get b = s.get b := by
  simp [State.startTiming, h]
@[simp] theorem State.get_followIdle (h : b ≠ .idle) : s.followIdle.get b = s.get b := by
  unfold State.followIdle; (repeat' split) <;> simp [h]

/-! ### Settling -/

@[simp] theorem State.get_discardReused (p : DownPort) (n : Serial) (h : b ≠ .ex) :
    (s.discardReused p n).get b = s.get b := by unfold State.discardReused; split <;> simp [h]
@[simp] theorem State.get_sendOffer (r : Rec) (p : DownPort) (h : b ≠ .track) (h₁ : b ≠ .att)
    (h₂ : b ≠ .line) (h₃ : b ≠ .ex) : (s.sendOffer r p).get b = s.get b := by
  simp [State.sendOffer, h, h₁, h₂, h₃]
@[simp] theorem State.get_releaseFree (r : Rec) (p : DownPort) (h : b ≠ .track) (h₁ : b ≠ .att)
    (h₂ : b ≠ .line) (h₃ : b ≠ .ex) (h₄ : b ≠ .marks) (h₅ : b ≠ .bay) (h₆ : b ≠ .rt) :
    (s.releaseFree r p).get b = s.get b := by
  unfold State.releaseFree; (try dsimp only); split <;> simp [h, h₁, h₂, h₃, h₄, h₅, h₆]
theorem State.get_offerLoop (h : b ≠ .track) (h₁ : b ≠ .att) (h₂ : b ≠ .line) (h₃ : b ≠ .ex)
    (h₄ : b ≠ .marks) (h₅ : b ≠ .bay) (h₆ : b ≠ .rt) :
    ∀ (n : Nat) (s : State), (s.offerLoop n).get b = s.get b := by
  intro n
  induction n with
  | zero => intro s; rfl
  | succ n ih =>
    intro s
    unfold State.offerLoop
    split
    · rfl
    · dsimp only; rw [ih]; split <;> simp [h, h₁, h₂, h₃, h₄, h₅, h₆]
@[simp] theorem State.get_offerStep (h : b ≠ .track) (h₁ : b ≠ .att) (h₂ : b ≠ .line) (h₃ : b ≠ .ex)
    (h₄ : b ≠ .marks) (h₅ : b ≠ .bay) (h₆ : b ≠ .rt) : s.offerStep.get b = s.get b :=
  State.get_offerLoop h h₁ h₂ h₃ h₄ h₅ h₆ 13 s
@[simp] theorem State.get_withdrawAtLevel3 (h : b ≠ .ex) (h₁ : b ≠ .att) (h₂ : b ≠ .line)
    (h₃ : b ≠ .track) : s.withdrawAtLevel3.get b = s.get b := by
  unfold State.withdrawAtLevel3; split <;> simp [h, h₁, h₂, h₃]
@[simp] theorem State.get_gateStep (h : b ≠ .gate) : s.gateStep.get b = s.get b := by
  unfold State.gateStep; (repeat' split) <;> simp [h]
@[simp] theorem State.get_takeOffer (p : UpPort) (n : Serial) (i : Image) (rt : Option Route)
    (h : b ≠ .en) (h₁ : b ≠ .att) (h₂ : b ≠ .line) : (s.takeOffer p n i rt).get b = s.get b := by
  unfold State.takeOffer; (try dsimp only); (repeat' split) <;> simp [h, h₁, h₂]
@[simp] theorem State.get_takeNoted (p : UpPort) (h : b ≠ .en) (h₁ : b ≠ .att) (h₂ : b ≠ .line) :
    (s.takeNoted p).get b = s.get b := by unfold State.takeNoted; split <;> simp [h, h₁, h₂]
@[simp] theorem State.get_readyStep (h : b ≠ .en) (h₁ : b ≠ .att) (h₂ : b ≠ .line) :
    s.readyStep.get b = s.get b := by simp [State.readyStep, h, h₁, h₂]
@[simp] theorem State.get_unaccountedStep (h : b ≠ .eyes) : s.unaccountedStep.get b = s.get b := by
  simp [State.unaccountedStep, h]

/-- The blocks that settling never writes: what the event itself wrote there stands. -/
def Block.fixed : Block → Bool
  | .boot => true
  | .cu => true
  | .tag => true
  | .nextId => true
  | .found => true
  | .pending => true
  | _ => false

theorem State.get_pass (e : Bool) (h : b.fixed = true) : (s.pass e).get b = s.get b := by
  cases b <;> first | (exact absurd h (by decide)) | (unfold State.pass; (try dsimp only); split <;> simp)
theorem State.get_finish (h : b.fixed = true) : s.finish.get b = s.get b := by
  cases b <;> first
    | (exact absurd h (by decide))
    | (unfold State.finish State.restrict3; (try dsimp only); (repeat' split) <;> simp)
theorem State.get_settle (h : b.fixed = true) : s.settle.get b = s.get b := by
  simp [State.settle, State.get_finish _ h, State.get_pass _ _ h]
theorem State.get_settleEdge (h : b.fixed = true) : s.settleEdge.get b = s.get b := by
  simp [State.settleEdge, State.get_finish _ h, State.get_pass _ _ h]

@[simp] theorem State.settle_boot : s.settle.boot = s.boot := s.get_settle (b := .boot) rfl
@[simp] theorem State.settle_cu : s.settle.cu = s.cu := s.get_settle (b := .cu) rfl
@[simp] theorem State.settle_tag : s.settle.tag = s.tag := s.get_settle (b := .tag) rfl
@[simp] theorem State.settle_nextId : s.settle.nextId = s.nextId := s.get_settle (b := .nextId) rfl
@[simp] theorem State.settle_found : s.settle.found = s.found := s.get_settle (b := .found) rfl
@[simp] theorem State.settle_pending : s.settle.pending = s.pending := s.get_settle (b := .pending) rfl
@[simp] theorem State.settleEdge_boot : s.settleEdge.boot = s.boot := s.get_settleEdge (b := .boot) rfl
@[simp] theorem State.settleEdge_cu : s.settleEdge.cu = s.cu := s.get_settleEdge (b := .cu) rfl
@[simp] theorem State.settleEdge_tag : s.settleEdge.tag = s.tag := s.get_settleEdge (b := .tag) rfl
@[simp] theorem State.settleEdge_nextId : s.settleEdge.nextId = s.nextId :=
  s.get_settleEdge (b := .nextId) rfl
@[simp] theorem State.settleEdge_found : s.settleEdge.found = s.found :=
  s.get_settleEdge (b := .found) rfl
@[simp] theorem State.settleEdge_pending : s.settleEdge.pending = s.pending :=
  s.get_settleEdge (b := .pending) rfl

end Sys2Proof.Machine
end

