-- ==== Sys2Proof/Laws/Events.lean ====
section
/-! SUPPORT. No event but a belt edge writes the belt count, and none the queue of commands: one lemma per event,
for the blocks `cu` and `pending`. -/

namespace Sys2Proof.Machine

/-- The count unit, and the queue of commands. -/
def Block.still : Block → Bool
  | .cu => true
  | .pending => true
  | _ => false

theorem Block.still_cases {b : Block} (h : b.still = true) : b = .cu ∨ b = .pending := by
  cases b <;> first | exact .inl rfl | exact .inr rfl | exact absurd h (by decide)

variable {b : Block} (s : State)

/-! ### Shared parts of the events -/

theorem State.still_settle (h : b.still = true) : s.settle.get b = s.get b := by
  rcases Block.still_cases h with rfl | rfl <;> exact State.get_settle _ rfl
theorem State.still_settleEdge (h : b.still = true) : s.settleEdge.get b = s.get b := by
  rcases Block.still_cases h with rfl | rfl <;> exact State.get_settleEdge _ rfl
theorem State.still_recomputeGroup (c : Count) (h : b.still = true) :
    (s.recomputeGroup c).get b = s.get b := by
  rcases Block.still_cases h with rfl | rfl <;> simp
theorem State.still_correct (r : Rec) (v : Int) (h : b.still = true) :
    (s.correct r v).get b = s.get b := by
  rcases Block.still_cases h with rfl | rfl <;>
    (unfold State.correct; dsimp only; split <;> simp)
theorem State.still_slipped (ids : List Nat) (h : b.still = true) :
    ∀ s : State, (s.slipped ids).get b = s.get b := by
  induction ids with
  | nil => intro s; rfl
  | cons i is ih =>
    intro s
    have : (s.slipped (i :: is)).get b = ((s.flagRec i { slipped := true }).slipped is).get b := rfl
    rw [this, ih]
    rcases Block.still_cases h with rfl | rfl <;> simp
theorem State.still_takeAwaited (e : Eye) (x : Count) (r : Rec) (h : b.still = true) :
    (s.takeAwaited e x r).get b = s.get b := by
  unfold State.takeAwaited
  dsimp only
  rw [State.still_correct _ _ _ h, State.still_slipped _ h]
  rcases Block.still_cases h with rfl | rfl <;> simp
theorem State.still_strayAt (e : Eye) (h : b.still = true) : (s.strayAt e).get b = s.get b := by
  rcases Block.still_cases h with rfl | rfl <;> simp [State.strayAt]
theorem State.still_checkLead (e : Eye) (x : Count) (h : b.still = true) :
    (s.checkLead e x).get b = s.get b := by
  unfold State.checkLead
  dsimp only
  split
  · exact State.still_takeAwaited _ _ _ _ h
  · split
    · rw [State.still_correct _ _ _ h]
      rcases Block.still_cases h with rfl | rfl <;> simp
    · exact State.still_strayAt _ _ h
theorem State.still_takeRoute (i : Nat) (rt : Route) (h : b.still = true) :
    (s.takeRoute i rt).get b = s.get b := by
  rcases Block.still_cases h with rfl | rfl <;> simp
theorem State.still_resolve (c : RackClass) (h : b.still = true) : (s.resolve c).1.get b = s.get b := by
  rcases Block.still_cases h with rfl | rfl <;> simp
theorem State.still_createFromSlot (n : SlotName) (x : Slot) (c : Count) (h : b.still = true) :
    (s.createFromSlot n x c).get b = s.get b := by
  unfold State.createFromSlot
  extract_lets i s₁ m src s₂ s₃ s₄ s₅ s₆ s₇
  have e₁ : s₁.get b = s.get b := by
    rcases Block.still_cases h with rfl | rfl <;> simp [s₁]
  have e₃ : s₃.get b = s₁.get b := by
    rcases Block.still_cases h with rfl | rfl <;> simp [s₃, s₂]
  have e₄ : s₄.get b = s₃.get b := by
    simp only [s₄]
    split
    · exact State.still_takeRoute _ _ _ h
    · rfl
  have e₇ : s₇.get b = s₄.get b := by
    rcases Block.still_cases h with rfl | rfl <;> simp [s₇, s₆, s₅]
  rw [← e₁, ← e₃, ← e₄, ← e₇]
  split <;> rcases Block.still_cases h with rfl | rfl <;> simp
theorem State.still_createStray (c : Count) (h : b.still = true) :
    (s.createStray c).get b = s.get b := by
  unfold State.createStray
  extract_lets i src s₁ s₂ s₃ s₄ s₅
  have e₂ : s₂.get b = s.get b := by
    rcases Block.still_cases h with rfl | rfl <;> simp [s₂, s₁]
  have e₃ : s₃.get b = s₂.get b := by
    simp only [s₃]
    split
    · exact (State.still_takeRoute _ _ _ h).trans (State.still_resolve _ _ h)
    · rfl
  have e₅ : s₅.get b = s₃.get b :=
    (State.still_strayAt _ _ h).trans
      (by rcases Block.still_cases h with rfl | rfl <;> simp [s₄])
  rw [← e₂, ← e₃, ← e₅]
  rcases Block.still_cases h with rfl | rfl <;> simp
theorem State.still_entryLead (c : Count) (h : b.still = true) : (s.entryLead c).get b = s.get b := by
  unfold State.entryLead
  split
  · exact State.still_strayAt _ _ h
  · split
    · exact State.still_createFromSlot _ _ _ _ h
    · exact State.still_createStray _ _ h
theorem State.still_entryTrail (l : Option Nat) (h : b.still = true) :
    (s.entryTrail l).get b = s.get b := by
  rcases Block.still_cases h with rfl | rfl <;>
    (unfold State.entryTrail; dsimp only; (repeat' split) <;> simp)
theorem State.still_startRoute (r : Rec) (h : b.still = true) : (s.startRoute r).get b = s.get b := by
  have k := State.still_resolve s classUnknown h
  have g (t : State) (x : Option Route) :
      State.get { t with gate := { t.gate with rackRoute := x } } b = t.get b := by
    rcases Block.still_cases h with rfl | rfl <;> rfl
  unfold State.startRoute
  split
  · split
    · exact g _ _
    · exact (g _ _).trans k
  · rfl
theorem State.still_createStart (o : Nat) (x y : Bool) (h : b.still = true) :
    (s.createStart o x y).get b = s.get b := by
  rcases Block.still_cases h with rfl | rfl <;> simp [State.createStart]
theorem State.still_scanAt (a : ScanAt) (o : Nat) (h : b.still = true) :
    (State.scanAt a o).s.get b = a.s.get b := by
  unfold State.scanAt
  (repeat' split) <;> first | rfl | exact State.still_createStart _ _ _ _ h
theorem State.still_foldl {α : Type} {f : State → α → State} (hf : ∀ t x, (f t x).get b = t.get b) (l : List α) :
    ∀ t : State, (l.foldl f t).get b = t.get b := by
  induction l with
  | nil => intro t; rfl
  | cons x l ih => intro t; rw [List.foldl_cons, ih, hf]
theorem State.still_scan (h : b.still = true) : s.scan.get b = s.get b := by
  have k : ∀ (l : List Nat) (a : ScanAt), (l.foldl State.scanAt a).s.get b = a.s.get b := by
    intro l
    induction l with
    | nil => intro a; rfl
    | cons o l ih => intro a; rw [List.foldl_cons, ih, State.still_scanAt _ _ h]
  have q (t : State) : t.rehead.startRead.get b = t.get b := by
    unfold State.startRead
    split <;> rcases Block.still_cases h with rfl | rfl <;> simp
  unfold State.scan
  dsimp only
  rw [State.still_foldl (fun t e => State.still_strayAt t e h), q,
    State.still_foldl (fun t r => State.still_startRoute t r h), k]
theorem State.still_vanish (r : Rec) (h : b.still = true) : (s.vanish r).get b = s.get b := by
  rcases Block.still_cases h with rfl | rfl <;>
    (unfold State.vanish; split <;> simp [State.giveUp])
theorem State.still_takePassage (r : Rec) (h : b.still = true) : (s.takePassage r).get b = s.get b := by
  rcases Block.still_cases h with rfl | rfl <;> simp [State.takePassage]
theorem State.still_exitLead (x : Count) (h : b.still = true) : (s.exitLead x).get b = s.get b := by
  have k : ∀ (l : List Rec) (t : State), (l.foldl State.vanish t).get b = t.get b := by
    intro l
    induction l with
    | nil => intro t; rfl
    | cons r l ih => intro t; rw [List.foldl_cons, ih, State.still_vanish _ _ h]
  unfold State.exitLead
  dsimp only
  split
  · exact (State.still_takePassage _ _ h).trans (k _ _)
  · rcases Block.still_cases h with rfl | rfl <;> simp [State.strayAt]
theorem State.still_exitTrail (h : b.still = true) : s.exitTrail.get b = s.get b := by
  unfold State.exitTrail
  dsimp only
  split
  · rfl
  · split
    · split <;> rcases Block.still_cases h with rfl | rfl <;> simp
    · rw [State.still_vanish _ _ h]
      rcases Block.still_cases h with rfl | rfl <;> simp
theorem State.still_displaceHead (h : b.still = true) : s.displaceHead.get b = s.get b := by
  rcases Block.still_cases h with rfl | rfl <;>
    (unfold State.displaceHead; dsimp only; split <;> simp)
theorem State.still_placeRec (x : Count) (h : b.still = true) : (s.placeRec x).get b = s.get b := by
  unfold State.placeRec
  split
  · exact State.still_strayAt _ _ h
  · extract_lets i o src r n s₁ s₂
    have e₁ : s₁.get b = s.get b := by
      simp only [s₁]
      split
      · exact State.still_displaceHead _ h
      · rfl
    have e₂ : s₂.get b = s₁.get b := by
      rcases Block.still_cases h with rfl | rfl <;> rfl
    rw [← e₁, ← e₂]
    rcases Block.still_cases h with rfl | rfl <;> simp
theorem State.still_deliver (e : Eye) (x : Count) (k : Edge) (h : b.still = true) :
    (s.deliver e x k).get b = s.get b := by
  have bt : s.bayTrail.get b = s.get b := by
    unfold State.bayTrail
    split <;> rcases Block.still_cases h with rfl | rfl <;> simp
  have bl : (s.bayLead x).get b = s.get b := by
    unfold State.bayLead
    split
    · rfl
    · exact State.still_placeRec _ _ h
  have en : (s.entryLeadEdge x).get b = s.get b := by
    unfold State.entryLeadEdge
    rw [State.still_entryLead _ _ h]
    rcases Block.still_cases h with rfl | rfl <;> simp
  have et : (s.entryTrailEdge x).get b = s.get b := by
    unfold State.entryTrailEdge
    rw [State.still_entryTrail _ _ h]
    rcases Block.still_cases h with rfl | rfl <;> simp
  unfold State.deliver
  (repeat' split) <;> first
    | rfl
    | exact en
    | exact et
    | exact State.still_exitLead _ _ h
    | exact State.still_exitTrail _ h
    | exact bl
    | exact State.still_checkLead _ _ _ h
    | exact bt
theorem State.still_changeChan (e : Eye) (p : PendEdge) (h : b.still = true) :
    (s.changeChan e p).get b = s.get b := by
  rcases Block.still_cases h with rfl | rfl <;>
    (unfold State.changeChan State.eyeCleared; dsimp only; (repeat' split) <;> simp)
theorem State.still_confirm (e : Eye) (p : PendEdge) (h : b.still = true) :
    (s.confirm e p).get b = s.get b := by
  unfold State.confirm
  extract_lets k s₁ s₂
  have e₁ : s₁.get b = s.get b := State.still_changeChan _ _ _ h
  have e₂ : s₂.get b = s₁.get b := by
    clear_value k
    cases k with
    | some k => exact State.still_deliver _ _ _ _ h
    | none => rfl
  rw [← e₁, ← e₂]
  rcases Block.still_cases h with rfl | rfl <;> simp
theorem State.still_enterActive (h : b.still = true) : s.enterActive.get b = s.get b := by
  have e : State.get { s.scan with boot := { s.scan.boot with mode := .active } } b = s.get b := by
    rw [← State.still_scan s h]
    rcases Block.still_cases h with rfl | rfl <;> rfl
  rw [← e]
  unfold State.enterActive
  dsimp only
  generalize { s.scan with boot := { s.scan.boot with mode := .active } } = t
  rcases Block.still_cases h with rfl | rfl
  · split
    · exact (State.get_queueWant (b := .cu) _ (by decide)).trans
        (State.get_queueStatus (b := .cu) _ (by decide))
    · exact State.get_queueStatus (b := .cu) _ (by decide)
  · split
    · exact (State.get_queueWant (b := .pending) _ (by decide)).trans
        (State.get_queueStatus (b := .pending) _ (by decide))
    · exact State.get_queueStatus (b := .pending) _ (by decide)
theorem State.still_tagDeliver (o : Option Nat) (x : Option RackNo) (h : b.still = true) :
    (s.tagDeliver o x).get b = s.get b := by
  rcases Block.still_cases h with rfl | rfl <;> (unfold State.tagDeliver; split <;> simp)
theorem State.still_wake (h : b.still = true) : s.wake.get b = s.get b := by
  rcases Block.still_cases h with rfl | rfl <;> simp
theorem State.still_pressWakes (h : b.still = true) : s.pressWakes.get b = s.get b := by
  unfold State.pressWakes; split
  · exact State.still_wake _ h
  · rfl
theorem State.still_ackTop (h : b.still = true) : s.ackTop.get b = s.get b := by
  rcases Block.still_cases h with rfl | rfl <;>
    (unfold State.ackTop; (repeat' split) <;> simp)
theorem State.still_clearAll (h : b.still = true) : s.clearAll.get b = s.get b := by
  rcases Block.still_cases h with rfl | rfl <;> simp [State.clearAll]
theorem State.still_flushDrive (h : b.still = true) : s.flushDrive.get b = s.get b := by
  unfold State.flushDrive
  extract_lets w d t
  have e : t.get b = s.get b := by
    rcases Block.still_cases h with rfl | rfl <;> rfl
  rw [← e]
  split
  · rfl
  · rcases Block.still_cases h with rfl | rfl <;> simp
theorem State.still_flushAll (h : b.still = true) : s.flushAll.get b = s.get b := by
  have a (t : State) : t.flushExit.get b = t.get b := by
    rcases Block.still_cases h with rfl | rfl <;> rfl
  have c (t : State) : t.flushEntry.get b = t.get b := by
    rcases Block.still_cases h with rfl | rfl <;> rfl
  have d (t : State) : t.flushEyes.get b = t.get b := by
    rcases Block.still_cases h with rfl | rfl <;> rfl
  have e (t : State) : t.flushTag.get b = t.get b := by
    rcases Block.still_cases h with rfl | rfl <;> rfl
  have f (t : State) : t.flushTrack.get b = t.get b := by
    rcases Block.still_cases h with rfl | rfl <;> rfl
  have g (t : State) : t.flushBay.get b = t.get b := by
    rcases Block.still_cases h with rfl | rfl <;> rfl
  have i (t : State) : t.flushIdle.get b = t.get b := by
    rcases Block.still_cases h with rfl | rfl <;> rfl
  rw [State.flushAll, State.still_scan _ h, i, g, State.still_flushDrive _ h, f, e, d, c, a]
theorem State.still_holdClear (h : b.still = true) : s.holdClear.get b = s.get b := by
  unfold State.holdClear
  split
  · rfl
  · split
    · rw [State.still_clearAll _ h]
      rcases Block.still_cases h with rfl | rfl <;> simp
    · rfl
theorem State.still_holdFlush (h : b.still = true) : s.holdFlush.get b = s.get b := by
  unfold State.holdFlush
  dsimp only
  split
  · rfl
  · split
    · split
      · rw [State.still_flushAll _ h]
        rcases Block.still_cases h with rfl | rfl <;> simp
      · rcases Block.still_cases h with rfl | rfl <;> simp
    · rfl

/-! ### The part's own events -/

theorem State.still_doEyeEdgeConfirm (e : Eye) (h : b.still = true) :
    (s.doEyeEdgeConfirm e).get b = s.get b := by
  unfold State.doEyeEdgeConfirm
  split
  · rw [State.still_settle _ h, State.still_confirm _ _ _ h]
  · rfl
theorem State.still_doEyeFirstState (e : Eye) (h : b.still = true) :
    (s.doEyeFirstState e).get b = s.get b := by
  have t : (s.takeFirst e).get b = s.get b := by
    rcases Block.still_cases h with rfl | rfl <;> simp [State.takeFirst]
  unfold State.doEyeFirstState
  dsimp only
  split
  · split
    · rw [State.still_settle _ h, State.still_enterActive _ h, t]
    · rw [← t]
      rcases Block.still_cases h with rfl | rfl <;> simp
  · rfl
theorem State.still_doCheckMissed (e : Eye) (h : b.still = true) :
    (s.doCheckMissed e).get b = s.get b := by
  unfold State.doCheckMissed
  dsimp only
  split
  · rfl
  · rw [State.still_settle _ h]
    rcases Block.still_cases h with rfl | rfl <;> simp
theorem State.still_doEyeJam (e : Eye) (h : b.still = true) : (s.doEyeJam e).get b = s.get b := by
  unfold State.doEyeJam
  split
  · rw [State.still_settle _ h]
    rcases Block.still_cases h with rfl | rfl <;> simp
  · rfl
theorem State.still_doEyeStuck (e : Eye) (h : b.still = true) : (s.doEyeStuck e).get b = s.get b := by
  unfold State.doEyeStuck
  split
  · rw [State.still_settle _ h]
    rcases Block.still_cases h with rfl | rfl <;> simp
  · rfl
theorem State.still_doReaderTimeout (h : b.still = true) : s.doReaderTimeout.get b = s.get b := by
  unfold State.doReaderTimeout
  split
  · split
    · rfl
    · rw [State.still_settle _ h]
      rcases Block.still_cases h with rfl | rfl <;> simp
    · rw [State.still_settle _ h, State.still_tagDeliver _ _ _ h]
      rcases Block.still_cases h with rfl | rfl <;> simp
  · rfl
theorem State.still_doRecordVanish (h : b.still = true) : s.doRecordVanish.get b = s.get b := by
  unfold State.doRecordVanish
  split
  · rw [State.still_settle _ h, State.still_vanish _ _ h]
  · rfl
theorem State.still_doResidenceExposureMet (h : b.still = true) :
    s.doResidenceExposureMet.get b = s.get b := by
  unfold State.doResidenceExposureMet
  split
  · exact State.still_settle _ h
  · rfl
theorem State.still_windowRegulate (h : b.still = true) : s.windowRegulate.get b = s.get b := by
  unfold State.windowRegulate State.lockedNow
  rcases Block.still_cases h with rfl | rfl <;>
    (dsimp only; (repeat' split) <;> simp)
theorem State.still_doWindowEnd (h : b.still = true) : s.doWindowEnd.get b = s.get b := by
  have m : s.windowMeasure.get b = s.get b := by
    rcases Block.still_cases h with rfl | rfl <;> rfl
  unfold State.doWindowEnd
  dsimp only
  split
  · rw [State.still_settle _ h]
    split
    · rw [State.still_windowRegulate _ h, m]
    · exact m
  · rfl
theorem State.still_doBeltUnsteady (h : b.still = true) : s.doBeltUnsteady.get b = s.get b := by
  unfold State.doBeltUnsteady
  split
  · rw [State.still_settle _ h]
    rcases Block.still_cases h with rfl | rfl <;> simp
  · rfl
theorem State.still_doUnsteadyOver (h : b.still = true) : s.doUnsteadyOver.get b = s.get b := by
  unfold State.doUnsteadyOver
  split
  · rw [State.still_settle _ h]
    rcases Block.still_cases h with rfl | rfl <;> simp
  · rfl
theorem State.still_doSpinUpExpiry (h : b.still = true) : s.doSpinUpExpiry.get b = s.get b := by
  unfold State.doSpinUpExpiry
  split
  · rw [State.still_settle _ h]
    split <;> rcases Block.still_cases h with rfl | rfl <;> simp
  · rfl
theorem State.still_doOfferResend (h : b.still = true) : s.doOfferResend.get b = s.get b := by
  unfold State.doOfferResend
  split
  · split
    · rw [State.still_settle _ h]
      rcases Block.still_cases h with rfl | rfl <;> simp
    · rfl
  · rfl
theorem State.still_doWhereSent (h : b.still = true) : s.doWhereSent.get b = s.get b := by
  unfold State.doWhereSent
  dsimp only
  split
  · rfl
  · split <;> rw [State.still_settle _ h] <;> rcases Block.still_cases h with rfl | rfl <;> simp
theorem State.still_doTransferExpiry (h : b.still = true) : s.doTransferExpiry.get b = s.get b := by
  unfold State.doTransferExpiry
  split
  · rw [State.still_settle _ h]
    rcases Block.still_cases h with rfl | rfl <;> simp [State.giveUp]
  · rfl
theorem State.still_doEntryReady (h : b.still = true) : s.doEntryReady.get b = s.get b := by
  unfold State.doEntryReady
  split
  · rw [State.still_settle _ h]
    rcases Block.still_cases h with rfl | rfl <;> simp
  · rfl
theorem State.still_doSlotArrivalExpiry (h : b.still = true) :
    s.doSlotArrivalExpiry.get b = s.get b := by
  unfold State.doSlotArrivalExpiry
  split
  · rw [State.still_settle _ h]
    rcases Block.still_cases h with rfl | rfl <;> simp
  · rfl
theorem State.still_doGateSettle (h : b.still = true) : s.doGateSettle.get b = s.get b := by
  unfold State.doGateSettle
  split
  · rw [State.still_settle _ h]
    rcases Block.still_cases h with rfl | rfl <;> simp
  · rfl
theorem State.still_doPatienceExpiry (h : b.still = true) : s.doPatienceExpiry.get b = s.get b := by
  unfold State.doPatienceExpiry
  split
  · split
    · rw [State.still_settle _ h]
      rcases Block.still_cases h with rfl | rfl <;> simp [State.reResolve]
    · rw [State.still_settle _ h]
      rcases Block.still_cases h with rfl | rfl <;> simp
  · rfl
theorem State.still_doClassKeyPress (n : RackClass) (h : b.still = true) :
    (s.doClassKeyPress n).get b = s.get b := by
  unfold State.doClassKeyPress
  dsimp only
  split
  · rw [State.still_settle _ h, State.still_pressWakes _ h]
    rcases Block.still_cases h with rfl | rfl <;> simp
  · rfl
theorem State.still_sendPressed (h : b.still = true) : s.sendPressed.get b = s.get b := by
  unfold State.sendPressed State.setReleased
  rcases Block.still_cases h with rfl | rfl <;>
    (dsimp only; (repeat' split) <;> simp [State.updRec, State.get])
theorem State.still_emptyPressed (h : b.still = true) : s.emptyPressed.get b = s.get b := by
  unfold State.emptyPressed State.setReleased
  rcases Block.still_cases h with rfl | rfl <;>
    (dsimp only; (repeat' split) <;> simp [State.updRec, State.get])
theorem State.still_bothPressed (h : b.still = true) : s.bothPressed.get b = s.get b := by
  unfold State.bothPressed
  rw [State.still_settle _ h, State.still_pressWakes _ h]
  rcases Block.still_cases h with rfl | rfl <;> simp
theorem State.still_doSendKeyPress (h : b.still = true) : s.doSendKeyPress.get b = s.get b := by
  unfold State.doSendKeyPress
  dsimp only
  split
  · split
    · exact State.still_bothPressed _ h
    · rw [State.still_settle _ h]
      split
      · rw [State.still_pressWakes _ h, State.still_sendPressed _ h]
        rcases Block.still_cases h with rfl | rfl <;> simp
      · rcases Block.still_cases h with rfl | rfl <;> simp
  · rfl
theorem State.still_doEmptyKeyPress (h : b.still = true) : s.doEmptyKeyPress.get b = s.get b := by
  unfold State.doEmptyKeyPress
  dsimp only
  split
  · split
    · exact State.still_bothPressed _ h
    · rw [State.still_settle _ h]
      split
      · rw [State.still_pressWakes _ h, State.still_emptyPressed _ h]
        rcases Block.still_cases h with rfl | rfl <;> simp
      · rcases Block.still_cases h with rfl | rfl <;> simp
  · rfl
theorem State.still_doKeyRelease (k : OpKey) (h : b.still = true) :
    (s.doKeyRelease k).get b = s.get b := by
  cases k <;>
    (simp only [State.doKeyRelease]; split <;> rcases Block.still_cases h with rfl | rfl <;> rfl)
theorem State.still_doWantTimer (h : b.still = true) : s.doWantTimer.get b = s.get b := by
  unfold State.doWantTimer
  split
  · rw [State.still_settle _ h]
    rcases Block.still_cases h with rfl | rfl <;> simp
  · rfl
theorem State.still_doCallLampFlash (h : b.still = true) : s.doCallLampFlash.get b = s.get b := by
  unfold State.doCallLampFlash
  split <;> rcases Block.still_cases h with rfl | rfl <;> rfl
theorem State.still_doWantExpiry (l : Station) (h : b.still = true) :
    (s.doWantExpiry l).get b = s.get b := by
  unfold State.doWantExpiry
  dsimp only
  split
  · rw [State.still_settle _ h]
    rcases Block.still_cases h with rfl | rfl <;> rfl
  · rfl
theorem State.still_doSteerExpiry (p : DownPort) (h : b.still = true) :
    (s.doSteerExpiry p).get b = s.get b := by
  unfold State.doSteerExpiry
  split
  · rfl
  · split
    · rw [State.still_settle _ h]
      rcases Block.still_cases h with rfl | rfl <;> simp
    · rfl
theorem State.still_enterPark (h : b.still = true) : s.enterPark.get b = s.get b := by
  rcases Block.still_cases h with rfl | rfl <;> simp
theorem State.still_sendAsks (f : UpPort → Station) (ps : List UpPort) (h : b.still = true) :
    ∀ s : State, (ps.foldl (fun t p => t.sendPrompt (f p) .dozeAsk) s).get b = s.get b := by
  induction ps with
  | nil => intro s; rfl
  | cons p ps ih =>
    intro s
    rw [List.foldl_cons, ih]
    rcases Block.still_cases h with rfl | rfl <;> simp
theorem State.still_doParkDelayExpiry (h : b.still = true) : s.doParkDelayExpiry.get b = s.get b := by
  unfold State.doParkDelayExpiry
  dsimp only
  split
  · split
    · rw [State.still_settle _ h, State.still_enterPark _ h]
    · rw [State.still_settle _ h, State.still_sendAsks _ _ h]
      rcases Block.still_cases h with rfl | rfl <;> rfl
  · rfl
theorem State.still_doDozeReplyTimeout (h : b.still = true) : s.doDozeReplyTimeout.get b = s.get b := by
  unfold State.doDozeReplyTimeout
  split
  · rw [State.still_settle _ h]
    rcases Block.still_cases h with rfl | rfl <;> rfl
  · rfl
theorem State.still_doPoll (h : b.still = true) : s.doPoll.get b = s.get b := by
  unfold State.doPoll
  dsimp only
  split
  · rw [State.still_settle _ h]
    split
    · rw [State.still_wake _ h]
      rcases Block.still_cases h with rfl | rfl <;> rfl
    · rcases Block.still_cases h with rfl | rfl <;> rfl
  · rfl
theorem State.still_doNeighbourSilent (p : Port) (h : b.still = true) :
    (s.doNeighbourSilent p).get b = s.get b := by
  unfold State.doNeighbourSilent
  dsimp only
  split
  · rfl
  · rw [State.still_settle _ h]
    rcases Block.still_cases h with rfl | rfl <;> cases p <;> simp [State.clearNoted]
theorem State.still_doStatusTimer (h : b.still = true) : s.doStatusTimer.get b = s.get b := by
  unfold State.doStatusTimer
  split
  · rw [State.still_settle _ h]
    rcases Block.still_cases h with rfl | rfl <;> simp
  · rfl
theorem State.still_doAckKeyPress (h : b.still = true) : s.doAckKeyPress.get b = s.get b := by
  unfold State.doAckKeyPress
  dsimp only
  split
  · rw [State.still_settle _ h, State.still_pressWakes _ h]
    rcases Block.still_cases h with rfl | rfl <;> rfl
  · rfl
theorem State.still_doAckKeyRelease (h : b.still = true) : s.doAckKeyRelease.get b = s.get b := by
  unfold State.doAckKeyRelease
  dsimp only
  split
  · split
    · rcases Block.still_cases h with rfl | rfl <;> rfl
    · rw [State.still_settle _ h]
      have e := (State.still_holdFlush s.holdClear h).trans (State.still_holdClear s h)
      split
      · rw [State.still_ackTop _ h, ← e]
        rcases Block.still_cases h with rfl | rfl <;> rfl
      · rw [← e]
        rcases Block.still_cases h with rfl | rfl <;> rfl
  · rfl
theorem State.still_doAckKeyHoldClear (h : b.still = true) : s.doAckKeyHoldClear.get b = s.get b := by
  unfold State.doAckKeyHoldClear
  split
  · rfl
  · split
    · rw [State.still_settle _ h, State.still_holdClear _ h]
    · rfl
theorem State.still_doAckKeyHoldFlush (h : b.still = true) : s.doAckKeyHoldFlush.get b = s.get b := by
  unfold State.doAckKeyHoldFlush
  split
  · rfl
  · split
    · rw [State.still_settle _ h, State.still_holdFlush _ h, State.still_holdClear _ h]
    · rfl
theorem State.still_doAttentionLampFlash (h : b.still = true) :
    s.doAttentionLampFlash.get b = s.get b := by
  unfold State.doAttentionLampFlash
  split <;> rcases Block.still_cases h with rfl | rfl <;> rfl
theorem State.still_doEstopOpen (h : b.still = true) : s.doEstopOpen.get b = s.get b := by
  unfold State.doEstopOpen
  split
  · rw [State.still_settle _ h]
    rcases Block.still_cases h with rfl | rfl <;> simp
  · rfl
theorem State.still_doEstopClose (h : b.still = true) : s.doEstopClose.get b = s.get b := by
  unfold State.doEstopClose
  split
  · rw [State.still_settle _ h]
    rcases Block.still_cases h with rfl | rfl <;> simp
  · rfl
theorem State.still_enterUnset (d : Nat) (h : b.still = true) : (s.enterUnset d).get b = s.get b := by
  rcases Block.still_cases h with rfl | rfl
  · exact (State.get_raiseStanding (b := .cu) _ _ _ (by decide) (by decide)).trans
      (State.get_queueStatus (b := .cu) _ (by decide))
  · exact (State.get_raiseStanding (b := .pending) _ _ _ (by decide) (by decide)).trans
      (State.get_queueStatus (b := .pending) _ (by decide))
theorem State.still_doStationNumberRead (h : b.still = true) :
    s.doStationNumberRead.get b = s.get b := by
  unfold State.doStationNumberRead
  dsimp only
  split
  · rfl
  · split
    · split
      · rw [State.still_settle _ h, State.still_enterUnset _ _ h]
        rcases Block.still_cases h with rfl | rfl <;> rfl
      · rw [State.still_settle _ h]
        rcases Block.still_cases h with rfl | rfl <;> rfl
    · rfl

/-- Every event of a list leaves a block as it is. -/
def LeavesAll (b : Block) (l : List (State → State)) : Prop := ∀ f ∈ l, ∀ t : State, (f t).get b = t.get b

theorem LeavesAll.nil : LeavesAll b [] := fun _ h => absurd h List.not_mem_nil
theorem LeavesAll.cons {f : State → State} {l : List (State → State)} (h : ∀ t : State, (f t).get b = t.get b)
    (hl : LeavesAll b l) : LeavesAll b (f :: l) := List.forall_mem_cons.2 ⟨h, hl⟩
theorem LeavesAll.append {l m : List (State → State)} (hl : LeavesAll b l) (hm : LeavesAll b m) :
    LeavesAll b (l ++ m) := List.forall_mem_append.2 ⟨hl, hm⟩
theorem LeavesAll.map {α : Type} {g : α → State → State} (h : ∀ x (t : State), (g x t).get b = t.get b)
    (l : List α) : LeavesAll b (l.map g) := List.forall_mem_map.2 fun x _ => h x
theorem LeavesAll.replicate {f : State → State} (h : ∀ t : State, (f t).get b = t.get b) (n : Nat) :
    LeavesAll b (List.replicate n f) := fun g hg => by rw [List.eq_of_mem_replicate hg]; exact h
theorem LeavesAll.foldl {l : List (State → State)} (hl : LeavesAll b l) :
    ∀ t : State, (l.foldl (fun t f => f t) t).get b = t.get b := by
  induction l with
  | nil => intro t; rfl
  | cons f l ih =>
    intro t
    rw [List.foldl_cons, ih (fun g hg => hl g (List.mem_cons_of_mem _ hg)), hl f List.mem_cons_self]

/-- Every want that is due leaves a block of `Block.still` as it is. -/
theorem State.still_wantExpiries (h : b.still = true) (l : List HeardWant) :
    ∀ t : State, (l.foldl (fun u w => u.doWantExpiry w.station) t).get b = t.get b := by
  induction l with
  | nil => intro t; rfl
  | cons w l ih => intro t; rw [List.foldl_cons, ih, State.still_doWantExpiry _ _ h]

/-- Every event that may be due leaves the belt count and the queue of commands as they are. -/
theorem leavesAll_dueEvents (h : b.still = true) : LeavesAll b dueEvents := by
  have missed : LeavesAll b (Eye.all.flatMap fun e => List.replicate 12 fun t => State.doCheckMissed t e) := by
    intro f hf
    obtain ⟨e, -, he⟩ := List.mem_flatMap.1 hf
    exact LeavesAll.replicate (fun t => State.still_doCheckMissed t e h) 12 f he
  unfold dueEvents
  refine .append (.append (.append (.append (.append (.append (.append (.append (.append (.append (.append
    (.append (.append (.append (.append (.append (.cons (fun t => t.still_doUnsteadyOver h) .nil)
    (.map (fun e t => t.still_doEyeEdgeConfirm e h) _))
    (.map (fun e t => t.still_doEyeFirstState e h) _)) missed)
    (.map (fun e t => t.still_doEyeJam e h) _)) (.map (fun e t => t.still_doEyeStuck e h) _)) ?_)
    (.replicate (fun t => t.still_doRecordVanish h) _)) ?_)
    (.replicate (fun t => t.still_doWhereSent h) _)) (.replicate (fun t => t.still_doTransferExpiry h) _)) ?_)
    (.map (fun n t => t.still_doClassKeyPress n h) _)) ?_)
    (.map (fun p t => t.still_doNeighbourSilent p h) _)) ?_)
    (.map (fun n t => t.still_doKeyRelease _ h) _)
  · exact .cons (fun t => t.still_doReaderTimeout h) .nil
  · exact .cons (fun t => t.still_doResidenceExposureMet h) <| .cons (fun t => t.still_doWindowEnd h) <|
      .cons (fun t => t.still_doBeltUnsteady h) <| .cons (fun t => t.still_doSpinUpExpiry h) <|
      .cons (fun t => t.still_doOfferResend h) .nil
  · exact .cons (fun t => t.still_doEntryReady h) <| .cons (fun t => t.still_doSlotArrivalExpiry h) <|
      .cons (fun t => t.still_doSlotArrivalExpiry h) <| .cons (fun t => t.still_doGateSettle h) <|
      .cons (fun t => t.still_doPatienceExpiry h) .nil
  · exact .cons (fun t => t.still_doSendKeyPress h) <| .cons (fun t => t.still_doEmptyKeyPress h) <|
      .cons (fun t => t.still_doWantTimer h) <| .cons (fun t => t.still_doCallLampFlash h) <|
      .cons (fun t => State.still_wantExpiries h _ t) <| .cons (fun t => t.still_doSteerExpiry _ h) <|
      .cons (fun t => t.still_doSteerExpiry _ h) <| .cons (fun t => t.still_doParkDelayExpiry h) <|
      .cons (fun t => t.still_doDozeReplyTimeout h) <| .cons (fun t => t.still_doPoll h) .nil
  · exact .cons (fun t => t.still_doStatusTimer h) <| .cons (fun t => t.still_doAckKeyPress h) <|
      .cons (fun t => t.still_doAckKeyRelease h) <| .cons (fun t => t.still_doAckKeyHoldClear h) <|
      .cons (fun t => t.still_doAckKeyHoldFlush h) <| .cons (fun t => t.still_doAttentionLampFlash h) <|
      .cons (fun t => t.still_doEstopOpen h) <| .cons (fun t => t.still_doEstopClose h) <|
      .cons (fun t => t.still_doStationNumberRead h) <| .cons (fun t => t.still_doKeyRelease _ h) <|
      .cons (fun t => t.still_doKeyRelease _ h) .nil

/-- What is due is taken without a change of the belt count or of the queue of commands. -/
theorem State.still_takeDue (h : b.still = true) : s.takeDue.get b = s.get b := by
  rw [← (leavesAll_dueEvents h).foldl s, State.takeDue]
  generalize dueEvents.foldl (fun t f => f t) s = t
  rcases Block.still_cases h with rfl | rfl <;> rfl

/-! ### Frames, replies, start-up, sending -/

theorem State.still_refresh (x : Station) (h : b.still = true) : (s.refresh x).get b = s.get b := by
  unfold State.refresh
  dsimp only
  split <;> rcases Block.still_cases h with rfl | rfl <;> simp
theorem State.still_onSkipped (x : Station) (n : Serial) (h : b.still = true) :
    (s.onSkipped x n).get b = s.get b := by
  unfold State.onSkipped
  split
  · rfl
  · split
    · rfl
    · dsimp only
      split <;> rcases Block.still_cases h with rfl | rfl <;>
        (first | (unfold State.passOn; split) | skip) <;> simp [State.giveUp]
theorem State.still_onOffer (x : Station) (n : Serial) (i : Image) (h : b.still = true) :
    (s.onOffer x n i).get b = s.get b := by
  rcases Block.still_cases h with rfl | rfl <;>
    (unfold State.onOffer State.answerOffer State.noteOffer State.offerRoute; dsimp only
     (repeat' split) <;> simp)
theorem State.still_dropSteered {s t : State} {p : DownPort} {q : Steered → Bool} (h : b.still = true)
    (hd : s.dropSteered p q = some t) : t.get b = s.get b := by
  obtain ⟨l, -, rfl⟩ := Option.map_eq_some_iff.1 hd
  rcases Block.still_cases h with rfl | rfl <;> simp
theorem State.still_rackInSteered (x : Station) (n : RackNo) (h : b.still = true) :
    (s.rackInSteered x n).get b = s.get b := by
  unfold State.rackInSteered
  extract_lets w first numbered
  have k : ∀ t, numbered = some t → t.get b = s.get b := by
    intro t ht
    simp only [numbered] at ht
    split at ht
    · cases ht
    · split at ht
      · cases ht
        rename_i e
        exact State.still_dropSteered h e
      · exact State.still_dropSteered h ht
  clear_value numbered
  cases numbered with
  | some t => exact k t rfl
  | none =>
    clear_value w
    cases w with
    | none => rfl
    | some q =>
      cases e : s.dropSteered q (fun x => x.number == notag) with
      | some t =>
        simp only [e, Option.getD_some]
        exact State.still_dropSteered h e
      | none => simp only [e, Option.getD_none]
theorem State.still_deliverFrame (h' : Hdr) (p : Payload) (h : b.still = true) :
    (s.deliverFrame h' p).get b = s.get b := by
  have off (f : State → State) (hf : (f s).get b = s.get b) : (s.handOffFrame h' f).get b = s.get b := by
    unfold State.handOffFrame
    split
    · rw [State.still_wake _ h, hf]
    · rfl
  have cond (c : Bool) (t : State) (ht : t.get b = s.get b) : (if c then t else s).get b = s.get b := by
    split
    · exact ht
    · rfl
  cases p <;> simp only [State.deliverFrame]
  case offer n i _ => exact off _ (State.still_onOffer _ _ _ _ h)
  case take n =>
    refine off _ ?_
    rcases Block.still_cases h with rfl | rfl <;> (unfold State.onTake; split <;> simp)
  case wait n =>
    refine off _ ?_
    rcases Block.still_cases h with rfl | rfl <;> (unfold State.onAnswer; split <;> simp)
  case refuse n _ =>
    refine off _ ?_
    rcases Block.still_cases h with rfl | rfl <;> (unfold State.onAnswer; split <;> simp)
  case withdraw n =>
    refine off _ ?_
    rcases Block.still_cases h with rfl | rfl <;>
      (unfold State.onWithdraw; dsimp only; (repeat' split) <;> simp)
  case landed n k st =>
    refine off _ ?_
    split
    · rcases Block.still_cases h with rfl | rfl <;>
        (unfold State.onLanded State.answerLanded State.lateLanding; dsimp only; (repeat' split) <;> simp)
    · exact State.still_onSkipped _ _ _ h
  case whereIs n =>
    refine off _ ?_
    rcases Block.still_cases h with rfl | rfl <;> (unfold State.onWhere; (repeat' split) <;> simp)
  case notSeen n => exact off _ rfl
  case stall =>
    refine cond _ _ ?_
    rcases Block.still_cases h with rfl | rfl <;> (unfold State.onStall; (repeat' split) <;> simp)
  case go v =>
    refine cond _ _ ?_
    rcases Block.still_cases h with rfl | rfl <;> (unfold State.onGo; dsimp only; split <;> simp)
  case dozeAsk =>
    refine cond _ _ ?_
    rcases Block.still_cases h with rfl | rfl <;> (unfold State.onDozeAsk; (repeat' split) <;> simp)
  case dozeAllow =>
    refine cond _ _ ?_
    rcases Block.still_cases h with rfl | rfl <;>
      (unfold State.onDozeAllow; dsimp only; (repeat' split) <;> simp)
  case dozeDeny =>
    refine cond _ _ ?_
    rcases Block.still_cases h with rfl | rfl <;> (unfold State.onDozeDeny; (repeat' split) <;> simp)
  case want n =>
    rcases Block.still_cases h with rfl | rfl <;> (unfold State.onWant; dsimp only; split <;> simp)
  case rackIn k st =>
    unfold State.onRackIn
    split
    · exact State.still_rackInSteered _ _ _ h
    · rfl
  case status i => rcases Block.still_cases h with rfl | rfl <;> simp [State.onStatus]
  case ask =>
    refine cond _ _ ?_
    rcases Block.still_cases h with rfl | rfl <;> (unfold State.onAsk; split <;> simp)
  case ack => exact cond _ _ (cond _ _ (State.still_ackTop _ h))
  case clear => exact cond _ _ (cond _ _ (State.still_clearAll _ h))
  case flush => exact cond _ _ (cond _ _ (State.still_flushAll _ h))
theorem State.still_receive (h' : Hdr) (p : Payload) (h : b.still = true) :
    (s.receive h' p).get b = s.get b := by
  unfold State.receive
  split
  · rw [State.still_settle _ h, State.still_deliverFrame _ _ _ h, State.still_refresh _ _ h]
  · rfl
theorem State.still_receiveRun (cs : List RxChar) (h : b.still = true) :
    (s.receiveRun cs).get b = s.get b := by
  unfold State.receiveRun
  split
  · exact State.still_receive _ _ _ h
  · rfl
theorem State.still_tagReply (x : TagReply) (h : b.still = true) : (s.tagReply x).get b = s.get b := by
  unfold State.tagReply
  split
  · rfl
  · rcases Block.still_cases h with rfl | rfl <;> rfl
  · split <;>
      exact (State.still_tagDeliver _ _ _ h).trans
        (by rcases Block.still_cases h with rfl | rfl <;> rfl)
theorem State.still_doTagReplyComplete (x y z : Byte) (h : b.still = true) :
    (s.doTagReplyComplete x y z).get b = s.get b := by
  unfold State.doTagReplyComplete
  split
  · rw [State.still_settle _ h, State.still_tagReply _ _ h]
  · rfl
theorem State.still_doTagReplyGap (x : Byte) (y : Option Byte) (h : b.still = true) :
    (s.doTagReplyGap x y).get b = s.get b := by
  unfold State.doTagReplyGap
  split
  · rw [State.still_settle _ h, State.still_tagReply _ _ h]
  · rfl
theorem State.still_doProfileRead (img : List Byte) (h : b.still = true) :
    (s.doProfileRead img).get b = s.get b := by
  unfold State.doProfileRead
  dsimp only
  split
  · rfl
  · split
    · split
      · rw [State.still_settle _ h, State.still_enterUnset _ _ h]
        rcases Block.still_cases h with rfl | rfl <;> rfl
      · rw [State.still_settle _ h]
        rcases Block.still_cases h with rfl | rfl
        · exact State.get_queueStatus (b := .cu) _ (by decide)
        · exact State.get_queueStatus (b := .pending) _ (by decide)
    · rfl
theorem State.still_doSendStart (q : Nat) (h : b.still = true) : (s.doSendStart q).get b = s.get b := by
  rcases Block.still_cases h with rfl | rfl <;> (unfold State.doSendStart; (repeat' split) <;> rfl)
theorem State.still_doFrameSent (h : b.still = true) : s.doFrameSent.get b = s.get b := by
  rcases Block.still_cases h with rfl | rfl <;> (unfold State.doFrameSent; (repeat' split) <;> rfl)
theorem State.still_doCollision (h : b.still = true) : s.doCollision.get b = s.get b := by
  unfold State.doCollision
  dsimp only
  split
  · rfl
  · split
    · split
      · rcases Block.still_cases h with rfl | rfl <;> rfl
      · rw [State.still_settle _ h]
        rcases Block.still_cases h with rfl | rfl <;> simp
    · rfl

end Sys2Proof.Machine
end

