-- ==== Sys2Proof/Laws/Kept.lean ====
section
/-! SUPPORT. What the derived actions leave alone, operation by operation: `(op s).kept = s.kept` for each shared
operation that settling runs, and how to read a field back from `State.kept`. -/

namespace Sys2Proof.Machine

variable (s t : State)

/-! ### Reading `kept` -/

theorem State.kept_boot_eq (h : t.kept = s.kept) : t.boot = s.boot := (congrArg State.boot h :)
theorem State.kept_cu_eq (h : t.kept = s.kept) : t.cu = s.cu := (congrArg State.cu h :)
theorem State.kept_tag_eq (h : t.kept = s.kept) : t.tag = s.tag := (congrArg State.tag h :)
theorem State.kept_nextId_eq (h : t.kept = s.kept) : t.nextId = s.nextId := (congrArg State.nextId h :)
theorem State.kept_pending_eq (h : t.kept = s.kept) : t.pending = s.pending := (congrArg State.pending h :)
theorem State.kept_track_eq (h : t.kept = s.kept) : t.track.map Rec.kept = s.track.map Rec.kept :=
  (congrArg State.track h :)
theorem State.kept_m16_eq (h : t.kept = s.kept) : t.dr.m16 = s.dr.m16 :=
  (congrArg (fun u : State => u.dr.m16) h :)
theorem State.kept_vmeas_eq (h : t.kept = s.kept) : t.dr.vmeas = s.dr.vmeas :=
  (congrArg (fun u : State => u.dr.vmeas) h :)
theorem State.kept_wants_eq (h : t.kept = s.kept) : t.rt.wants = s.rt.wants :=
  (congrArg (fun u : State => u.rt.wants) h :)
theorem State.kept_lastChoice_eq (h : t.kept = s.kept) : t.rt.lastChoice = s.rt.lastChoice :=
  (congrArg (fun u : State => u.rt.lastChoice) h :)
theorem State.kept_landLog_eq (h : t.kept = s.kept) (p : UpPort) : t.landLog p = s.landLog p := by
  cases p
  · exact (congrArg (fun u : State => u.en.log0) h :)
  · exact (congrArg (fun u : State => u.en.log1) h :)
theorem State.kept_tick_eq (h : t.kept = s.kept) : t.line.tick = s.line.tick :=
  (congrArg (fun u : State => u.line.tick) h :)
theorem State.kept_statusTimer_eq (h : t.kept = s.kept) : t.line.statusTimer = s.line.statusTimer :=
  (congrArg (fun u : State => u.line.statusTimer) h :)
theorem State.kept_neigh_eq (h : t.kept = s.kept) (p : Port) : t.neigh p = s.neigh p := by
  cases p
  · exact (congrArg (fun u : State => u.line.u0) h :)
  · exact (congrArg (fun u : State => u.line.u1) h :)
  · exact (congrArg (fun u : State => u.line.d0) h :)
  · exact (congrArg (fun u : State => u.line.d1) h :)
theorem State.kept_selected_eq (h : t.kept = s.kept) : t.bay.selected = s.bay.selected :=
  (congrArg (fun u : State => u.bay.selected) h :)
theorem State.kept_wantTimer_eq (h : t.kept = s.kept) : t.bay.wantTimer = s.bay.wantTimer :=
  (congrArg (fun u : State => u.bay.wantTimer) h :)
theorem State.kept_classKeys_eq (h : t.kept = s.kept) : t.bay.classKeys = s.bay.classKeys :=
  (congrArg (fun u : State => u.bay.classKeys) h :)
theorem State.kept_lead_eq (h : t.kept = s.kept) : t.eyes.lead = s.eyes.lead :=
  (congrArg (fun u : State => u.eyes.lead) h :)
theorem State.kept_leadFresh_eq (h : t.kept = s.kept) : t.eyes.leadFresh = s.eyes.leadFresh :=
  (congrArg (fun u : State => u.eyes.leadFresh) h :)
theorem State.kept_chan_eq (h : t.kept = s.kept) (e : Eye) : (t.chan e).kept = (s.chan e).kept := by
  cases e
  · exact (congrArg (fun u : State => u.eyes.entry) h :)
  · exact (congrArg (fun u : State => u.eyes.exit) h :)
  · exact (congrArg (fun u : State => u.eyes.checkA) h :)
  · exact (congrArg (fun u : State => u.eyes.checkB) h :)
  · exact (congrArg (fun u : State => u.eyes.gate) h :)
  · exact (congrArg (fun u : State => u.eyes.bay) h :)

/-- The causes that a derived action can raise or end. -/
def derivedCause : Cause → Bool
  | .lineOverrun => true
  | .misroute => true
  | .beltUnsteady => true
  | _ => false

theorem State.kept_cause_eq (h : t.kept = s.kept) (c : Cause) (hc : derivedCause c = false) :
    t.cause c = s.cause c := by
  have k (u : State) : u.kept.cause c = u.cause c := by
    cases c <;> first | rfl | exact absurd hc (by decide)
  rw [← k t, h, k s]

/-- A record of `s` has one in `t` with the same kept fields. -/
theorem State.kept_mem (h : t.kept = s.kept) {r : Rec} (hr : r ∈ s.track) :
    ∃ q ∈ t.track, q.kept = r.kept := by
  have h' := State.kept_track_eq s t h
  have : r.kept ∈ t.track.map Rec.kept := h' ▸ List.mem_map_of_mem hr
  simpa using this

/-! ### Access -/

theorem State.kept_updRec (i : Nat) (f : Rec → Rec) (hf : ∀ r, (f r).kept = r.kept) :
    (s.updRec i f).kept = s.kept := by
  have : (s.track.map fun r => if r.id = i then f r else r).map Rec.kept = s.track.map Rec.kept := by
    rw [List.map_map]
    refine List.map_congr_left fun r _ => ?_
    simp only [Function.comp]
    split
    · exact hf r
    · rfl
  unfold State.kept State.updRec
  simp only [this]

@[simp] theorem State.kept_setSpan (p : DownPort) (w : SpanWord) : (s.setSpan p w).kept = s.kept := by
  cases p <;> rfl
@[simp] theorem State.kept_setSlot (n : SlotName) (x : Option Slot) : (s.setSlot n x).kept = s.kept := by
  cases n <;> rfl
@[simp] theorem State.kept_setNoted (p : UpPort) (x : Option Noted) : (s.setNoted p x).kept = s.kept := by
  cases p <;> rfl
@[simp] theorem State.kept_setStallMark (p : UpPort) (x : Bool) : (s.setStallMark p x).kept = s.kept := by
  cases p <;> rfl
@[simp] theorem State.kept_setSteered (p : DownPort) (x : List Steered) :
    (s.setSteered p x).kept = s.kept := by
  cases p <;> rfl
@[simp] theorem State.kept_bumpSerial (p : DownPort) : (s.bumpSerial p).kept = s.kept := by
  cases p <;> rfl
theorem State.kept_updChan (e : Eye) (f : EyeChan → EyeChan) (hf : ∀ c, (f c).kept = c.kept) :
    (s.updChan e f).kept = s.kept := by
  cases e <;> simp [State.updChan, State.setChan, State.chan, State.kept, Eyes.kept, hf]
@[simp] theorem State.kept_setCause (c : Cause) (e : CauseEntry) (hc : derivedCause c = true) :
    (s.setCause c e).kept = s.kept := by
  cases c <;> first | rfl | exact absurd hc (by decide)
@[simp] theorem State.kept_changeCause (c : Cause) (e : CauseEntry) (hc : derivedCause c = true) :
    (s.changeCause c e).kept = s.kept := State.kept_setCause s c e hc
@[simp] theorem State.kept_level (n : Fin 4) :
    State.kept { s with att := { s.att with level := n } } = s.kept := rfl

/-! ### Line and causes -/

@[simp] theorem State.kept_setQueue (q : List Frame) : (s.setQueue q).kept = s.kept := by
  simp only [State.setQueue, Line.refill]; split <;> rfl
@[simp] theorem State.kept_offerRoutine (f : Frame) : (s.offerRoutine f).kept = s.kept := by
  unfold State.offerRoutine; split <;> simp
@[simp] theorem State.kept_offerCoalesced (p : Payload → Bool) (f : Frame) :
    (s.offerCoalesced p f).kept = s.kept := by unfold State.offerCoalesced; split <;> simp
@[simp] theorem State.kept_queueStatus : s.queueStatus.kept = s.kept := by simp [State.queueStatus]
@[simp] theorem State.kept_queueWant : s.queueWant.kept = s.kept := by simp [State.queueWant]
@[simp] theorem State.kept_recomputeLevel : s.recomputeLevel.kept = s.kept := by
  unfold State.recomputeLevel; split <;> simp
@[simp] theorem State.kept_raise (c : Cause) (d : Nat) (hc : derivedCause c = true) :
    (s.raise c d).kept = s.kept := by
  unfold State.raise; dsimp only; split <;> (try split) <;> simp [hc]
@[simp] theorem State.kept_sendPrompt (d : Station) (p : Payload) : (s.sendPrompt d p).kept = s.kept := by
  unfold State.sendPrompt
  split
  · split
    · exact State.kept_setQueue _ _
    · exact State.kept_raise _ _ _ rfl
  · rfl
@[simp] theorem State.kept_endUnsteady : (s.conditionEnd .beltUnsteady).kept = s.kept := by
  unfold State.conditionEnd
  dsimp only
  split
  · simp only [State.absentAll, List.foldl, State.kept_recomputeLevel, State.absentOne]
    split
    · exact State.kept_setCause _ _ _ rfl
    · exact (State.kept_changeCause _ _ _ rfl).trans (State.kept_setCause _ _ _ rfl)
  · exact State.kept_setCause _ _ _ rfl

/-! ### Track -/

theorem Rec.kept_withdrawn (r : Rec) : r.withdrawn.kept = r.kept := rfl
theorem Rec.kept_misrouted (r : Rec) :
    Rec.kept { r with flags := Flags.union r.flags { misrouted := true },
                      localFlags := Flags.union r.localFlags { misrouted := true } } = r.kept := by
  simp [Rec.kept, Flags.union]

@[simp] theorem State.kept_stopFired : s.stopFired.kept = s.kept := by
  unfold State.stopFired
  dsimp only
  split
  · rfl
  · split
    · split
      · exact ((State.kept_raise _ _ _ rfl).trans (State.kept_updRec _ _ _ Rec.kept_misrouted)).trans
          (State.kept_updRec _ _ _ fun _ => rfl)
      · exact State.kept_updRec _ _ _ fun _ => rfl
    · rfl
@[simp] theorem State.kept_loadGroup (r : Rec) : (s.loadGroup r).kept = s.kept := by
  unfold State.loadGroup; dsimp only; split
  · rw [State.kept_stopFired]; rfl
  · rfl
@[simp] theorem State.kept_wantStep : s.wantStep.kept = s.kept := by
  unfold State.wantStep
  dsimp only
  split
  · split
    · rw [State.kept_queueWant]; rfl
    · rfl
  · rfl
@[simp] theorem State.kept_callLampStep : s.callLampStep.kept = s.kept := rfl
@[simp] theorem State.kept_bayFollows : s.bayFollows.kept = s.kept := by
  unfold State.bayFollows; rw [State.kept_callLampStep, State.kept_wantStep]
@[simp] theorem State.kept_rehead : s.rehead.kept = s.kept := by
  unfold State.rehead
  dsimp only
  split
  · split
    · rfl
    · rw [State.kept_loadGroup]
      split
      · exact State.kept_updRec _ _ _ fun _ => rfl
      · rfl
  · split
    · rfl
    · split <;> rfl
@[simp] theorem State.kept_sendWithdraw (r : Rec) : (s.sendWithdraw r).kept = s.kept := by
  unfold State.sendWithdraw; dsimp only; split
  · rw [State.kept_sendPrompt]; rfl
  · rfl
@[simp] theorem State.kept_withdrawHead : s.withdrawHead.kept = s.kept := by
  unfold State.withdrawHead
  split
  · split
    · rw [State.kept_updRec _ _ _ Rec.kept_withdrawn, State.kept_sendWithdraw]
    · rfl
  · rfl
theorem State.kept_release (r : Rec) (f : Rec → Rec) (hf : ∀ q, (f q).kept = q.kept) :
    (s.release r f).kept = s.kept := by
  unfold State.release
  extract_lets s₁ s₂ c₁ s₃
  have e₁ : s₁.kept = s.kept := s.kept_updRec _ _ fun q => (hf _).trans rfl
  have e₂ : s₂.kept = s₁.kept := by simp only [s₂]; split <;> rfl
  have e₃ : s₃.kept = s₂.kept := rfl
  rw [State.kept_rehead, State.kept_callLampStep, e₃, e₂, e₁]
@[simp] theorem State.kept_steeredAdd (p : DownPort) (n : RackNo) (st : Station) :
    (s.steeredAdd p n st).kept = s.kept := by simp [State.steeredAdd]

/-! ### Drive and idle logic -/

@[simp] theorem State.kept_sendStalls : s.sendStalls.kept = s.kept := by
  simp only [State.sendStalls, List.foldl]; (repeat' split) <;> simp
@[simp] theorem State.kept_sendGos : s.sendGos.kept = s.kept := by
  simp only [State.sendGos, List.foldl]; (repeat' split) <;> simp
@[simp] theorem State.kept_leaveRun : s.leaveRun.kept = s.kept := by
  unfold State.leaveRun; dsimp only; split
  · rw [State.kept_endUnsteady]; rfl
  · rfl
@[simp] theorem State.kept_enterHold : s.enterHold.kept = s.kept := by
  have h : (if s.dr.belt = .run then s.leaveRun else s).kept = s.kept := by split <;> simp
  refine Eq.trans ?_ h
  unfold State.enterHold
  dsimp only
  rw [State.kept_sendStalls, State.kept_queueStatus]
  generalize (if s.dr.belt = .run then s.leaveRun else s) = u at h
  have m : u.dr.m16 = u.dr.m16 := rfl
  rfl
@[simp] theorem State.kept_enterSpinUp (f : Bool) : (s.enterSpinUp f).kept = s.kept := by
  simp only [State.enterSpinUp, State.kept_sendGos, State.kept_queueStatus]; rfl
@[simp] theorem State.kept_enterRegulated (b : BeltState) (n : Nat) :
    (s.enterRegulated b n).kept = s.kept := by
  simp only [State.enterRegulated, State.kept_queueStatus]; rfl
@[simp] theorem State.kept_switchRegulated (b : BeltState) : (s.switchRegulated b).kept = s.kept := by
  have h : (if s.dr.belt = .run then s.leaveRun else s).kept = s.kept := by split <;> simp
  refine Eq.trans ?_ h
  simp only [State.switchRegulated, State.kept_queueStatus]; rfl
@[simp] theorem State.kept_followBelt : s.followBelt.kept = s.kept := by
  unfold State.followBelt; (repeat' split) <;> first | rfl | simp
@[simp] theorem State.kept_updateTarget : s.updateTarget.kept = s.kept := by
  unfold State.updateTarget; dsimp only; (repeat' split) <;> rfl
@[simp] theorem State.kept_freeSpans : s.freeSpans.kept = s.kept := by
  unfold State.freeSpans; dsimp only; (repeat' split) <;> simp
@[simp] theorem State.kept_leavePark : s.leavePark.kept = s.kept := by
  simp only [State.leavePark, State.kept_enterSpinUp]; rfl
@[simp] theorem State.kept_wake : s.wake.kept = s.kept := by
  unfold State.wake; (repeat' split) <;> first | rfl | simp
@[simp] theorem State.kept_pendingWake : s.pendingWake.kept = s.kept := by
  unfold State.pendingWake; split <;> simp
@[simp] theorem State.kept_startTiming : s.startTiming.kept = s.kept := rfl
@[simp] theorem State.kept_followIdle : s.followIdle.kept = s.kept := by
  unfold State.followIdle; (repeat' split) <;> rfl

/-! ### The parts of a pass -/

@[simp] theorem State.kept_discardReused (p : DownPort) (n : Serial) :
    (s.discardReused p n).kept = s.kept := by unfold State.discardReused; split <;> rfl
@[simp] theorem State.kept_sendOffer (r : Rec) (p : DownPort) : (s.sendOffer r p).kept = s.kept := by
  unfold State.sendOffer
  extract_lets n s₁ s₂ s₃ c s₄
  have e₂ : s₂.kept = s.kept := by
    refine (State.kept_updRec _ _ _ ?_).trans (s.kept_bumpSerial p)
    exact fun _ => rfl
  have e₃ : s₃.kept = s₂.kept := s₂.kept_discardReused _ _
  have e₄ : s₄.kept = s₃.kept := rfl
  rw [State.kept_sendPrompt, e₄, e₃, e₂]
@[simp] theorem State.kept_releaseFree (r : Rec) (p : DownPort) : (s.releaseFree r p).kept = s.kept := by
  unfold State.releaseFree
  dsimp only
  split
  · exact (State.kept_steeredAdd _ _ _ _).trans (State.kept_release _ _ _ fun _ => rfl)
  · exact State.kept_release _ _ _ fun _ => rfl
theorem State.kept_offerLoop : ∀ (n : Nat) (s : State), (s.offerLoop n).kept = s.kept := by
  intro n
  induction n with
  | zero => intro s; rfl
  | succ n ih =>
    intro s
    unfold State.offerLoop
    split
    · rfl
    · dsimp only; rw [ih]; split <;> simp
@[simp] theorem State.kept_offerStep : s.offerStep.kept = s.kept := State.kept_offerLoop 13 s
@[simp] theorem State.kept_withdrawAtLevel3 : s.withdrawAtLevel3.kept = s.kept := by
  unfold State.withdrawAtLevel3; split <;> simp
@[simp] theorem State.kept_gateStep : s.gateStep.kept = s.kept := by
  unfold State.gateStep; (repeat' split) <;> rfl
@[simp] theorem State.kept_takeOffer (p : UpPort) (n : Serial) (i : Image) (rt : Option Route) :
    (s.takeOffer p n i rt).kept = s.kept := by
  unfold State.takeOffer
  split
  · rfl
  · extract_lets s₁ c s₂ s₃ d s₄
    have e₁ : s₁.kept = s.kept := s.kept_setSlot _ _
    have e₂ : s₂.kept = s₁.kept := rfl
    have e₃ : s₃.kept = s₂.kept := s₂.kept_setNoted _ _
    have e₄ : s₄.kept = s₃.kept := by simp only [s₄]; split <;> rfl
    rw [State.kept_sendPrompt, e₄, e₃, e₂, e₁]
@[simp] theorem State.kept_takeNoted (p : UpPort) : (s.takeNoted p).kept = s.kept := by
  unfold State.takeNoted; split <;> simp
@[simp] theorem State.kept_readyStep : s.readyStep.kept = s.kept := by simp [State.readyStep]
@[simp] theorem State.kept_attLampStep : s.attLampStep.kept = s.kept := rfl
@[simp] theorem State.kept_unaccountedStep : s.unaccountedStep.kept = s.kept := by
  simp only [State.unaccountedStep, List.foldl]
  refine (State.kept_updChan _ _ _ ?_).trans ((State.kept_updChan _ _ _ ?_).trans
    ((State.kept_updChan _ _ _ ?_).trans (State.kept_updChan _ _ _ ?_)))
  all_goals exact fun _ => rfl

end Sys2Proof.Machine
end

