-- ==== Sys2Proof/Laws/State.lean ====
section
/-! SUPPORT. What reads what after one of the primitive updates of Machine/Access.lean: every block the update
leaves alone, and the family member that was written or was not. -/

namespace Sys2Proof.Machine

variable (s : State)

/-! ### setChan -/

section
variable (e : Eye) (c : EyeChan)

@[simp] theorem State.boot_setChan : (s.setChan e c).boot = s.boot := by cases e <;> rfl
@[simp] theorem State.cu_setChan : (s.setChan e c).cu = s.cu := by cases e <;> rfl
@[simp] theorem State.marks_setChan : (s.setChan e c).marks = s.marks := by cases e <;> rfl
@[simp] theorem State.tag_setChan : (s.setChan e c).tag = s.tag := by cases e <;> rfl
@[simp] theorem State.track_setChan : (s.setChan e c).track = s.track := by cases e <;> rfl
@[simp] theorem State.nextId_setChan : (s.setChan e c).nextId = s.nextId := by cases e <;> rfl
@[simp] theorem State.dr_setChan : (s.setChan e c).dr = s.dr := by cases e <;> rfl
@[simp] theorem State.ex_setChan : (s.setChan e c).ex = s.ex := by cases e <;> rfl
@[simp] theorem State.en_setChan : (s.setChan e c).en = s.en := by cases e <;> rfl
@[simp] theorem State.gate_setChan : (s.setChan e c).gate = s.gate := by cases e <;> rfl
@[simp] theorem State.rt_setChan : (s.setChan e c).rt = s.rt := by cases e <;> rfl
@[simp] theorem State.bay_setChan : (s.setChan e c).bay = s.bay := by cases e <;> rfl
@[simp] theorem State.idle_setChan : (s.setChan e c).idle = s.idle := by cases e <;> rfl
@[simp] theorem State.line_setChan : (s.setChan e c).line = s.line := by cases e <;> rfl
@[simp] theorem State.att_setChan : (s.setChan e c).att = s.att := by cases e <;> rfl
@[simp] theorem State.found_setChan : (s.setChan e c).found = s.found := by cases e <;> rfl
@[simp] theorem State.pending_setChan : (s.setChan e c).pending = s.pending := by cases e <;> rfl

end

/-! ### updChan -/

section
variable (e : Eye) (f : EyeChan → EyeChan)

@[simp] theorem State.boot_updChan : (s.updChan e f).boot = s.boot := by cases e <;> rfl
@[simp] theorem State.cu_updChan : (s.updChan e f).cu = s.cu := by cases e <;> rfl
@[simp] theorem State.marks_updChan : (s.updChan e f).marks = s.marks := by cases e <;> rfl
@[simp] theorem State.tag_updChan : (s.updChan e f).tag = s.tag := by cases e <;> rfl
@[simp] theorem State.track_updChan : (s.updChan e f).track = s.track := by cases e <;> rfl
@[simp] theorem State.nextId_updChan : (s.updChan e f).nextId = s.nextId := by cases e <;> rfl
@[simp] theorem State.dr_updChan : (s.updChan e f).dr = s.dr := by cases e <;> rfl
@[simp] theorem State.ex_updChan : (s.updChan e f).ex = s.ex := by cases e <;> rfl
@[simp] theorem State.en_updChan : (s.updChan e f).en = s.en := by cases e <;> rfl
@[simp] theorem State.gate_updChan : (s.updChan e f).gate = s.gate := by cases e <;> rfl
@[simp] theorem State.rt_updChan : (s.updChan e f).rt = s.rt := by cases e <;> rfl
@[simp] theorem State.bay_updChan : (s.updChan e f).bay = s.bay := by cases e <;> rfl
@[simp] theorem State.idle_updChan : (s.updChan e f).idle = s.idle := by cases e <;> rfl
@[simp] theorem State.line_updChan : (s.updChan e f).line = s.line := by cases e <;> rfl
@[simp] theorem State.att_updChan : (s.updChan e f).att = s.att := by cases e <;> rfl
@[simp] theorem State.found_updChan : (s.updChan e f).found = s.found := by cases e <;> rfl
@[simp] theorem State.pending_updChan : (s.updChan e f).pending = s.pending := by cases e <;> rfl

end

/-! ### updChans -/

section
variable (f : EyeChan → EyeChan)

@[simp] theorem State.boot_updChans : (s.updChans f).boot = s.boot := rfl
@[simp] theorem State.cu_updChans : (s.updChans f).cu = s.cu := rfl
@[simp] theorem State.marks_updChans : (s.updChans f).marks = s.marks := rfl
@[simp] theorem State.tag_updChans : (s.updChans f).tag = s.tag := rfl
@[simp] theorem State.track_updChans : (s.updChans f).track = s.track := rfl
@[simp] theorem State.nextId_updChans : (s.updChans f).nextId = s.nextId := rfl
@[simp] theorem State.dr_updChans : (s.updChans f).dr = s.dr := rfl
@[simp] theorem State.ex_updChans : (s.updChans f).ex = s.ex := rfl
@[simp] theorem State.en_updChans : (s.updChans f).en = s.en := rfl
@[simp] theorem State.gate_updChans : (s.updChans f).gate = s.gate := rfl
@[simp] theorem State.rt_updChans : (s.updChans f).rt = s.rt := rfl
@[simp] theorem State.bay_updChans : (s.updChans f).bay = s.bay := rfl
@[simp] theorem State.idle_updChans : (s.updChans f).idle = s.idle := rfl
@[simp] theorem State.line_updChans : (s.updChans f).line = s.line := rfl
@[simp] theorem State.att_updChans : (s.updChans f).att = s.att := rfl
@[simp] theorem State.found_updChans : (s.updChans f).found = s.found := rfl
@[simp] theorem State.pending_updChans : (s.updChans f).pending = s.pending := rfl

end

/-! ### setCause -/

section
variable (c : Cause) (e : CauseEntry)

@[simp] theorem State.boot_setCause : (s.setCause c e).boot = s.boot := rfl
@[simp] theorem State.cu_setCause : (s.setCause c e).cu = s.cu := rfl
@[simp] theorem State.marks_setCause : (s.setCause c e).marks = s.marks := rfl
@[simp] theorem State.eyes_setCause : (s.setCause c e).eyes = s.eyes := rfl
@[simp] theorem State.tag_setCause : (s.setCause c e).tag = s.tag := rfl
@[simp] theorem State.track_setCause : (s.setCause c e).track = s.track := rfl
@[simp] theorem State.nextId_setCause : (s.setCause c e).nextId = s.nextId := rfl
@[simp] theorem State.dr_setCause : (s.setCause c e).dr = s.dr := rfl
@[simp] theorem State.ex_setCause : (s.setCause c e).ex = s.ex := rfl
@[simp] theorem State.en_setCause : (s.setCause c e).en = s.en := rfl
@[simp] theorem State.gate_setCause : (s.setCause c e).gate = s.gate := rfl
@[simp] theorem State.rt_setCause : (s.setCause c e).rt = s.rt := rfl
@[simp] theorem State.bay_setCause : (s.setCause c e).bay = s.bay := rfl
@[simp] theorem State.idle_setCause : (s.setCause c e).idle = s.idle := rfl
@[simp] theorem State.line_setCause : (s.setCause c e).line = s.line := rfl
@[simp] theorem State.found_setCause : (s.setCause c e).found = s.found := rfl
@[simp] theorem State.pending_setCause : (s.setCause c e).pending = s.pending := rfl

end

/-! ### setNeigh -/

section
variable (p : Port) (n : Option Neigh)

@[simp] theorem State.boot_setNeigh : (s.setNeigh p n).boot = s.boot := by cases p <;> rfl
@[simp] theorem State.cu_setNeigh : (s.setNeigh p n).cu = s.cu := by cases p <;> rfl
@[simp] theorem State.marks_setNeigh : (s.setNeigh p n).marks = s.marks := by cases p <;> rfl
@[simp] theorem State.eyes_setNeigh : (s.setNeigh p n).eyes = s.eyes := by cases p <;> rfl
@[simp] theorem State.tag_setNeigh : (s.setNeigh p n).tag = s.tag := by cases p <;> rfl
@[simp] theorem State.track_setNeigh : (s.setNeigh p n).track = s.track := by cases p <;> rfl
@[simp] theorem State.nextId_setNeigh : (s.setNeigh p n).nextId = s.nextId := by cases p <;> rfl
@[simp] theorem State.dr_setNeigh : (s.setNeigh p n).dr = s.dr := by cases p <;> rfl
@[simp] theorem State.ex_setNeigh : (s.setNeigh p n).ex = s.ex := by cases p <;> rfl
@[simp] theorem State.en_setNeigh : (s.setNeigh p n).en = s.en := by cases p <;> rfl
@[simp] theorem State.gate_setNeigh : (s.setNeigh p n).gate = s.gate := by cases p <;> rfl
@[simp] theorem State.rt_setNeigh : (s.setNeigh p n).rt = s.rt := by cases p <;> rfl
@[simp] theorem State.bay_setNeigh : (s.setNeigh p n).bay = s.bay := by cases p <;> rfl
@[simp] theorem State.idle_setNeigh : (s.setNeigh p n).idle = s.idle := by cases p <;> rfl
@[simp] theorem State.att_setNeigh : (s.setNeigh p n).att = s.att := by cases p <;> rfl
@[simp] theorem State.found_setNeigh : (s.setNeigh p n).found = s.found := by cases p <;> rfl
@[simp] theorem State.pending_setNeigh : (s.setNeigh p n).pending = s.pending := by cases p <;> rfl

end

/-! ### updNeighs -/

section
variable (f : Neigh → Neigh)

@[simp] theorem State.boot_updNeighs : (s.updNeighs f).boot = s.boot := rfl
@[simp] theorem State.cu_updNeighs : (s.updNeighs f).cu = s.cu := rfl
@[simp] theorem State.marks_updNeighs : (s.updNeighs f).marks = s.marks := rfl
@[simp] theorem State.eyes_updNeighs : (s.updNeighs f).eyes = s.eyes := rfl
@[simp] theorem State.tag_updNeighs : (s.updNeighs f).tag = s.tag := rfl
@[simp] theorem State.track_updNeighs : (s.updNeighs f).track = s.track := rfl
@[simp] theorem State.nextId_updNeighs : (s.updNeighs f).nextId = s.nextId := rfl
@[simp] theorem State.dr_updNeighs : (s.updNeighs f).dr = s.dr := rfl
@[simp] theorem State.ex_updNeighs : (s.updNeighs f).ex = s.ex := rfl
@[simp] theorem State.en_updNeighs : (s.updNeighs f).en = s.en := rfl
@[simp] theorem State.gate_updNeighs : (s.updNeighs f).gate = s.gate := rfl
@[simp] theorem State.rt_updNeighs : (s.updNeighs f).rt = s.rt := rfl
@[simp] theorem State.bay_updNeighs : (s.updNeighs f).bay = s.bay := rfl
@[simp] theorem State.idle_updNeighs : (s.updNeighs f).idle = s.idle := rfl
@[simp] theorem State.att_updNeighs : (s.updNeighs f).att = s.att := rfl
@[simp] theorem State.found_updNeighs : (s.updNeighs f).found = s.found := rfl
@[simp] theorem State.pending_updNeighs : (s.updNeighs f).pending = s.pending := rfl

end

/-! ### bumpSerial -/

section
variable (p : DownPort)

@[simp] theorem State.boot_bumpSerial : (s.bumpSerial p).boot = s.boot := by cases p <;> rfl
@[simp] theorem State.cu_bumpSerial : (s.bumpSerial p).cu = s.cu := by cases p <;> rfl
@[simp] theorem State.marks_bumpSerial : (s.bumpSerial p).marks = s.marks := by cases p <;> rfl
@[simp] theorem State.eyes_bumpSerial : (s.bumpSerial p).eyes = s.eyes := by cases p <;> rfl
@[simp] theorem State.tag_bumpSerial : (s.bumpSerial p).tag = s.tag := by cases p <;> rfl
@[simp] theorem State.track_bumpSerial : (s.bumpSerial p).track = s.track := by cases p <;> rfl
@[simp] theorem State.nextId_bumpSerial : (s.bumpSerial p).nextId = s.nextId := by cases p <;> rfl
@[simp] theorem State.dr_bumpSerial : (s.bumpSerial p).dr = s.dr := by cases p <;> rfl
@[simp] theorem State.en_bumpSerial : (s.bumpSerial p).en = s.en := by cases p <;> rfl
@[simp] theorem State.gate_bumpSerial : (s.bumpSerial p).gate = s.gate := by cases p <;> rfl
@[simp] theorem State.rt_bumpSerial : (s.bumpSerial p).rt = s.rt := by cases p <;> rfl
@[simp] theorem State.bay_bumpSerial : (s.bumpSerial p).bay = s.bay := by cases p <;> rfl
@[simp] theorem State.idle_bumpSerial : (s.bumpSerial p).idle = s.idle := by cases p <;> rfl
@[simp] theorem State.line_bumpSerial : (s.bumpSerial p).line = s.line := by cases p <;> rfl
@[simp] theorem State.att_bumpSerial : (s.bumpSerial p).att = s.att := by cases p <;> rfl
@[simp] theorem State.found_bumpSerial : (s.bumpSerial p).found = s.found := by cases p <;> rfl
@[simp] theorem State.pending_bumpSerial : (s.bumpSerial p).pending = s.pending := by cases p <;> rfl

end

/-! ### setSpan -/

section
variable (p : DownPort) (w : SpanWord)

@[simp] theorem State.boot_setSpan : (s.setSpan p w).boot = s.boot := by cases p <;> rfl
@[simp] theorem State.cu_setSpan : (s.setSpan p w).cu = s.cu := by cases p <;> rfl
@[simp] theorem State.marks_setSpan : (s.setSpan p w).marks = s.marks := by cases p <;> rfl
@[simp] theorem State.eyes_setSpan : (s.setSpan p w).eyes = s.eyes := by cases p <;> rfl
@[simp] theorem State.tag_setSpan : (s.setSpan p w).tag = s.tag := by cases p <;> rfl
@[simp] theorem State.track_setSpan : (s.setSpan p w).track = s.track := by cases p <;> rfl
@[simp] theorem State.nextId_setSpan : (s.setSpan p w).nextId = s.nextId := by cases p <;> rfl
@[simp] theorem State.ex_setSpan : (s.setSpan p w).ex = s.ex := by cases p <;> rfl
@[simp] theorem State.en_setSpan : (s.setSpan p w).en = s.en := by cases p <;> rfl
@[simp] theorem State.gate_setSpan : (s.setSpan p w).gate = s.gate := by cases p <;> rfl
@[simp] theorem State.rt_setSpan : (s.setSpan p w).rt = s.rt := by cases p <;> rfl
@[simp] theorem State.bay_setSpan : (s.setSpan p w).bay = s.bay := by cases p <;> rfl
@[simp] theorem State.idle_setSpan : (s.setSpan p w).idle = s.idle := by cases p <;> rfl
@[simp] theorem State.line_setSpan : (s.setSpan p w).line = s.line := by cases p <;> rfl
@[simp] theorem State.att_setSpan : (s.setSpan p w).att = s.att := by cases p <;> rfl
@[simp] theorem State.found_setSpan : (s.setSpan p w).found = s.found := by cases p <;> rfl
@[simp] theorem State.pending_setSpan : (s.setSpan p w).pending = s.pending := by cases p <;> rfl

end

/-! ### setSlot -/

section
variable (n : SlotName) (x : Option Slot)

@[simp] theorem State.boot_setSlot : (s.setSlot n x).boot = s.boot := by cases n <;> rfl
@[simp] theorem State.cu_setSlot : (s.setSlot n x).cu = s.cu := by cases n <;> rfl
@[simp] theorem State.marks_setSlot : (s.setSlot n x).marks = s.marks := by cases n <;> rfl
@[simp] theorem State.eyes_setSlot : (s.setSlot n x).eyes = s.eyes := by cases n <;> rfl
@[simp] theorem State.tag_setSlot : (s.setSlot n x).tag = s.tag := by cases n <;> rfl
@[simp] theorem State.track_setSlot : (s.setSlot n x).track = s.track := by cases n <;> rfl
@[simp] theorem State.nextId_setSlot : (s.setSlot n x).nextId = s.nextId := by cases n <;> rfl
@[simp] theorem State.dr_setSlot : (s.setSlot n x).dr = s.dr := by cases n <;> rfl
@[simp] theorem State.ex_setSlot : (s.setSlot n x).ex = s.ex := by cases n <;> rfl
@[simp] theorem State.gate_setSlot : (s.setSlot n x).gate = s.gate := by cases n <;> rfl
@[simp] theorem State.rt_setSlot : (s.setSlot n x).rt = s.rt := by cases n <;> rfl
@[simp] theorem State.bay_setSlot : (s.setSlot n x).bay = s.bay := by cases n <;> rfl
@[simp] theorem State.idle_setSlot : (s.setSlot n x).idle = s.idle := by cases n <;> rfl
@[simp] theorem State.line_setSlot : (s.setSlot n x).line = s.line := by cases n <;> rfl
@[simp] theorem State.att_setSlot : (s.setSlot n x).att = s.att := by cases n <;> rfl
@[simp] theorem State.found_setSlot : (s.setSlot n x).found = s.found := by cases n <;> rfl
@[simp] theorem State.pending_setSlot : (s.setSlot n x).pending = s.pending := by cases n <;> rfl

end

/-! ### setNoted -/

section
variable (p : UpPort) (x : Option Noted)

@[simp] theorem State.boot_setNoted : (s.setNoted p x).boot = s.boot := by cases p <;> rfl
@[simp] theorem State.cu_setNoted : (s.setNoted p x).cu = s.cu := by cases p <;> rfl
@[simp] theorem State.marks_setNoted : (s.setNoted p x).marks = s.marks := by cases p <;> rfl
@[simp] theorem State.eyes_setNoted : (s.setNoted p x).eyes = s.eyes := by cases p <;> rfl
@[simp] theorem State.tag_setNoted : (s.setNoted p x).tag = s.tag := by cases p <;> rfl
@[simp] theorem State.track_setNoted : (s.setNoted p x).track = s.track := by cases p <;> rfl
@[simp] theorem State.nextId_setNoted : (s.setNoted p x).nextId = s.nextId := by cases p <;> rfl
@[simp] theorem State.dr_setNoted : (s.setNoted p x).dr = s.dr := by cases p <;> rfl
@[simp] theorem State.ex_setNoted : (s.setNoted p x).ex = s.ex := by cases p <;> rfl
@[simp] theorem State.gate_setNoted : (s.setNoted p x).gate = s.gate := by cases p <;> rfl
@[simp] theorem State.rt_setNoted : (s.setNoted p x).rt = s.rt := by cases p <;> rfl
@[simp] theorem State.bay_setNoted : (s.setNoted p x).bay = s.bay := by cases p <;> rfl
@[simp] theorem State.idle_setNoted : (s.setNoted p x).idle = s.idle := by cases p <;> rfl
@[simp] theorem State.line_setNoted : (s.setNoted p x).line = s.line := by cases p <;> rfl
@[simp] theorem State.att_setNoted : (s.setNoted p x).att = s.att := by cases p <;> rfl
@[simp] theorem State.found_setNoted : (s.setNoted p x).found = s.found := by cases p <;> rfl
@[simp] theorem State.pending_setNoted : (s.setNoted p x).pending = s.pending := by cases p <;> rfl

end

/-! ### setLandLog -/

section
variable (p : UpPort) (x : List LandLog)

@[simp] theorem State.boot_setLandLog : (s.setLandLog p x).boot = s.boot := by cases p <;> rfl
@[simp] theorem State.cu_setLandLog : (s.setLandLog p x).cu = s.cu := by cases p <;> rfl
@[simp] theorem State.marks_setLandLog : (s.setLandLog p x).marks = s.marks := by cases p <;> rfl
@[simp] theorem State.eyes_setLandLog : (s.setLandLog p x).eyes = s.eyes := by cases p <;> rfl
@[simp] theorem State.tag_setLandLog : (s.setLandLog p x).tag = s.tag := by cases p <;> rfl
@[simp] theorem State.track_setLandLog : (s.setLandLog p x).track = s.track := by cases p <;> rfl
@[simp] theorem State.nextId_setLandLog : (s.setLandLog p x).nextId = s.nextId := by cases p <;> rfl
@[simp] theorem State.dr_setLandLog : (s.setLandLog p x).dr = s.dr := by cases p <;> rfl
@[simp] theorem State.ex_setLandLog : (s.setLandLog p x).ex = s.ex := by cases p <;> rfl
@[simp] theorem State.gate_setLandLog : (s.setLandLog p x).gate = s.gate := by cases p <;> rfl
@[simp] theorem State.rt_setLandLog : (s.setLandLog p x).rt = s.rt := by cases p <;> rfl
@[simp] theorem State.bay_setLandLog : (s.setLandLog p x).bay = s.bay := by cases p <;> rfl
@[simp] theorem State.idle_setLandLog : (s.setLandLog p x).idle = s.idle := by cases p <;> rfl
@[simp] theorem State.line_setLandLog : (s.setLandLog p x).line = s.line := by cases p <;> rfl
@[simp] theorem State.att_setLandLog : (s.setLandLog p x).att = s.att := by cases p <;> rfl
@[simp] theorem State.found_setLandLog : (s.setLandLog p x).found = s.found := by cases p <;> rfl
@[simp] theorem State.pending_setLandLog : (s.setLandLog p x).pending = s.pending := by cases p <;> rfl

end

/-! ### setStallMark -/

section
variable (p : UpPort) (x : Bool)

@[simp] theorem State.boot_setStallMark : (s.setStallMark p x).boot = s.boot := by cases p <;> rfl
@[simp] theorem State.cu_setStallMark : (s.setStallMark p x).cu = s.cu := by cases p <;> rfl
@[simp] theorem State.marks_setStallMark : (s.setStallMark p x).marks = s.marks := by cases p <;> rfl
@[simp] theorem State.eyes_setStallMark : (s.setStallMark p x).eyes = s.eyes := by cases p <;> rfl
@[simp] theorem State.tag_setStallMark : (s.setStallMark p x).tag = s.tag := by cases p <;> rfl
@[simp] theorem State.track_setStallMark : (s.setStallMark p x).track = s.track := by cases p <;> rfl
@[simp] theorem State.nextId_setStallMark : (s.setStallMark p x).nextId = s.nextId := by cases p <;> rfl
@[simp] theorem State.dr_setStallMark : (s.setStallMark p x).dr = s.dr := by cases p <;> rfl
@[simp] theorem State.ex_setStallMark : (s.setStallMark p x).ex = s.ex := by cases p <;> rfl
@[simp] theorem State.gate_setStallMark : (s.setStallMark p x).gate = s.gate := by cases p <;> rfl
@[simp] theorem State.rt_setStallMark : (s.setStallMark p x).rt = s.rt := by cases p <;> rfl
@[simp] theorem State.bay_setStallMark : (s.setStallMark p x).bay = s.bay := by cases p <;> rfl
@[simp] theorem State.idle_setStallMark : (s.setStallMark p x).idle = s.idle := by cases p <;> rfl
@[simp] theorem State.line_setStallMark : (s.setStallMark p x).line = s.line := by cases p <;> rfl
@[simp] theorem State.att_setStallMark : (s.setStallMark p x).att = s.att := by cases p <;> rfl
@[simp] theorem State.found_setStallMark : (s.setStallMark p x).found = s.found := by cases p <;> rfl
@[simp] theorem State.pending_setStallMark : (s.setStallMark p x).pending = s.pending := by cases p <;> rfl

end

/-! ### setSteered -/

section
variable (b : DownPort) (x : List Steered)

@[simp] theorem State.boot_setSteered : (s.setSteered b x).boot = s.boot := by cases b <;> rfl
@[simp] theorem State.cu_setSteered : (s.setSteered b x).cu = s.cu := by cases b <;> rfl
@[simp] theorem State.marks_setSteered : (s.setSteered b x).marks = s.marks := by cases b <;> rfl
@[simp] theorem State.eyes_setSteered : (s.setSteered b x).eyes = s.eyes := by cases b <;> rfl
@[simp] theorem State.tag_setSteered : (s.setSteered b x).tag = s.tag := by cases b <;> rfl
@[simp] theorem State.track_setSteered : (s.setSteered b x).track = s.track := by cases b <;> rfl
@[simp] theorem State.nextId_setSteered : (s.setSteered b x).nextId = s.nextId := by cases b <;> rfl
@[simp] theorem State.dr_setSteered : (s.setSteered b x).dr = s.dr := by cases b <;> rfl
@[simp] theorem State.ex_setSteered : (s.setSteered b x).ex = s.ex := by cases b <;> rfl
@[simp] theorem State.en_setSteered : (s.setSteered b x).en = s.en := by cases b <;> rfl
@[simp] theorem State.gate_setSteered : (s.setSteered b x).gate = s.gate := by cases b <;> rfl
@[simp] theorem State.bay_setSteered : (s.setSteered b x).bay = s.bay := by cases b <;> rfl
@[simp] theorem State.idle_setSteered : (s.setSteered b x).idle = s.idle := by cases b <;> rfl
@[simp] theorem State.line_setSteered : (s.setSteered b x).line = s.line := by cases b <;> rfl
@[simp] theorem State.att_setSteered : (s.setSteered b x).att = s.att := by cases b <;> rfl
@[simp] theorem State.found_setSteered : (s.setSteered b x).found = s.found := by cases b <;> rfl
@[simp] theorem State.pending_setSteered : (s.setSteered b x).pending = s.pending := by cases b <;> rfl

end

/-! ### setReply -/

section
variable (p : UpPort) (m : ReplyMark)

@[simp] theorem State.boot_setReply : (s.setReply p m).boot = s.boot := by cases p <;> rfl
@[simp] theorem State.cu_setReply : (s.setReply p m).cu = s.cu := by cases p <;> rfl
@[simp] theorem State.marks_setReply : (s.setReply p m).marks = s.marks := by cases p <;> rfl
@[simp] theorem State.eyes_setReply : (s.setReply p m).eyes = s.eyes := by cases p <;> rfl
@[simp] theorem State.tag_setReply : (s.setReply p m).tag = s.tag := by cases p <;> rfl
@[simp] theorem State.track_setReply : (s.setReply p m).track = s.track := by cases p <;> rfl
@[simp] theorem State.nextId_setReply : (s.setReply p m).nextId = s.nextId := by cases p <;> rfl
@[simp] theorem State.dr_setReply : (s.setReply p m).dr = s.dr := by cases p <;> rfl
@[simp] theorem State.ex_setReply : (s.setReply p m).ex = s.ex := by cases p <;> rfl
@[simp] theorem State.en_setReply : (s.setReply p m).en = s.en := by cases p <;> rfl
@[simp] theorem State.gate_setReply : (s.setReply p m).gate = s.gate := by cases p <;> rfl
@[simp] theorem State.rt_setReply : (s.setReply p m).rt = s.rt := by cases p <;> rfl
@[simp] theorem State.bay_setReply : (s.setReply p m).bay = s.bay := by cases p <;> rfl
@[simp] theorem State.line_setReply : (s.setReply p m).line = s.line := by cases p <;> rfl
@[simp] theorem State.att_setReply : (s.setReply p m).att = s.att := by cases p <;> rfl
@[simp] theorem State.found_setReply : (s.setReply p m).found = s.found := by cases p <;> rfl
@[simp] theorem State.pending_setReply : (s.setReply p m).pending = s.pending := by cases p <;> rfl

end

/-! ### updRec -/

section
variable (i : Nat) (f : Rec → Rec)

@[simp] theorem State.boot_updRec : (s.updRec i f).boot = s.boot := rfl
@[simp] theorem State.cu_updRec : (s.updRec i f).cu = s.cu := rfl
@[simp] theorem State.marks_updRec : (s.updRec i f).marks = s.marks := rfl
@[simp] theorem State.eyes_updRec : (s.updRec i f).eyes = s.eyes := rfl
@[simp] theorem State.tag_updRec : (s.updRec i f).tag = s.tag := rfl
@[simp] theorem State.nextId_updRec : (s.updRec i f).nextId = s.nextId := rfl
@[simp] theorem State.dr_updRec : (s.updRec i f).dr = s.dr := rfl
@[simp] theorem State.ex_updRec : (s.updRec i f).ex = s.ex := rfl
@[simp] theorem State.en_updRec : (s.updRec i f).en = s.en := rfl
@[simp] theorem State.gate_updRec : (s.updRec i f).gate = s.gate := rfl
@[simp] theorem State.rt_updRec : (s.updRec i f).rt = s.rt := rfl
@[simp] theorem State.bay_updRec : (s.updRec i f).bay = s.bay := rfl
@[simp] theorem State.idle_updRec : (s.updRec i f).idle = s.idle := rfl
@[simp] theorem State.line_updRec : (s.updRec i f).line = s.line := rfl
@[simp] theorem State.att_updRec : (s.updRec i f).att = s.att := rfl
@[simp] theorem State.found_updRec : (s.updRec i f).found = s.found := rfl
@[simp] theorem State.pending_updRec : (s.updRec i f).pending = s.pending := rfl

end

/-! ### Read after write -/

@[simp] theorem State.chan_setChan_self (e : Eye) (c : EyeChan) : (s.setChan e c).chan e = c := by
  cases e <;> rfl
@[simp] theorem State.chan_setChan_other {e f : Eye} (c : EyeChan) (h : f ≠ e) :
    (s.setChan e c).chan f = s.chan f := by
  cases e <;> cases f <;> first | rfl | exact absurd rfl h
@[simp] theorem State.chan_updChan_self (e : Eye) (f : EyeChan → EyeChan) :
    (s.updChan e f).chan e = f (s.chan e) := by cases e <;> rfl
@[simp] theorem State.chan_updChan_other {e f : Eye} (g : EyeChan → EyeChan) (h : f ≠ e) :
    (s.updChan e g).chan f = s.chan f := s.chan_setChan_other _ h
@[simp] theorem State.chan_updChans (f : EyeChan → EyeChan) (e : Eye) :
    (s.updChans f).chan e = f (s.chan e) := by cases e <;> rfl
@[simp] theorem State.cause_setCause_self (c : Cause) (e : CauseEntry) : (s.setCause c e).cause c = e := by
  cases c <;> rfl
@[simp] theorem State.cause_setCause_other {c k : Cause} (e : CauseEntry) (h : k ≠ c) :
    (s.setCause c e).cause k = s.cause k := by
  cases c <;> cases k <;> first | rfl | exact absurd rfl h
@[simp] theorem State.level_setCause (c : Cause) (e : CauseEntry) : (s.setCause c e).att.level = s.att.level := rfl
@[simp] theorem State.lamp_setCause (c : Cause) (e : CauseEntry) : (s.setCause c e).att.lamp = s.att.lamp := rfl
@[simp] theorem State.neigh_setNeigh_self (p : Port) (n : Option Neigh) : (s.setNeigh p n).neigh p = n := by
  cases p <;> rfl
@[simp] theorem State.neigh_setNeigh_other {p q : Port} (n : Option Neigh) (h : q ≠ p) :
    (s.setNeigh p n).neigh q = s.neigh q := by
  cases p <;> cases q <;> first | rfl | exact absurd rfl h
@[simp] theorem State.neigh_updNeighs (f : Neigh → Neigh) (p : Port) :
    (s.updNeighs f).neigh p = (s.neigh p).map f := by cases p <;> rfl
@[simp] theorem State.nextSerial_bumpSerial_self (p : DownPort) :
    (s.bumpSerial p).nextSerial p = s.nextSerial p + 1 := by cases p <;> rfl
@[simp] theorem State.nextSerial_bumpSerial_other (p : DownPort) :
    (s.bumpSerial p).nextSerial (DownPort.other p) = s.nextSerial (DownPort.other p) := by cases p <;> rfl
@[simp] theorem State.span_setSpan_self (p : DownPort) (w : SpanWord) : (s.setSpan p w).span p = w := by
  cases p <;> rfl
@[simp] theorem State.span_setSpan_other (p : DownPort) (w : SpanWord) :
    (s.setSpan p w).span (DownPort.other p) = s.span (DownPort.other p) := by cases p <;> rfl
@[simp] theorem State.slot_setSlot_self (n : SlotName) (x : Option Slot) : (s.setSlot n x).slot n = x := by
  cases n <;> rfl
@[simp] theorem State.slot_setSlot_other {n m : SlotName} (x : Option Slot) (h : m ≠ n) :
    (s.setSlot n x).slot m = s.slot m := by
  cases n <;> cases m <;> first | rfl | exact absurd rfl h
@[simp] theorem State.noted_setNoted_self (p : UpPort) (x : Option Noted) : (s.setNoted p x).noted p = x := by
  cases p <;> rfl
@[simp] theorem State.noted_setNoted_other (p : UpPort) (x : Option Noted) :
    (s.setNoted p x).noted (UpPort.other p) = s.noted (UpPort.other p) := by cases p <;> rfl
@[simp] theorem State.landLog_setLandLog_self (p : UpPort) (x : List LandLog) :
    (s.setLandLog p x).landLog p = x := by cases p <;> rfl
@[simp] theorem State.stallMark_setStallMark_self (p : UpPort) (x : Bool) :
    (s.setStallMark p x).stallMark p = x := by cases p <;> rfl
@[simp] theorem State.steered_setSteered_self (b : DownPort) (x : List Steered) :
    (s.setSteered b x).steered b = x := by cases b <;> rfl
@[simp] theorem State.steered_setSteered_other (b : DownPort) (x : List Steered) :
    (s.setSteered b x).steered (DownPort.other b) = s.steered (DownPort.other b) := by cases b <;> rfl
@[simp] theorem State.replyMark_setReply_self (p : UpPort) (m : ReplyMark) :
    (s.setReply p m).replyMark p = m := by cases p <;> rfl
@[simp] theorem State.replyMark_setReply_other (p : UpPort) (m : ReplyMark) :
    (s.setReply p m).replyMark (UpPort.other p) = s.replyMark (UpPort.other p) := by cases p <;> rfl

/-- Changing records in place keeps their names and their order. -/
theorem State.names_updRec (i : Nat) (f : Rec → Rec) (hf : ∀ r, (f r).id = r.id) :
    (s.updRec i f).track.map (·.id) = s.track.map (·.id) := by
  simp only [State.updRec, List.map_map]
  refine List.map_congr_left fun r _ => ?_
  simp only [Function.comp]
  split <;> simp [hf]

/-- A record of the track is changed where it stands. -/
theorem State.mem_updRec {r : Rec} (f : Rec → Rec) (h : r ∈ s.track) : f r ∈ (s.updRec r.id f).track :=
  List.mem_map.2 ⟨r, h, by simp⟩

end Sys2Proof.Machine
end

