-- ==== Sys2Proof/Laws/Spec.lean ====
section
/-! SUPPORT. What the shared operations answer, once each: raising a cause, sending, hearing a frame, finding a
record, and the parts of a frame's bytes. -/

namespace Sys2Proof.Machine

/-- A command that runs while RESET is released answers the state its meaning gives. -/
theorem live_of_runs {s t : State} (h : s.Runs) : live s t = .next t := by
  unfold live; rw [if_neg]; intro h'; exact Bool.noConfusion (h.symm.trans h')

/-! ### Causes -/

theorem State.cause_setCause (s : State) (c k : Cause) (e : CauseEntry) :
    (s.setCause c e).cause k = if k = c then e else s.cause k := by
  cases c <;> cases k <;> rfl

theorem State.cause_changeCause (s : State) (c k : Cause) (e : CauseEntry) :
    (s.changeCause c e).cause k = if k = c then e else s.cause k := State.cause_setCause s c k e

/-- A change of a cause's state brings the attention lamp along (R183). -/
theorem State.lamp_changeCause (s : State) (c : Cause) (e : CauseEntry) :
    (s.changeCause c e).att.lamp = s.att.lamp.to (s.setCause c e).attState Config.attFlash := rfl

theorem State.cause_congr {s t : State} (h : t.att = s.att) (c : Cause) : t.cause c = s.cause c := by
  simp [State.cause, h]

@[simp] theorem State.att_setQueue (s : State) (q : List Frame) : (s.setQueue q).att = s.att := rfl
@[simp] theorem State.att_offerRoutine (s : State) (f : Frame) : (s.offerRoutine f).att = s.att := by
  unfold State.offerRoutine; split <;> rfl
@[simp] theorem State.att_offerCoalesced (s : State) (p : Payload → Bool) (f : Frame) :
    (s.offerCoalesced p f).att = s.att := by
  unfold State.offerCoalesced
  split
  · rfl
  · exact State.att_offerRoutine s f
@[simp] theorem State.att_queueStatus (s : State) : s.queueStatus.att = s.att := State.att_offerCoalesced _ _ _
@[simp] theorem State.att_queueWant (s : State) : s.queueWant.att = s.att := State.att_offerCoalesced _ _ _

@[simp] theorem State.cause_recomputeLevel (s : State) (c : Cause) : s.recomputeLevel.cause c = s.cause c := by
  unfold State.recomputeLevel
  split
  · rfl
  · exact State.cause_congr (State.att_queueStatus _) c

/-- Every cause entry after a raise (R175). -/
theorem State.cause_raise (s : State) (c k : Cause) (d : Nat) :
    (s.raise c d).cause k = if k = c then
      { s.cause c with st := .pending, detail := BitVec.ofNat 16 d,
                       repeats := if (s.cause c).st = .absent then 0 else satSucc (s.cause c).repeats }
      else s.cause k := by
  unfold State.raise
  dsimp only
  split
  · rw [State.cause_recomputeLevel]
    split
    · rw [State.cause_congr (State.att_offerRoutine _ _), State.cause_changeCause]
    · rw [State.cause_changeCause]
  · rw [State.cause_changeCause]

/-- Every cause entry after a source of a standing cause has begun (R175, R176). -/
theorem State.cause_raiseStanding (s : State) (c k : Cause) (d : Nat) :
    (s.raiseStanding c d).cause k = if k = c then
      { s.cause c with st := .pending, present := true, detail := BitVec.ofNat 16 d,
                       repeats := if (s.cause c).st = .absent then 0 else satSucc (s.cause c).repeats }
      else s.cause k := by
  unfold State.raiseStanding
  rw [State.cause_raise]
  simp only [State.cause_setCause]
  split <;> simp_all

/-! ### Sending -/

/-- Sending moves no tick, no STATUS timer and no neighbour record. -/
structure LineKeeps (s t : State) : Prop where
  tick : t.line.tick = s.line.tick
  statusTimer : t.line.statusTimer = s.line.statusTimer
  neigh : ∀ p, t.neigh p = s.neigh p

theorem LineKeeps.refl (s : State) : LineKeeps s s := ⟨rfl, rfl, fun _ => rfl⟩
theorem LineKeeps.trans {s t u : State} (h : LineKeeps s t) (k : LineKeeps t u) : LineKeeps s u :=
  ⟨k.tick.trans h.tick, k.statusTimer.trans h.statusTimer, fun p => (k.neigh p).trans (h.neigh p)⟩

theorem State.setQueue_keeps (s : State) (q : List Frame) : LineKeeps s (s.setQueue q) := by
  unfold State.setQueue Line.refill
  refine ⟨?_, ?_, fun p => ?_⟩
  · dsimp only; split <;> rfl
  · dsimp only; split <;> rfl
  · cases p <;> (simp only [State.neigh]; split <;> rfl)
theorem State.offerRoutine_keeps (s : State) (f : Frame) : LineKeeps s (s.offerRoutine f) := by
  unfold State.offerRoutine
  split
  · exact State.setQueue_keeps _ _
  · exact .refl s
theorem State.offerCoalesced_keeps (s : State) (p : Payload → Bool) (f : Frame) :
    LineKeeps s (s.offerCoalesced p f) := by
  unfold State.offerCoalesced
  split
  · exact State.setQueue_keeps _ _
  · exact State.offerRoutine_keeps _ _
theorem State.recomputeLevel_keeps (s : State) : LineKeeps s s.recomputeLevel := by
  unfold State.recomputeLevel
  split
  · exact .refl s
  · exact LineKeeps.trans (t := { s with att := { s.att with level := s.levelNow } })
      ⟨rfl, rfl, fun p => by cases p <;> rfl⟩ (State.offerCoalesced_keeps _ _ _)
theorem State.setCause_keeps (s : State) (c : Cause) (e : CauseEntry) : LineKeeps s (s.setCause c e) :=
  ⟨rfl, rfl, fun p => by cases p <;> rfl⟩
theorem State.changeCause_keeps (s : State) (c : Cause) (e : CauseEntry) : LineKeeps s (s.changeCause c e) :=
  ⟨rfl, rfl, fun p => by cases p <;> rfl⟩
theorem State.raise_keeps (s : State) (c : Cause) (d : Nat) : LineKeeps s (s.raise c d) := by
  unfold State.raise
  dsimp only
  split
  · refine LineKeeps.trans ?_ (State.recomputeLevel_keeps _)
    split
    · exact (State.changeCause_keeps _ _ _).trans (State.offerRoutine_keeps _ _)
    · exact State.changeCause_keeps _ _ _
  · exact State.changeCause_keeps _ _ _
theorem State.sendPrompt_keeps (s : State) (d : Station) (p : Payload) : LineKeeps s (s.sendPrompt d p) := by
  unfold State.sendPrompt
  split
  · split
    · exact State.setQueue_keeps _ _
    · exact State.raise_keeps _ _ _
  · exact .refl s

/-- With room, a PROMPT frame joins the queue behind the PROMPT frames, and nothing else happens (R165). -/
theorem State.sendPrompt_of_room (s : State) (d : Station) (p : Payload) (h : s.HasRoom) :
    s.sendPrompt d p = s.setQueue (insertPrompt s.line.queue ⟨d, p⟩) := by
  unfold State.sendPrompt; rw [if_pos h.1, if_pos h.2]

/-- The frames on their way out after the queue is replaced, the register as it was. -/
theorem State.sends_setQueue (s : State) (q : List Frame) (f : Frame) (h : f ∈ q) : (s.setQueue q).Sends f := by
  unfold State.setQueue Line.refill State.Sends
  dsimp only
  cases hr : s.line.reg with
  | some r => exact .inl h
  | none =>
    cases q with
    | nil => exact absurd h List.not_mem_nil
    | cons g q =>
      rcases List.mem_cons.1 h with rfl | h
      · exact .inr ⟨_, rfl, rfl⟩
      · exact .inl h

theorem mem_insertPrompt (q : List Frame) (f g : Frame) : g ∈ insertPrompt q f ↔ g ∈ q ∨ g = f := by
  unfold insertPrompt
  simp only [List.mem_append, List.mem_filter, List.mem_singleton, Bool.not_eq_true']
  constructor
  · rintro ((⟨h, -⟩ | h) | ⟨h, -⟩)
    · exact .inl h
    · exact .inr h
    · exact .inl h
  · rintro (h | h)
    · cases hp : Payload.prompt g.payload with
      | true => exact .inl (.inl ⟨h, rfl⟩)
      | false => exact .inr ⟨h, rfl⟩
    · exact .inl (.inr h)

/-! ### Hearing -/

/-- A frame that is heard is delivered after its sender's records are refreshed (R168, R171). -/
theorem State.receive_of_hears {s : State} {h : Hdr} (hh : s.Hears h) (p : Payload) :
    live s (s.receive h p) = .next (State.settle (State.deliverFrame (s.refresh h.src) h p)) := by
  obtain ⟨hr, hm, ⟨n, hn, hn0, hne⟩, hs, hreg⟩ := hh
  rw [live_of_runs hr]
  unfold State.receive
  rw [if_pos]
  unfold State.receives State.fromOk
  rw [hn]
  simp only [Bool.and_eq_true, bne_iff_ne, ne_eq]
  refine ⟨⟨⟨hm, hn0⟩, ?_⟩, hs, ?_⟩
  · cases hl : s.line.reg with
    | none => rfl
    | some r => simp [hreg r hl]
  · intro e; exact hne (Option.some.inj e).symm

/-- Refreshing a sender writes no block but the line, the attention unit, and the two (exit side, drive) in which
making a cause ABSENT can act. -/
theorem State.get_refresh {b : Block} (s : State) (x : Station) (h : b ≠ .att) (h' : b ≠ .line) (h₁ : b ≠ .ex)
    (h₂ : b ≠ .dr) : (s.refresh x).get b = s.get b := by
  unfold State.refresh
  dsimp only
  split <;> simp [h, h', h₁, h₂]

theorem State.boot_refresh (s : State) (x : Station) : (s.refresh x).boot = s.boot :=
  State.get_refresh (b := .boot) s x (by decide) (by decide) (by decide) (by decide)
theorem State.track_refresh (s : State) (x : Station) : (s.refresh x).track = s.track :=
  State.get_refresh (b := .track) s x (by decide) (by decide) (by decide) (by decide)
theorem State.en_refresh (s : State) (x : Station) : (s.refresh x).en = s.en :=
  State.get_refresh (b := .en) s x (by decide) (by decide) (by decide) (by decide)

theorem State.toMeAlone_refresh {s : State} {h : Hdr} (hh : s.HearsAlone h) :
    (s.refresh h.src).toMeAlone h.dst = true := by
  unfold State.toMeAlone; rw [State.boot_refresh]; simp [hh.2.1, hh.2.2]
theorem State.toMe_refresh {s : State} {h : Hdr} (hh : s.HearsOpen h) :
    (s.refresh h.src).toMe h.dst = true := by
  unfold State.toMe; rw [State.boot_refresh]; rcases hh.2 with e | e <;> simp [e]

/-! ### Records -/

/-- A record found by its name is on the track under that name. -/
theorem State.mem_of_recOf {s : State} {i : Nat} {r : Rec} (h : s.recOf i = some r) :
    r ∈ s.track ∧ r.id = i := by
  unfold State.recOf at h
  exact ⟨List.mem_of_find?_eq_some h, by simpa using List.find?_some h⟩

/-- The head is on the track and not released. -/
theorem State.mem_of_head {s : State} {r : Rec} (h : s.head = some r) : r ∈ s.track ∧ r.handed = false := by
  unfold State.head at h
  exact ⟨List.mem_of_find?_eq_some h, by simpa using List.find?_some h⟩

/-! ### The target, the lamps and the pins -/

/-- The belt state decides T16 alone, not the speed it comes from (R73). -/
theorem State.targetSpeed_congr {s t : State} (hb : t.boot = s.boot) (hl : t.line = s.line) (ht : t.track = s.track) :
    t.targetSpeed = s.targetSpeed := by
  have hn (p : Port) : t.neigh p = s.neigh p := by cases p <;> simp [State.neigh, hl]
  simp [State.targetSpeed, State.followLimit, State.hasRole, State.handing, hb, ht, hn]

/-- The target only moves T16, the in-band run and the lock (R78); it is that of the inputs once the profile is
read. -/
theorem State.t16_updateTarget {s : State} (h : s.boot.loaded = true) : s.updateTarget.dr.t16 = s.targetT16 := by
  unfold State.updateTarget; dsimp only; rw [if_neg (by simp [h])]; split <;> rfl
theorem State.belt_updateTarget (s : State) : s.updateTarget.dr.belt = s.dr.belt := by
  unfold State.updateTarget; dsimp only; (repeat' split) <;> rfl

/-- A lamp is in the state it is brought to (R134, R183). -/
@[simp] theorem Lamp.st_to (l : Lamp) (x : LampState) (n : Nat) : (l.to x n).st = x := by
  cases x <;> simp only [Lamp.to]; split <;> simp_all
theorem State.lamp_callLampStep (s : State) : s.callLampStep.bay.lamp.st = s.callState := Lamp.st_to _ _ _

@[simp] theorem spiBits_length (b : Byte) : (spiBits b).length = 8 := by simp [spiBits]
/-- A byte goes over the SPI port most significant bit first (R186). -/
theorem spiBits_getD (b : Byte) {j : Nat} (h : j < 8) (x : Bool) : (spiBits b).getD j x = b.getLsbD (7 - j) := by
  simp [spiBits, List.getD, h]

/-! ### Bytes -/

theorem twoBytes_join (n : Nat) : n / 256 * 256 + n % 256 = n := by omega
theorem inRange_val {b : Nat} (x : Fin b) : inRange b x.val = some x := by unfold inRange; simp
theorem inRange_join {b : Nat} (x : Fin b) : inRange b (x.val / 256 * 256 + x.val % 256) = some x := by
  rw [twoBytes_join]; exact inRange_val x
theorem Payload.kind_lt (p : Payload) : Payload.kind p < 256 := by cases p <;> simp [Payload.kind]
theorem Payload.length_bytes_le (p : Payload) : (Payload.bytes p).length ≤ 24 := by
  cases p <;> simp [Payload.bytes, twoBytes]

end Sys2Proof.Machine
end

