-- ==== Sys2Proof/WellFormed.lean ====
section
/-! DEFINITION. Which commands can come from outside at all. A command that is not well formed
still has a meaning (it changes nothing, as the rules of the receive filter and of the profile read
say); this file only names what a sender never presents. -/

namespace Sys2Proof

/-- FROM is 1 to 63 in every frame (R161, R168). -/
def Hdr.wf (h : Hdr) : Bool := h.src != 0

/-- LOADING is never sent in STATUS, and its role is none exactly in UNSET (R173). -/
def StatusInfo.wf (i : StatusInfo) : Bool :=
  i.mode != .loading && (i.role.isNone == (i.mode == .unset))

/-- An ATTENTION that names no cause carries zeros (R177). -/
def AttentionInfo.wf (i : AttentionInfo) : Bool :=
  i.cause.isSome || (i.severity == 0 && i.detail == 0 && i.repeats == 0 && i.pendingCount == 0)

/-- The payload checks by kind. -/
def Payload.wf : Payload → Bool
  | .status i => i.wf
  | .attention i => i.wf
  | _ => true

/-- Well-formedness of a command. -/
def Instr.wf : Instr → Bool
  | .offer h _ _ _ => h.wf
  | .take h _ => h.wf
  | .wait h _ => h.wf
  | .refuse h _ _ => h.wf
  | .withdraw h _ => h.wf
  | .landed h _ _ _ => h.wf
  | .landedSkipped h _ _ => h.wf
  | .whereIs h _ => h.wf
  | .notSeen h _ => h.wf
  | .stall h => h.wf
  | .go h _ => h.wf
  | .want h _ => h.wf
  | .rackIn h _ _ => h.wf
  | .dozeAsk h => h.wf
  | .dozeAllow h => h.wf
  | .dozeDeny h => h.wf
  | .status h i => h.wf && i.wf
  | .attention h i => h.wf && i.wf
  | .frameForOther h p => h.wf && h.dst != 0 && p.wf
  | .ask h => h.wf
  | .ack h => h.wf
  | .clear h => h.wf
  | .flush h => h.wf
  | .profileRead bytes => bytes.length == 113
  | .powerOnReset => true
  | .resetRelease _ _ _ => true
  | .tick _ => true
  | .forwardEdge => true
  | .reverseEdge => true
  | .doubleStep => true
  | .markFire => true
  | .eyeRawChange _ _ => true
  | .eyeEdgeConfirm _ => true
  | .eyeFirstState _ => true
  | .checkMissed e => e != .entry && e != .exit
  | .eyeJam e => e == .entry || e == .exit
  | .eyeStuck e => e != .entry && e != .exit
  | .tagReplyComplete _ _ _ => true
  | .tagReplyGap _ _ => true
  | .readerTimeout => true
  | .recordVanish => true
  | .residenceExposureMet => true
  | .windowEnd => true
  | .beltUnsteady => true
  | .spinUpExpiry => true
  | .offerResend => true
  | .whereSent => true
  | .transferAllowanceExpiry => true
  | .entryReady => true
  | .slotArrivalExpiry => true
  | .gateSettle => true
  | .patienceExpiry => true
  | .classKeyPress _ => true
  | .sendKeyPress => true
  | .emptyKeyPress => true
  | .wantTimer => true
  | .callLampFlash => true
  | .wantExpiry loader => loader != 0
  | .steerExpiry _ => true
  | .parkDelayExpiry => true
  | .dozeReplyTimeout => true
  | .poll => true
  | .neighbourSilent _ => true
  | .statusTimer => true
  | .frameRejected _ => true
  | .sendStart _ => true
  | .frameSent => true
  | .collision => true
  | .ackKeyPress => true
  | .ackKeyRelease => true
  | .ackKeyHoldClear => true
  | .ackKeyHoldFlush => true
  | .attentionLampFlash => true
  | .estopOpen => true
  | .estopClose => true
  | .stationNumberRead => true
  | .keyRelease _ => true

end Sys2Proof
end

