-- ==== Sys2Proof/Tests/Slice0.lean ====
section
/-! SUPPORT. Tests: ill-formed commands refused, the specification's own tables and worked examples, and for each
statement of Certificates/Slice0/Obligations.lean that has hypotheses a concrete state that meets them. Expected
values are the specification's, or worked out by hand from its rules; each test names its source. -/

namespace Sys2Proof.Tests

open Sys2Proof.Machine

/-! ### States to start from -/

/-- A station 22 of a role, K = 800 and 1200 mm long, with neighbours 11 (U0) and 33 (D0). -/
def prof (r : Role) : Profile :=
  { role := r, u0 := 11, u1 := if r = .merge then 12 else 0, d0 := 33, d1 := if r = .divert then 34 else 0,
    panel1 := 2, k := 800, length := 1200, offerLead := 150, approachLead := 100, reader := true,
    trackLimit := if r = .divert then 1 else 6 }

/-- The state of a station in ACTIVE, its eyes clear and its track empty. -/
def stationOf (p : Profile) : State :=
  let eye : EyeChan := { settled := true }
  let near (n : Station) : Option Neigh := if n = 0 then none else some ⟨n, 0, true, none, none⟩
  { State.reset with
    boot := { resetHeld := false, mode := .active, station := some 22, loaded := true, prof := p,
              cts := countsOf p }
    eyes := { entry := eye, exit := eye, checkA := eye, checkB := eye, gate := eye, bay := eye }
    dr := { winLeft := some 25 }
    line := { u0 := near p.u0, u1 := near p.u1, d0 := near p.d0, d1 := near p.d1, statusTimer := some 50 } }

/-- A FEED. -/
def feed : State := stationOf (prof .feed)

/-- A FEED that is not ACTIVE. -/
def feedIn (m : Mode) : State := { feed with boot := { feed.boot with mode := m } }

/-- A record called 0, number 100, whose front crossed ENTRY at a count. -/
def rack (front : Count) : Rec :=
  { blankRec 0 front with number := 100, state := .head, entryOpen := false, length := some 446 }

/-- The record OFFERED on D0 under serial 3. -/
def offered : Rec := { rack 0 with state := .offered, exitPort := some .d0, exitSerial := some 3 }

/-- The record TAKEN by D0 under serial 3 at count 0. -/
def taken : Rec := { offered with state := .taken, takenAt := some 0 }

/-- A state with one record on the track, which owns the marks. -/
def with1 (s : State) (r : Rec) : State := { s with track := [r], nextId := 1, marks := { owner := some r.id } }

/-- The state after a command. -/
def after (c : Instr) (s : State) : State :=
  match exec c s with
  | .next t => t
  | .fault _ => s
  | .refused _ => s

/-- A frame from a station to station 22. -/
def from' (n : Station) : Hdr := ⟨22, n⟩

/-- Keys up, chain closed. -/
def pins : PinSample := ⟨true, 22, true, true, true, 0xFFFF⟩

theorem hears_of {s : State} {h : Hdr}
    (e : (s.boot.resetHeld == false && s.boot.mode != .loading && s.boot.station == some 22 && h.src != 22
      && h.src != 0 && s.line.reg.isNone) = true) : s.Hears h := by
  simp only [Bool.and_eq_true, beq_iff_eq, bne_iff_ne, Option.isNone_iff_eq_none] at e
  obtain ⟨⟨⟨⟨⟨a, b⟩, c⟩, d⟩, f⟩, g⟩ := e
  exact ⟨a, b, ⟨22, c, by decide, d⟩, f, fun r hr => by rw [g] at hr; cases hr⟩

theorem alone_of {s : State} {n : Station}
    (e : (s.boot.resetHeld == false && s.boot.mode != .loading && s.boot.station == some 22 && n != 22
      && n != 0 && s.line.reg.isNone) = true) : s.HearsAlone (from' n) := by
  have h : s.Hears (from' n) := hears_of e
  simp only [Bool.and_eq_true, beq_iff_eq] at e
  exact ⟨h, (by decide : (22 : Station) ≠ 0), e.1.1.1.2⟩

theorem open_of {s : State} {n : Station}
    (e : (s.boot.resetHeld == false && s.boot.mode != .loading && s.boot.station == some 22 && n != 22
      && n != 0 && s.line.reg.isNone) = true) : s.HearsOpen (from' n) :=
  ⟨(alone_of e).1, .inr (alone_of e).2.2⟩

/-! ### Well-formedness: each check refuses an ill-formed command -/

theorem test_wf_from_zero : (Instr.take ⟨22, 0⟩ 3).wf = false := by decide
theorem test_wf_status_loading :
    (Instr.status ⟨0, 5⟩ ⟨some .feed, .loading, .hold, .unlocked, 0, 0, 0, 0⟩).wf = false := by decide
theorem test_wf_status_role_of_unset :
    (Instr.status ⟨0, 5⟩ ⟨some .feed, .unset, .hold, .unlocked, 0, 0, 0, 0⟩).wf = false := by decide
theorem test_wf_attention_no_cause :
    (Instr.attention ⟨0, 5⟩ ⟨none, 2, 0, 0, false, 0⟩).wf = false := by decide
theorem test_wf_frame_for_all_is_for_us : (Instr.frameForOther ⟨0, 5⟩ .stall).wf = false := by decide
theorem test_wf_profile_length : (Instr.profileRead []).wf = false := by decide
theorem test_wf_check_missed_entry : (Instr.checkMissed .entry).wf = false := by decide
theorem test_wf_jam_at_bay : (Instr.eyeJam .bay).wf = false := by decide
theorem test_wf_stuck_at_exit : (Instr.eyeStuck .exit).wf = false := by decide
theorem test_wf_want_expiry_zero : (Instr.wantExpiry 0).wf = false := by decide
theorem test_wf_well_formed : (Instr.offer ⟨22, 11⟩ 3 ⟨100, 5, 9, 0, 2, {}⟩ 558).wf = true := by decide

/-- No word spells a command. -/
theorem test_no_word : decodeTableWord 8 0x20 = none ∧ feed.withFetchWord 8 0x20 = feed := ⟨rfl, rfl⟩

/-! ### Chapter 01: conversions, forward distance, marks across the wrap -/

/-- The table of conversion examples. -/
theorem test_conversions :
    [(800, 1200), (800, 1050), (800, 40), (800, 560), (1500, 9), (1250, 37), (200, 1), (2000, 8000)].map
      (fun x => mmToCounts x.1 x.2) = [960, 840, 32, 448, 14, 46, 0, 16000] := by decide
/-- The same table, back to millimetres; and note 3: a length of 0 counts is reported as 1. -/
theorem test_conversions_back :
    [(800, 960), (800, 840), (800, 32), (800, 448), (1500, 14), (1250, 46), (2000, 16000), (800, 0)].map
      (fun x => countsToMm x.1 x.2) = [1200, 1050, 40, 560, 9, 37, 8000, 1] := by decide
/-- The table of examples of forward distance. -/
theorem test_forward_distance :
    [(504, 500), (504, 504), (65200, 504), (144, 150), (150, 144), (0, 32768)].map
      (fun x : Count × Count => (Machine.dist x.1 x.2, reached x.1 x.2, slip x.1 x.2))
      = [(65532, false, -4), (0, true, 0), (840, true, 840), (6, true, 6), (65530, false, -6),
         (32768, false, -32768)] := by decide
/-- Worked example: the load of rack A at 65,203. -/
theorem test_marks_load :
    let g := (State.loadGroup { feed with cu := { count := 65203 } } (rack 65200)).marks
    [g.offer, g.approach, g.stop] = [⟨504, .armed⟩, ⟨544, .armed⟩, ⟨608, .armed⟩] := by decide +kernel
/-- Worked example: the correction at CHECK-A, slip +6. -/
theorem test_marks_corrected :
    let s := with1 { feed with cu := { count := 153 } } (rack 65200)
    let s := State.loadGroup { s with cu := { count := 65203 } } (rack 65200)
    let g := (State.correct { s with cu := { count := 153 } } (rack 65200) 6).marks
    (g.front, [g.offer, g.approach, g.stop]) =
      (65206, [⟨510, .armed⟩, ⟨550, .armed⟩, ⟨614, .armed⟩]) := by decide +kernel
/-- Worked example: a rack standing at EXIT at power-on fires all three marks at the load. -/
theorem test_marks_fire_at_load :
    let g := (State.loadGroup feed (rack 64576)).marks
    [g.offer, g.approach, g.stop] = [⟨65416, .fired⟩, ⟨65456, .fired⟩, ⟨65520, .fired⟩] := by decide +kernel

/-! ### Chapter 12: the profile -/

/-- An image of a FEED at the worked settings, with some bytes replaced and its sum. -/
def image (edits : List (Nat × Nat)) : List Byte :=
  let base : List (Nat × Nat) :=
    [(0, 0xC4), (1, 1), (2, 11), (4, 23), (5, 70), (8, 3), (9, 32), (10, 4), (11, 176), (12, 5), (13, 20),
     (22, 2), (23, 8), (24, 1), (25, 244), (29, 100), (31, 250), (32, 1), (33, 144), (42, 3), (55, 2),
     (93, 1), (104, 5)]
  let at' (i : Nat) : Nat := match (edits ++ base).find? (·.1 == i) with
    | some x => x.2
    | none => 0
  let body : List Byte := (List.range 111).map fun i => BitVec.ofNat 8 (at' i)
  let sum := imgSum body
  body ++ [BitVec.ofNat 8 (sum / 256), BitVec.ofNat 8 (sum % 256)]

/-- The worked settings example: the values used. -/
theorem test_clamping :
    let p := profileOf (image [])
    profileFault 22 (image []) = none ∧ p.posCheckA = 1199 ∧ (p.rackMin, p.rackMax) = (520, 520)
      ∧ (p.offerLead, p.approachLead, p.stopLead) = (100, 100, 100) ∧ p.creepDiv = 4 ∧ p.parkDelay = 5
      ∧ p.severities.getD 11 0 = 3 ∧ p.d1 = 0 := by decide +kernel
/-- The worked settings example, last row: D0 equal to the station number is detail 8. -/
theorem test_profile_own_number : profileFault 22 (image [(4, 22)]) = some 8 := by decide +kernel
/-- The other rows of the check (R186), each by its first failing row. -/
theorem test_profile_faults :
    [profileFault 22 (image [(0, 0)]), profileFault 22 ((image []).set 112 0),
     profileFault 22 (image [(1, 6)]), profileFault 22 (image [(10, 0), (11, 0)]),
     profileFault 22 (image [(2, 64)]), profileFault 22 (image [(1, 2), (3, 11)]),
     profileFault 22 (image [(1, 4), (5, 23)])] =
      [some 2, some 3, some 4, some 5, some 6, some 7, some 9] := by decide +kernel
/-- E-STOP keeps severity 3 whatever the profile holds (worked settings example). -/
theorem test_estop_severity :
    (State.severity (stationOf (profileOf (image []))) .estop,
     State.severity (stationOf (profileOf (image []))) .crowding) = (3, 3) := by decide +kernel

/-! ### Chapter 10: frames, queue, back-off -/

/-- The CRC of the ASCII digits 1 to 9 is the published check value of this CRC (0x1021, 0xFFFF). -/
theorem test_crc : crc [0x31, 0x32, 0x33, 0x34, 0x35, 0x36, 0x37, 0x38, 0x39] = 0x29B1 := by decide +kernel
/-- A TAKE on the line, byte by byte but for its CRC (frame kinds table). -/
theorem test_take_bytes : (frameBytes 22 33 (.take 3)).take 6 = [0xA5, 0x21, 22, 33, 1, 3] := by decide
/-- The OFFER layout, byte by byte (frame kinds): serial, number, class, origin, steered-by, hop, flags, mm. -/
theorem test_offer_bytes :
    Payload.bytes (.offer 3 ⟨0x4B7, 5, 9, 0, 2, { stray := true, misrouted := true }⟩ 558)
      = [3, 0x04, 0xB7, 5, 9, 0, 2, 0x01, 0x01, 0x02, 0x2E] := by decide
/-- A stop bit that reads low breaks the frame (R167). -/
theorem test_framing_error :
    parseRun ((frameBytes 22 33 (.take 3)).map fun b => ⟨BitVec.ofNat 8 b, b != 33⟩) = none := by decide +kernel
/-- The worked sequence: stations 11 and 12 after a first collision; 11 and 27 draw alike (note 2). -/
theorem test_backoff :
    [backoffOf 11 1, backoffOf 12 1, backoffOf 11 2, backoffOf 27 1, backoffOf 27 2] = [1, 2, 6, 1, 6] := by
  decide

/-! ### Chapters 05, 08, 11: worked sequences, one step each -/

/-- Alias resolution (R136 to R138): four steps end at a port, a fifth gives the fallback and ROUTE-LOOP. -/
def aliases : State :=
  { feed with boot := { feed.boot with prof := { feed.boot.prof with
      role := .divert, fallback := .d1
      routes := [⟨.aliasOf 1, true⟩, ⟨.aliasOf 2, true⟩, ⟨.aliasOf 3, true⟩, ⟨.aliasOf 4, true⟩, ⟨.port1, true⟩,
                 ⟨.aliasOf 0, true⟩, ⟨.aliasOf 6, true⟩, ⟨.demand, true⟩] } } }
theorem test_alias_four : (aliases.resolve 0).2 = ⟨.d1, true, false⟩ := by decide +kernel
theorem test_alias_loop :
    ((aliases.resolve 5).2, ((aliases.resolve 5).1.cause .routeLoop).detail) = (⟨.d1, false, false⟩, 5) := by
  decide +kernel

/-- A late landing (worked sequence of chapter 05): the list empties and LOST-RACK becomes ABSENT, repeat 1. -/
theorem test_landed_late :
    let s := { feed with
      ex := { lost := [⟨845, 2, .d0⟩] }
      att := { causes := { lostRack := { st := .pending, detail := 845 } }, level := 2 } }
    let t := after (.landed (from' 33) 2 845 .ok) s
    (t.ex.lost, (t.cause .lostRack).st, (t.cause .lostRack).repeats, t.att.level) = ([], .absent, 1, 0) := by
  decide +kernel
/-- The lost rack of that sequence: travel 900 keeps it, travel 901 gives it up. -/
theorem test_given_up :
    let p := { prof .feed with k := 1000 }
    let s := with1 (stationOf p) { taken with number := 845, exitSerial := some 2, takenAt := some 20000 }
    let go (c : Count) := after .transferAllowanceExpiry { s with cu := { count := c }, found := [.transfer 0] }
    ((go 20900).track.length, (go 20901).track, (go 20901).ex.lost) = (1, [], [⟨845, 2, .d0⟩]) := by
  decide +kernel
/-- And WHERE goes at 451, not at 450. -/
theorem test_where_at_half :
    let p := { prof .feed with k := 1000 }
    let s := with1 (stationOf p) { taken with exitSerial := some 2, takenAt := some 20000 }
    let go (c : Count) :=
      (after .whereSent { s with cu := { count := c }, found := [.whereSent 0] }).track.map (·.whereSent)
    (go 20450, go 20451) = ([false], [true]) := by decide +kernel
/-- The edge onto that count is what finds it (R10, R92), and a tick of a standing belt finds nothing. -/
theorem test_where_found_by_the_edge :
    let p := { prof .feed with k := 1000 }
    let s := with1 (stationOf p) { taken with exitSerial := some 2, takenAt := some 20000, front := 20000 }
    let go (c : Count) := (after .forwardEdge { s with cu := { count := c } }).found
    (go 20449, go 20450, (after (.tick pins) { s with cu := { count := 20451 } }).found)
      = ([], [.whereSent 0], []) := by decide +kernel

/-- The jam of chapter 11: EXIT-JAM at level 3 holds the belt and withdraws the offer of serial 3. -/
def jammed : State :=
  let s := with1 { feed with cu := { count := 927 } } offered
  { s with
    dr := { s.dr with belt := .run, level := 400 }
    eyes := { s.eyes with exit := { settled := true, raw := true, st := .blocked, jamDist := 926 } }
    ex := { sendCount := 1, resend := some 10 }
    line := { s.line with reg := some ⟨⟨0, .stall⟩, 0, 0, true⟩ }
    found := [.jam .exit] }
theorem test_jam :
    let t := after (.eyeJam .exit) jammed
    ((t.cause .exitJam).st, t.att.level, t.dr.belt, t.dr.level, t.dr.resume, t.track.map (·.state))
      = (.pending, 3, .hold, 0, 400, [.head]) := by decide +kernel
/-- The frames of that event: PROMPT before ROUTINE, with the detail of EXIT. -/
theorem test_jam_frames :
    ((after (.eyeJam .exit) jammed).line.queue.map fun f => (f.dst, Payload.kind f.payload))
      = [(33, 0x24), (0, 0x51), (0, 0x50)] := by decide +kernel
/-- One edge less is not yet a jam (R29: more travel than the distance). -/
theorem test_no_jam_yet : after (.eyeJam .exit) { jammed with cu := { count := 926 } }
    = { jammed with cu := { count := 926 } } := by decide +kernel

/-! ### Small steps -/

/-- The count wraps up and down (R1). -/
theorem test_count_wraps :
    ((after .forwardEdge { feed with cu := { count := 65535 } }).cu.count, (after .reverseEdge feed).cu.count)
      = (0, 65535) := by decide +kernel
/-- The four forward pairs (the table of encoder states): low low, high low, high high, low high. -/
theorem test_encoder_order :
    [(false, false), (true, false), (true, true), (false, true)].map
        (fun p => CountUnit.forwardPair { ena := p.1, enb := p.2 })
      = [(true, false), (true, true), (false, true), (false, false)] := by decide
/-- A reader's reply: 0x3E 0x04 0xB7 is number 1207, a zero is no tag, a wrong leader is garbled (R31). -/
theorem test_tag_replies :
    (tagReplyOf 0x3E 0x04 0xB7, tagReplyOf 0x3E 0 0, tagReplyOf 0x3C 0x04 0xB7, tagReplyOf 0x3E 0x10 0)
      = (.number 1207, .noTag, .garbled, .garbled) := by decide
/-- At 24 counts in each of four windows and K = 800, M16 is 384 and the speed 120 mm/s (R71). -/
theorem test_speed : (measure [24, 24, 24, 24], speedOf 800 384) = (384, 120) := by decide
/-- The level change truncates toward zero (R74): 5 × 10 / 64 and its negative are 0. -/
theorem test_truncation : (levelChange 5 10, levelChange (-5) 10, levelChange (-13) 10) = (0, 0, -2) := by
  decide
/-- An OFFER to an empty FEED in idle HOLD is taken at once, and the belt spins up (worked sequence, 05). -/
theorem test_offer_taken :
    let s := { feed with cu := { count := 3000 }, line := { feed.line with reg := some ⟨⟨0, .stall⟩, 0, 0, false⟩ } }
    let t := after (.offer (from' 11) 4 ⟨1207, 5, 9, 0, 3, {}⟩ 558) s
    (t.en.slotA.map fun x => (x.serial, x.takenAt), t.dr.belt, t.line.queue.map fun f => (f.dst, f.payload))
      = (some (4, 3000), .spinUp,
         [(11, .take 4), (11, .go 60),
          (0, .status ⟨some .feed, .active, .spinUp, .unlocked, 0, 0, 0, 0⟩)]) := by
  decide +kernel

/-- The skip found by the reader (worked sequence, 05): slot A was LANDING for 1300, and 1301 is read. -/
theorem test_skip :
    let img (n : RackNo) (c : RackClass) (h : Fin 256) : Image := ⟨n, c, 9, 0, h, {}⟩
    let s := with1 feed { rack 5210 with number := 1300, cls := 1, hop := 3, entry := some ⟨.u0, 7⟩, state := .entering, entryOpen := true }
    let s := { s with
      tag := { st := .reading, owner := some 0, timeout := some 5 }
      en := { slotA := some ⟨some 0, .u0, 7, img 1300 1 2, 0, none⟩
              slotB := some ⟨none, .u0, 8, img 1301 2 5, 0, none⟩, newest := .b } }
    let t := after (.tagReplyComplete 0x3E 0x05 0x15) s
    (t.en.slotA, t.en.slotB, t.en.log0) = (none, none, [⟨7, 1301, .skipped⟩, ⟨8, 1301, .ok⟩])
      ∧ t.track.map (fun r => (r.number, r.cls, r.hop, r.entry, r.front)) = [(1301, 2, 6, some ⟨.u0, 8⟩, 5210)]
      ∧ ((t.cause .expectedMissing).st, (t.cause .expectedMissing).detail) = (.pending, 1300) := by
  decide +kernel

/-! ### Witnesses: states that meet the hypotheses of the statements -/

theorem feed_nothingDue : feed.NothingDue := by unfold State.NothingDue; decide +kernel

-- StepRunsFrontCommand, CommandsCompleteAndResetHoldsThem, ResetReleaseStarts
theorem witness_queue_empty : State.reset.pending = [] := rfl
theorem witness_reset_held : State.reset.boot.resetHeld = true ∧ underReset .forwardEdge = false := ⟨rfl, rfl⟩

/-- LOADING, with three agreeing samples of the straps. -/
def strapped (n : Station) : State :=
  { State.reset with boot := { resetHeld := false, strapLast := some n, strapRun := 3 } }
/-- LOADING, with the number 22. -/
def numbered : State := { State.reset with boot := { resetHeld := false, station := some 22 } }

-- StartUpReadsNumberAndProfile: a number, and 0; an image that passes, and one that fails
theorem witness_station_number : ∀ n ∈ [(22 : Station), 63, 0],
    (strapped n).Runs ∧ (strapped n).boot.mode = .loading ∧ (strapped n).boot.station = none
      ∧ (strapped n).boot.strapLast = some n ∧ (strapped n).boot.strapRun = 3 := by
  intro n _; exact ⟨rfl, rfl, rfl, rfl, rfl⟩
theorem witness_profile : numbered.Runs ∧ numbered.boot.mode = .loading ∧ numbered.boot.station = some 22
    ∧ (22 : Station) ≠ 0 ∧ (image []).length = 113 ∧ profileFault 22 (image []) = none
    ∧ (image [(4, 22)]).length = 113 ∧ profileFault 22 (image [(4, 22)]) = some 8 :=
  ⟨rfl, rfl, rfl, by decide, by decide +kernel, by decide +kernel, by decide +kernel, by decide +kernel⟩

-- DistancesAndConversions
theorem witness_conversion : (0 < 800) ∧ 800 * 558 ≤ 446 * 1000 + 800 / 2 ∧ 446 * 1000 + 800 / 2 < 800 * (558 + 1) := by
  decide
theorem witness_correction : rack 0 ∈ (with1 feed (rack 0)).track := by decide

/-- The head whose stop mark lies at the next count. -/
def atStop : State :=
  let s := with1 feed (rack 0)
  { s with
    dr := { s.dr with belt := .creep, level := 200, t16 := 48 }
    ex := s.ex
    track := [{ offered with }]
    cu := { count := 943 }
    marks := { s.marks with offer := ⟨840, .fired⟩, approach := ⟨880, .fired⟩, stop := ⟨944, .armed⟩ } }
theorem atStop_nothingDue : atStop.NothingDue := by unfold State.NothingDue; decide +kernel

-- BeltEdgesCountAndFireMarks, MarksFireOntoTheirCount, TickAdvancesTime
theorem witness_edge : feed.Runs ∧ feed.NothingDue
    ∧ ¬(feed.marks.stop.st = .armed ∧ feed.marks.stop.pos = feed.cu.count + 1) :=
  ⟨rfl, feed_nothingDue, by decide⟩
theorem witness_edge_onto_stop : atStop.Runs ∧ atStop.NothingDue
    ∧ (atStop.marks.stop.st = .armed ∧ atStop.marks.stop.pos = atStop.cu.count + 1) :=
  ⟨rfl, atStop_nothingDue, by decide⟩
theorem witness_no_mark_ahead : feed.Runs ∧ feed.NothingDue
    ∧ ∀ m ∈ [MarkGroup.offer, MarkGroup.approach, MarkGroup.stop, MarkGroup.gateClear],
        (m feed.marks).st = .armed → (m feed.marks).pos ≠ feed.cu.count + 1 :=
  ⟨rfl, feed_nothingDue, by decide⟩
theorem witness_group_roles : (stationOf (prof .divert)).hasRole .divert = true ∧ feed.hasRole .divert = false := by
  decide
theorem witness_tick : feed.Runs ∧ feed.NothingDue := ⟨rfl, feed_nothingDue⟩

/-- A pending edge at an eye, its run complete. -/
def pended (e : Eye) (st : EyeState) (rev : Bool) (x : Count) : State :=
  let s := { feed with cu := { count := x + 1 }, dr := { feed.dr with belt := .run, level := 300 } }
  s.updChan e fun c => { c with raw := !(EyeState.isBlocked st), st := st, pend := some ⟨x, rev, 2⟩ }

-- EyeEdgesArePendedAndConfirmed: an unfitted eye, a return, a change with and without an edge pending
theorem witness_raw_change : feed.Runs ∧ feed.NothingDue ∧ feed.fitted .checkA = false
    ∧ feed.fitted .exit = true ∧ (feed.chan .exit).settled = true
    ∧ false = EyeState.isBlocked (feed.chan .exit).st ∧ true ≠ EyeState.isBlocked (feed.chan .exit).st :=
  ⟨rfl, feed_nothingDue, by decide, by decide, by decide, by decide, by decide⟩
theorem witness_confirm : ∀ st ∈ [EyeState.clear, .blocked, .receded, .returned], ∀ rev ∈ [false, true],
    let s := pended .exit st rev 700
    s.Runs ∧ s.boot.mode = .active ∧ s.fitted .exit = true ∧ s.dr.belt ≠ .park
      ∧ (s.chan .exit).pend = some ⟨700, rev, 2⟩ ∧ s.boot.prof.eyeFilter ≤ 2 := by
  intro st _ rev _; exact ⟨rfl, rfl, rfl, nofun, rfl, (by decide : (2 : Nat) ≤ 2)⟩

-- EntryLeadCreatesARecord: a STRAY with the names sound, and a RESERVED slot
def slot (n : Serial) : Slot := ⟨none, .u0, n, ⟨1207, 5, 9, 0, 255, {}⟩, 65000, none⟩
theorem witness_entry_stray :
    let s := pended .entry .clear false 65200
    s.Runs ∧ s.boot.mode = .active ∧ s.boot.loaded = true ∧ s.dr.belt ≠ .park
      ∧ s.eyes.entry.pend = some ⟨65200, false, 2⟩ ∧ s.boot.prof.eyeFilter ≤ 2 ∧ s.eyes.entry.st = .clear
      ∧ s.track.length < s.boot.prof.trackLimit ∧ s.en.slotA = none ∧ s.en.slotB = none ∧ s.NamesSound :=
  ⟨rfl, rfl, rfl, nofun, rfl, by decide, rfl, by decide, rfl, rfl, by unfold State.NamesSound; decide⟩
theorem witness_entry_slot :
    let s := { feed with en := { slotB := some (slot 4), newest := .b } }
    s.trackFull = false ∧ s.oldestReserved = some (.b, slot 4) ∧ (∀ r ∈ s.track, r.id < s.nextId)
      ∧ s.hasRole .divert = false := by decide

-- EntryTrailMeasuresTheRack: 448 counts are the rack maximum, 449 are CROWDED
theorem witness_entry_trail :
    let r : Rec := { rack 1000 with entryOpen := true, state := .entering, length := none }
    let s := { with1 feed r with eyes := { feed.eyes with lead := some 1000, leadFresh := true } }
    s.NamesSound ∧ r ∈ s.track ∧ r.entryOpen = true ∧ (∀ q ∈ s.track, q.entryOpen = true → q = r)
      ∧ s.eyes.lead = some 1000 ∧ s.eyes.leadFresh = true ∧ r.state = .entering
      ∧ Machine.dist 1000 1448 ≤ s.boot.cts.rackMax ∧ s.boot.cts.rackMax < Machine.dist 1000 1449 :=
  ⟨by unfold State.NamesSound; decide, by decide, rfl, by decide, rfl, rfl, rfl, by decide, by decide⟩

/-- SCANNING, with the last run of EXIT complete; `last`: every other channel has its first state. -/
def scanning (last : Bool) : State :=
  let s := feedIn .scanning
  { s with eyes := { s.eyes with exit := { firstLevel := true, firstRun := 2 }
                                 entry := { settled := last } } }
-- FirstStatesEndTheScan: another channel waits, and none does
theorem witness_first_state : ∀ l ∈ [false, true],
    (scanning l).Runs ∧ (scanning l).boot.mode = .scanning ∧ (scanning l).fitted .exit = true
      ∧ ((scanning l).chan .exit).settled = false
      ∧ (scanning l).boot.prof.eyeFilter ≤ ((scanning l).chan .exit).firstRun := by
  intro l _; exact ⟨rfl, rfl, rfl, rfl, by decide +revert⟩
theorem witness_first_state_others :
    ((scanning false).fitted .entry = true ∧ ((scanning false).chan .entry).settled = false)
      ∧ ∀ f, f ≠ Eye.exit → (scanning true).fitted f = true → ((scanning true).chan f).settled = true :=
  ⟨⟨rfl, rfl⟩, by intro f; cases f <;> decide⟩

/-- A FEED with a CHECK-A at 480 counts. -/
def checkFeed : State := stationOf { prof .feed with posCheckA := 600 }
-- MissedJammedAndStuckAreReported: 33 counts past the crossing; a jam at each end; a stuck CHECK-A
theorem witness_missed :
    let s := { with1 checkFeed (rack 0) with cu := { count := 513 } }
    let s := { s.updChan .checkA fun c => { c with awaited := [0] } with found := [.missed .checkA 0] }
    s.Runs ∧ s.isCheck .checkA = true ∧ (s.chan .checkA).awaited = (rack 0).id :: [] ∧ (rack 0).id ∉ ([] : List Nat)
      ∧ s.recOf (rack 0).id = some (rack 0) ∧ (s.chan .checkA).pendingLead = false
      ∧ .missed .checkA (rack 0).id ∈ s.found
      ∧ s.boot.cts.tol < travel ((rack 0).front + BitVec.ofNat 16 (s.offset .checkA)) s.cu.count :=
  ⟨rfl, by decide, rfl, by decide, by decide, rfl, by decide, by decide⟩
theorem witness_jam : ∀ e ∈ [Eye.entry, .exit],
    let s := { feed with cu := { count := 929 } }
    let s := { s.updChan e fun c => { c with st := .blocked, jamDist := 928 } with found := [.jam e] }
    s.Runs ∧ s.boot.loaded = true ∧ (e = .entry ∨ e = .exit) ∧ EyeState.isBlocked (s.chan e).st = true
      ∧ (s.chan e).jam = false ∧ .jam e ∈ s.found
      ∧ (if e = .exit then (s.chan e).jamDist else s.boot.cts.rackMax + s.boot.cts.jam)
          < travel (s.chan e).blockedFrom s.cu.count := by
  intro e he
  rcases List.mem_cons.1 he with rfl | he
  · exact ⟨rfl, rfl, .inl rfl, rfl, rfl, by decide, by decide⟩
  · rcases List.mem_singleton.1 he with rfl
    exact ⟨rfl, rfl, .inr rfl, rfl, rfl, by decide, by decide⟩
theorem witness_stuck :
    let s := { checkFeed with cu := { count := 481 } }
    let s := s.updChan .checkA fun c => { c with st := .blocked, unaccounted := some 0 }
    let s := { s with found := [.stuck .checkA] }
    s.Runs ∧ s.watches .checkA = true ∧ (s.chan .checkA).unaccounted = some 0 ∧ (s.chan .checkA).stuck = false
      ∧ .stuck .checkA ∈ s.found ∧ s.boot.cts.jam < travel 0 s.cu.count :=
  ⟨rfl, by decide, rfl, rfl, by decide, by decide⟩

/-- A read in progress for the record on the track. -/
def reading : State :=
  { with1 feed { rack 0 with number := notag } with tag := { st := .reading, owner := some 0, timeout := some 0 } }
-- TagPortEndsItsReads: numbers 1 and 4095; the timeout
theorem witness_tag : reading.Runs ∧ reading.boot.loaded = true ∧ reading.boot.prof.reader = true
    ∧ reading.tag.st = .reading ∧ reading.tag.owner = some 0
    ∧ reading.recOf 0 = some { rack 0 with number := notag } ∧ reading.slotOf 0 = none
    ∧ reading.numberHeld 0 (Fin.ofNat 4096 1) = false ∧ reading.numberHeld 0 (Fin.ofNat 4096 4095) = false
    ∧ reading.tag.timeout = some 0 :=
  ⟨rfl, rfl, rfl, rfl, rfl, by decide, by decide, by decide, by decide, rfl⟩

-- GivenUpRecordsAreLost: 481 past the crossing, TAKEN or not; 721 since TAKE; a SKIPPED for serial 3
theorem witness_vanish : ∀ r ∈ [taken, rack 0],
    let s := { with1 feed r with cu := { count := 1441 }, found := [.vanish 0] }
    s.Runs ∧ s.eyes.exit.pendingLead = false
      ∧ s.track.find? (fun q => s.found.contains (.vanish q.id) && q.exitPass == .none
        && decide (s.boot.cts.jam < travel (q.front + BitVec.ofNat 16 s.boot.cts.exit) s.cu.count)) = some r := by
  intro r hr
  rcases List.mem_cons.1 hr with rfl | hr
  · exact ⟨rfl, rfl, by decide +kernel⟩
  · rcases List.mem_singleton.1 hr with rfl
    exact ⟨rfl, rfl, by decide +kernel⟩
theorem witness_transfer :
    let s := { with1 feed taken with cu := { count := 721 }, found := [.transfer 0] }
    s.Runs ∧ s.transferDue = some taken ∧ taken.takenAt = some 0 ∧ taken.exitPort = some .d0
      ∧ taken.exitSerial = some 3 ∧ taken ∈ s.track ∧ .transfer taken.id ∈ s.found ∧ taken.handed = true
      ∧ taken.landing = none ∧ s.boot.cts.transfer < travel 0 s.cu.count :=
  ⟨rfl, by decide +kernel, rfl, rfl, rfl, by decide, by decide, rfl, rfl, by decide⟩
theorem witness_handed : (with1 feed taken).HearsAlone (from' 33) ∧ (with1 feed taken).downPortOf 33 = some .d0
    ∧ (with1 feed taken).handedAs .d0 3 = some taken := ⟨alone_of rfl, by decide, by decide⟩

/-- A TUNNEL whose head has its exposure to the tick. -/
def tunnel : State :=
  let s := with1 (stationOf { prof .tunnel with minExposure := 20 }) { rack 0 with residence := 2000 }
  { s with cu := { count := 840 }, marks := { s.marks with offer := ⟨840, .fired⟩ } }
-- ExposureMetOffersTheHead
theorem witness_exposure : tunnel.Runs ∧ tunnel.hasRole .tunnel = true ∧ 0 < tunnel.boot.prof.minExposure
    ∧ tunnel.offerable = some { rack 0 with residence := 2000 } ∧ tunnel.boot.prof.d0 ≠ 0 ∧ tunnel.HasRoom :=
  ⟨rfl, rfl, by decide, by decide +kernel, by decide, by unfold State.HasRoom; decide⟩

/-- The window ends in a belt state. -/
def windowed (b : BeltState) : State :=
  { feed with dr := { feed.dr with belt := b, winLeft := some 0, winEdges := 12, level := 1020, t16 := 400,
                                   satHigh := 7, history := [1, 2, 3, 4] } }
-- WindowEndMeasuresAndRegulates: regulated and not, with a profile and without
theorem witness_window : (windowed .run).Runs ∧ (windowed .run).dr.winLeft = some 0
    ∧ (windowed .run).dr.belt = .run ∧ (windowed .run).boot.loaded = true
    ∧ (windowed .hold).dr.belt ≠ .run ∧ (windowed .hold).dr.belt ≠ .creep
    ∧ (let s := { numbered with dr := { winLeft := some 0 } }
       s.Runs ∧ s.dr.winLeft = some 0 ∧ s.boot.loaded = false) :=
  ⟨rfl, rfl, rfl, rfl, nofun, nofun, rfl, rfl, rfl⟩

-- LockAndUnsteadyFollowTheError: the fourth window in the band, the second beyond twice the band
theorem witness_lock : (({ inBand := 3 } : Drive).lock = .unlocked ∧ ({ inBand := 3 } : Drive).inBand < 4
      ∧ (8 : Int).natAbs ≤ max 8 (0 / 8))
    ∧ (({ lock := .locked, outBand := 1 } : Drive).lock = .locked
      ∧ ({ lock := .locked, outBand := 1 } : Drive).outBand < 2 ∧ 2 * max 8 (0 / 8) < (17 : Int).natAbs) := by decide
theorem witness_unsteady :
    let s := { feed with dr := { feed.dr with belt := .run, unsteady := 1000 } }
    s.Runs ∧ s.dr.belt = .run ∧ s.dr.lock = .unlocked ∧ (s.cause .beltUnsteady).present = false
      ∧ s.boot.prof.unsteadyLimit * 100 ≤ s.dr.unsteady := ⟨rfl, rfl, rfl, rfl, by decide⟩

/-- SPIN-UP at its end, with and without a rack to carry. -/
def spun (racks : List Rec) : State :=
  { feed with track := racks, nextId := 1, dr := { feed.dr with belt := .spinUp, spinLeft := some 0, level := 300 } }
-- BeltStateFollowsTheWantedMotion
theorem witness_spin_up : (spun [rack 0]).Runs ∧ (spun [rack 0]).dr.belt = .spinUp
    ∧ (spun [rack 0]).dr.spinLeft = some 0 ∧ (spun [rack 0]).wanted ≠ .hold ∧ (spun []).Runs
    ∧ (spun []).dr.belt = .spinUp ∧ (spun []).dr.spinLeft = some 0 ∧ (spun []).wanted = .hold :=
  ⟨rfl, rfl, rfl, by decide, rfl, rfl, rfl, by decide⟩
theorem witness_follow :
    let s (from' : BeltState) (t : Nat) :=
      { spun [rack 0] with dr := { belt := .hold, resume := 400, holdFrom := some from', holdTicks := t } }
    ((s .run 49).wanted ≠ .hold ∧ (s .run 49).dr.holdTicks < 50) ∧ 50 ≤ (s .run 50).dr.holdTicks
      ∧ (spun []).wanted = .hold ∧ ({ spun [] with dr := { belt := .creep } }).wanted = .hold := by decide

/-- A FEED whose head is OFFERED, the re-send timer at its end. -/
def offering (answered : Bool) (n : Nat) : State :=
  { with1 feed { offered with answered := answered } with ex := { sendCount := n, resend := some 0 } }
-- OfferAndWhereAreSentAgain: answered; unanswered at send counts 2, 3 and 4; no head offered; WHERE at 361
theorem witness_resend : ∀ x ∈ [(true, 1), (false, 2), (false, 3), (false, 4)],
    let s := offering x.1 x.2
    s.Runs ∧ s.ex.resend = some 0 ∧ s.head = some { offered with answered := x.1 } ∧ s.ex.sendCount = x.2
      ∧ s.downStation .d0 = 33 := by
  intro x _; exact ⟨rfl, rfl, rfl, rfl, rfl⟩
theorem witness_resend_room : (offering false 2).HasRoom := by unfold State.HasRoom; decide
theorem witness_no_resend : (with1 feed (rack 0)).Runs
    ∧ ∀ r, (with1 feed (rack 0)).head = some r → r.state ≠ .offered :=
  ⟨rfl, by intro r h; have : rack 0 = r := Option.some.inj h; subst this; decide⟩
theorem witness_where :
    let s := { with1 feed taken with cu := { count := 361 }, found := [.whereSent 0] }
    s.Runs ∧ s.whereDue = some taken ∧ taken.exitPort = some .d0 ∧ taken.exitSerial = some 3 ∧ s.HasRoom
      ∧ taken ∈ s.track ∧ .whereSent taken.id ∈ s.found ∧ taken.handed = true ∧ taken.landing = none
      ∧ taken.whereSent = false ∧ taken.takenAt = some 0 ∧ s.boot.cts.transfer / 2 < travel 0 s.cu.count :=
  ⟨rfl, by decide +kernel, rfl, rfl, by unfold State.HasRoom; decide, by decide, by decide, rfl, rfl, rfl, rfl,
    by decide⟩

-- TakeReleasesTheHead, AnswersMatchTheOutstandingOffer: serial 3 is outstanding, serial 4 is not
theorem witness_offered : (with1 feed offered).HearsAlone (from' 33) ∧ (with1 feed offered).head = some offered
    ∧ offered.state = .offered ∧ (with1 feed offered).downPortOf 33 = some .d0 ∧ offered.exitPort = some .d0
    ∧ offered.exitSerial = some 3 ∧ (with1 feed offered).offeredTo 33 4 = none :=
  ⟨alone_of rfl, rfl, rfl, by decide, rfl, rfl, by decide⟩

-- LandedReportsAreAccounted: spanning and passed, and the lost list
theorem witness_landed : ∀ x ∈ [ExitPass.spanning, .passed],
    let r := { taken with exitPass := x, state := .leaving }
    (with1 feed r).HearsAlone (from' 33) ∧ (with1 feed r).downPortOf 33 = some .d0
      ∧ (with1 feed r).handedAs .d0 3 = some r := by
  intro x _; exact ⟨alone_of rfl, by cases x <;> decide, by cases x <;> decide⟩
theorem witness_late :
    let s := { feed with ex := { lost := [⟨845, 2, .d0⟩] } }
    s.HearsAlone (from' 33) ∧ s.downPortOf 33 = some .d0 ∧ s.handedAs .d0 2 = none
      ∧ s.lostAs .d0 2 = some ⟨845, 2, .d0⟩ := ⟨alone_of rfl, by decide, by decide, by decide⟩

/-- A DIVERT whose head is OFFERED on branch 0, its patience at its end. -/
def impatient (alt : Bool) : State :=
  let s := with1 (stationOf { prof .divert with posGate := 1000 }) offered
  { s with gate := { s.gate with rackRoute := some ⟨.d0, alt, false⟩ }, ex := { s.ex with patience := some 0 } }
-- PatienceTurnsTheHead: with an alternate, and without
theorem witness_patience : ∀ alt ∈ [true, false],
    (impatient alt).Runs ∧ (impatient alt).ex.patience = some 0 ∧ (impatient alt).head = some offered
      ∧ (impatient alt).gate.rackRoute = some ⟨.d0, alt, false⟩ ∧ offered.state = .offered
      ∧ (impatient alt).hasRole .divert = true ∧ (impatient alt).canTurnTo .d1 = true
      ∧ (impatient alt).atGate offered = false ∧ (impatient alt).HasRoom := by
  intro alt _
  exact ⟨rfl, rfl, rfl, rfl, rfl, rfl, by decide +revert, by decide +revert,
    by unfold State.HasRoom; decide +revert⟩

/-- Offers: a slot held for serial 4, a noted offer of serial 5. -/
def held : State := { feed with en := { slotA := some (slot 4), noted0 := some ⟨5, (slot 5).image, none⟩ } }
/-- The same at a level. -/
def level (s : State) (n : Fin 4) : State := { s with att := { s.att with level := n } }
-- OfferAnsweredByTheRows: scanning, unset, no upstream port, a slot, a noted offer, level 2, ready, not ready, DIVERT
theorem witness_offer_modes : (feedIn .scanning).HearsAlone (from' 11) ∧ (feedIn .unset).HearsAlone (from' 11)
    ∧ feed.HearsAlone (from' 44) ∧ feed.upPortOf 44 = none := ⟨alone_of rfl, alone_of rfl, alone_of rfl, by decide⟩
theorem witness_offer_held : held.HearsAlone (from' 11) ∧ held.boot.mode = .active ∧ held.upPortOf 11 = some .u0
    ∧ held.slotHolding .u0 4 = some (.a, slot 4) ∧ held.slotHolding .u0 5 = none
    ∧ held.noted .u0 = some ⟨5, (slot 5).image, none⟩ := ⟨alone_of rfl, rfl, by decide, rfl, rfl, rfl⟩
theorem witness_offer_ready : feed.slotHolding .u0 6 = none ∧ feed.noted .u0 = none ∧ feed.att.level < 2
    ∧ (feed.refresh 11).entryReady .u0 none = true
    ∧ ((level feed 2).refresh 11).entryReady .u0 none = false ∧ 2 ≤ ((level feed 2).refresh 11).att.level
    ∧ ({ feed with track := [{ rack 0 with entryOpen := true }] }.refresh 11).entryReady .u0 none = false := by
  decide +kernel
theorem witness_offer_noted_ready :
    let s := { feed with en := { noted0 := some ⟨5, (slot 5).image, none⟩ } }
    s.slotHolding .u0 5 = none ∧ s.noted .u0 = some ⟨5, (slot 5).image, none⟩
      ∧ (s.refresh 11).entryReady .u0 none = true ∧ (s.refresh 11).att.level < 2 := by decide +kernel
theorem witness_offer_divert : (stationOf (prof .divert)).HearsAlone (from' 11)
    ∧ (stationOf (prof .divert)).hasRole .divert = true ∧ (stationOf (prof .divert)).upPortOf 11 = some .u0
    ∧ (stationOf (prof .divert)).noted .u0 = none := ⟨alone_of rfl, rfl, by decide, rfl⟩

/-- A MERGE with both ports NOTED. -/
def merging (last : UpPort) : State :=
  { stationOf (prof .merge) with
    en := { noted0 := some ⟨5, (slot 5).image, none⟩, noted1 := some ⟨6, (slot 6).image, none⟩, lastGranted := last } }
-- TakeReservesAndReadinessTakes: each port in its turn
theorem witness_free_slot : feed.freeSlot = some .a ∧ held.freeSlot = some .b ∧ feed.HasRoom :=
  ⟨rfl, rfl, by unfold State.HasRoom; decide⟩
theorem witness_ready : (merging .u1).Runs ∧ (merging .u1).noted .u0 = some ⟨5, (slot 5).image, none⟩
    ∧ (merging .u1).entryReady .u0 none = true ∧ (merging .u0).noted .u1 = some ⟨6, (slot 6).image, none⟩
    ∧ (merging .u0).entryReady .u1 none = true ∧ (merging .u0).hasRole .merge = true
    ∧ (merging .u0).en.lastGranted = .u0 := ⟨rfl, rfl, by decide +kernel, rfl, by decide +kernel, rfl, rfl⟩

-- WithdrawAndWhereAreObeyed: named and unnamed serials; a station that is no upstream neighbour; the log
theorem witness_withdraw : held.HearsAlone (from' 11) ∧ held.upPortOf 11 = some .u0
    ∧ held.noted .u0 = some ⟨5, (slot 5).image, none⟩ ∧ held.slot .a = some (slot 4)
    ∧ held.HearsAlone (from' 33) ∧ held.upPortOf 33 = none :=
  ⟨alone_of rfl, by decide, rfl, rfl, alone_of rfl, by decide⟩
theorem witness_where_asked :
    let x : LandLog := ⟨4, 1207, .ok⟩
    let s := { feed with en := { slotA := some { slot 6 with landing := some 0 }, slotB := some (slot 7), log0 := [x] } }
    s.HearsAlone (from' 11) ∧ s.boot.mode = .active ∧ s.upPortOf 11 = some .u0
      ∧ (x ∈ s.landLog .u0 ∧ ∀ y ∈ s.landLog .u0, y.serial = 4 → y = x)
      ∧ (∀ y ∈ s.landLog .u0, y.serial ≠ 6) ∧ s.slotHolding .u0 6 = some (.a, { slot 6 with landing := some 0 })
      ∧ s.slotHolding .u0 7 = some (.b, slot 7) ∧ s.slotHolding .u0 8 = none :=
  ⟨alone_of rfl, rfl, by decide, by decide, by decide, rfl, rfl, rfl⟩

-- LapsedSlotIsFreed: 721 counts, and 720; a lead edge pending
theorem witness_lapsed :
    let s (n : Count) := { feed with
      cu := { count := n }, en := { slotA := some { slot 4 with takenAt := 0 } }, found := [.arrival .a] }
    (s 721).Runs ∧ (s 721).eyes.entry.pendingLead = false ∧ .arrival .a ∈ (s 721).found
      ∧ (s 721).slot .a = some { slot 4 with takenAt := 0 }
      ∧ (s 721).boot.cts.arrival < travel 0 (s 721).cu.count ∧ (s 721).slot .b = none
      ∧ travel 0 (s 720).cu.count ≤ (s 720).boot.cts.arrival
      ∧ (pended .entry .clear false 0).eyes.entry.pendingLead = true :=
  ⟨rfl, rfl, by decide, rfl, by decide, rfl, by decide, rfl⟩

-- SpanWordsFollowStallAndGo: something goes there, and nothing does
theorem witness_span : (with1 feed taken).HearsOpen (from' 33) ∧ (with1 feed taken).downPortOf 33 = some .d0
    ∧ (with1 feed taken).handing .d0 = true ∧ feed.HearsOpen (from' 33) ∧ feed.handing .d0 = false :=
  ⟨open_of rfl, by decide, by decide, open_of rfl, by decide⟩

/-- A DIVERT with a rack for branch 1. -/
def forBranch1 (r : Rec) : State :=
  let s := with1 (stationOf { prof .divert with posGate := 1000 }) r
  { s with gate := { s.gate with rackRoute := some ⟨.d1, false, false⟩ } }
-- GateMovesByItsLaw: settling; served; forbidden by a TAKEN record and by one at the gate; one count short of it
theorem witness_gate_settle :
    let s := { stationOf (prof .divert) with gate := { pos := .moving, commanded := .d1, settle := some 0 } }
    s.Runs ∧ s.gate.pos = .moving ∧ s.gate.settle = some 0 := ⟨rfl, rfl, rfl⟩
theorem witness_gate_law : (forBranch1 (rack 0)).hasRole .divert = true ∧ (forBranch1 (rack 0)).gate.pos ≠ .moving
    ∧ (forBranch1 (rack 0)).claimantRoute = some ⟨.d1, false, false⟩
    ∧ (forBranch1 (rack 0)).gate.setFor .d1 = false ∧ (forBranch1 (rack 0)).gate.setFor .d0 = true
    ∧ (∃ r ∈ (forBranch1 taken).track, r.handed = true)
    ∧ (let s (n : Count) := { forBranch1 (rack 0) with cu := { count := n } }
       (∀ r ∈ (s 799).track, r.handed = false ∧ travel r.front (s 799).cu.count < (s 799).gateOffset)
        ∧ ∃ r ∈ (s 800).track, (s 800).gateOffset ≤ travel r.front (s 800).cu.count) := by
  decide +kernel

-- RoutesResolveByAliasAndDemand: four steps to a port, a fifth, a DEMAND entry; the three choices
theorem witness_routes :
    let e : RackClass → RouteEntry := fun x => aliases.boot.prof.routes.getD x.val ⟨.port0, false⟩
    let c : Fin 6 → RackClass := fun i => Fin.ofNat 16 i.val
    let d : Fin 6 → RackClass := fun i => if i = 0 then 5 else Fin.ofNat 16 (i.val - 1)
    ((∀ i : Fin 5, i < 4 → (e (c i.castSucc)).kind = .aliasOf (c i.succ)) ∧ (e (c 4)).kind = .port1)
      ∧ ((∀ i : Fin 5, i < 4 → (e (d i.castSucc)).kind = .aliasOf (d i.succ)) ∧ (e (d 4)).kind = .aliasOf (d 5))
      ∧ (e 7).kind = .demand ∧ (e 8).kind = .port0 := by decide
theorem witness_demand :
    let s (a b : Fin 16) : State :=
      { stationOf { prof .divert with loaders0 := [7, 0, 0, 0], loaders1 := [8, 0, 0, 0] } with
        rt := { wants := [⟨7, a, 0, true⟩, ⟨8, b, 0, true⟩] } }
    ((s 0 0).demandChoice, (s 2 1).demandChoice, (s 1 2).demandChoice, (s 2 2).demandChoice)
      = (.d0, .d0, .d1, .d0) := by decide

/-- A DIVERT that keeps wants and steered lists. -/
def steering : State :=
  { stationOf { prof .divert with loaders0 := [7, 0, 0, 0], wantExpiry := 300, steerExpiry := 10,
                                  routes := List.replicate 16 ⟨.demand, false⟩ } with
    rt := { wants := [⟨7, 2, 0, true⟩], steered0 := [⟨504, 7, 0⟩, ⟨505, 7, 900⟩] } }
-- WantsAndSteeredListsAreKept: a loader and a stranger; expiries at their ticks; a RACK-IN of a steered number
theorem witness_want : steering.Hears ⟨0, 7⟩ ∧ steering.steers = true
    ∧ ((steering.loaders .d0).contains 7 || (steering.loaders .d1).contains 7) = true
    ∧ steering.Hears ⟨0, 9⟩ ∧ (steering.loaders .d0).contains 9 = false ∧ (steering.loaders .d1).contains 9 = false :=
  ⟨hears_of rfl, by decide +kernel, by decide, hears_of rfl, by decide, by decide⟩
theorem witness_want_expiry :
    let s := { steering with line := { steering.line with tick := 300 } }
    s.Runs ∧ (⟨7, 2, 0, true⟩ : HeardWant) ∈ s.rt.wants
      ∧ s.boot.prof.wantExpiry ≤ (s.line.tick - (0 : Tick32)).toNat := ⟨rfl, by decide, by decide⟩
theorem witness_steer_expiry :
    let s := { steering with line := { steering.line with tick := 1000 } }
    s.Runs ∧ s.steered .d0 = ⟨504, 7, 0⟩ :: [⟨505, 7, 900⟩]
      ∧ s.boot.prof.steerExpiry * 100 ≤ (s.line.tick - (0 : Tick32)).toNat := ⟨rfl, rfl, by decide⟩
theorem witness_rack_in : steering.Hears ⟨0, 7⟩ ∧ steering.steers = true ∧ steering.boot.station = some 22
    ∧ steering.senderBranch 7 = some .d0 ∧ (505 : RackNo) ≠ notag
    ∧ (steering.steered .d0).any (fun x => x.number == 505) = true :=
  ⟨hears_of rfl, by decide +kernel, rfl, by decide, by decide, by decide⟩
theorem witness_steered_list :
    let l : List Steered := (List.range 8).map fun i => ⟨Fin.ofNat 4096 (i + 1), 7, 0⟩
    l.length ≤ 8 ∧ (∀ y ∈ l, y.number ≠ 100) ∧ ¬ l.length < 8 := by decide

/-- A key whose run of presses, or of releases, is complete. -/
def down : KeySt := ⟨some false, true, 3⟩
def up : KeySt := ⟨some true, false, 3⟩
def keyed (b : Bay) : State := { feed with bay := b }
-- ClassKeysSelectOneClass: one key, two keys, releases
theorem witness_class_keys :
    let k (l : List Nat) : List KeySt := (List.range 16).map fun i => if l.contains i then down else {}
    let one := keyed { classKeys := k [5] }
    let two := keyed { classKeys := k [5, 6] }
    one.Runs ∧ one.boot.mode = .active ∧ (one.classKey 5).pressDue = true
      ∧ (∀ m, m ≠ (5 : RackClass) → (one.classKey m).pressDue = false)
      ∧ (two.classKey 5).pressDue = true ∧ (two.classKey 6).pressDue = true :=
  ⟨rfl, rfl, by decide, by decide, by decide, by decide⟩
theorem witness_key_release :
    let s := keyed { classKeys := List.replicate 16 up, sendKey := up, emptyKey := up }
    s.Runs ∧ (s.classKey 15).releaseDue = true ∧ s.bay.sendKey.releaseDue = true ∧ s.bay.emptyKey.releaseDue = true :=
  ⟨rfl, by decide, by decide, by decide⟩

/-- A bay with a rack standing at it. -/
def bayed (r : Role) (cls : RackClass) (b : Bay) : State :=
  { with1 (stationOf (prof r)) { rack 0 with state := .atBay, cls := cls } with bay := b }
-- SendAndEmptyKeysSetTheClass: a class, UNKNOWN, EMPTY, none selected, no rack; UNLOAD and LOAD
theorem witness_send : ∀ c ∈ [some 5, some classUnknown, some classEmpty, none],
    let s := bayed .load classUnknown { selected := c, sendKey := down }
    s.Runs ∧ s.boot.mode = .active ∧ s.bay.sendKey.pressDue = true ∧ s.bay.emptyKey.pressDue = false
      ∧ s.atBayRec.isSome = true ∧ s.bay.selected = c ∧ (keyed { sendKey := down }).atBayRec = none := by
  intro c _; exact ⟨rfl, rfl, by decide +revert, by decide +revert, rfl, rfl, rfl⟩
theorem witness_empty : ∀ r ∈ [Role.unload, .load], ∀ c ∈ [classUnknown, (5 : RackClass)],
    let s := bayed r c { emptyKey := down }
    s.Runs ∧ s.boot.mode = .active ∧ s.bay.emptyKey.pressDue = true ∧ s.bay.sendKey.pressDue = false
      ∧ s.atBayRec = some { rack 0 with state := .atBay, cls := c } := by
  intro r _ c _; exact ⟨rfl, rfl, by cases r <;> decide +revert, by cases r <;> decide +revert, rfl⟩

-- TimersRestartAndLampsToggle
theorem witness_timers :
    let s := { feed with
      bay := { wantTimer := some 0, lamp := ⟨.flash, true, some 0⟩ }
      att := { lamp := ⟨.flash, true, some 0⟩ }
      line := { statusTimer := some 0 } }
    s.Runs ∧ s.bay.wantTimer = some 0 ∧ s.line.statusTimer = some 0 ∧ s.bay.lamp.left = some 0
      ∧ s.att.lamp.left = some 0 := ⟨rfl, rfl, rfl, rfl, rfl⟩

/-- Idle HOLD, in a phase; with the neighbour of U0 connected or not. -/
def idling (st : Station) (i : Idle) : State := { stationOf { prof .feed with u0 := st } with idle := i }
-- DozeExchangeParksTheBelt
theorem witness_park :
    let s (n : Station) := idling n { phase := .timing, park := some 0 }
    (s 11).Runs ∧ (s 11).idle.phase = .timing ∧ (s 11).idle.park = some 0 ∧ (s 11).connectedUp ≠ []
      ∧ (s 11).canQueue = true ∧ (s 11).line.queue.length + 2 ≤ 16 ∧ (s 0).connectedUp = []
      ∧ (s 0).eyeChanged = false :=
  ⟨rfl, rfl, rfl, by decide, by decide, by decide, by decide, by decide⟩
theorem witness_doze_ask :
    let p := { prof .feed with dozeReach := 500 }
    let s (r : Rec) (c : Count) := { with1 (stationOf p) r with cu := { count := c } }
    (s (rack 0) 559).HearsOpen (from' 33) ∧ (s (rack 0) 559).downPortOf 33 = some .d0
      ∧ (s (rack 0) 559).travelOf (rack 0) + (s (rack 0) 559).boot.cts.doze < (s (rack 0) 559).boot.cts.exit
      ∧ (s (rack 0) 560).boot.cts.exit ≤ (s (rack 0) 560).travelOf (rack 0) + (s (rack 0) 560).boot.cts.doze
      ∧ (taken.handed = true ∧ taken.exitPort = some .d0)
      ∧ (feedIn .scanning).HearsOpen (from' 33) ∧ feed.HearsOpen (from' 44) ∧ feed.downPortOf 44 = none :=
  ⟨open_of rfl, by decide, by decide, by decide, by decide, open_of rfl, open_of rfl, by decide⟩
theorem witness_doze_reply :
    let s := idling 11 { phase := .asking, reply := some 0 }
    let m := { stationOf (prof .merge) with idle := { phase := .asking, reply := some 5 } }
    s.HearsOpen (from' 11) ∧ s.upPortOf 11 = some .u0 ∧ s.idle.phase = .asking ∧ s.idle.reply = some 0
      ∧ (∀ q ∈ s.connectedUp, q ≠ .u0 → s.replyMark q = .allow) ∧ s.eyeChanged = false
      ∧ (∃ q ∈ m.connectedUp, q ≠ .u0 ∧ m.replyMark q ≠ .allow) :=
  ⟨open_of rfl, by decide, rfl, rfl, by decide, by decide, by decide⟩

/-- PARK, the poll timer at its end, with EXIT's pin low or high, at a level. -/
def parked (high : Bool) (n : Fin 4) : State :=
  let s := level (idling 11 { phase := .parked, poll := some 0 }) n
  { s with dr := { s.dr with belt := .park }, eyes := { s.eyes with exit := { s.eyes.exit with raw := high } } }
-- PollWakesTheBelt: no eye changed; one changed at level 2 and at level 3
theorem witness_poll : (parked false 0).Runs ∧ (parked false 0).idle.phase = .parked
    ∧ (parked false 0).idle.poll = some 0
    ∧ (∀ e, (parked false 0).fitted e = true →
        ((parked false 0).chan e).raw = EyeState.isBlocked ((parked false 0).chan e).st)
    ∧ ((parked true 3).fitted .exit = true
        ∧ ((parked true 3).chan .exit).raw ≠ EyeState.isBlocked ((parked true 3).chan .exit).st)
    ∧ (parked true 2).att.level ≠ 3 ∧ (parked true 3).att.level = 3 :=
  ⟨rfl, rfl, rfl, by intro e; cases e <;> decide, by decide, by decide, rfl⟩

-- EveryHeardFrameRefreshes, StatusAndSilenceOfNeighbours
theorem witness_heard : Frame.ofInstr (.stall (from' 33)) = some ⟨from' 33, .stall⟩ ∧ feed.Hears (from' 33)
    ∧ feed.neigh .d0 = some ⟨33, 0, true, none, none⟩ ∧ feed.neigh .u0 = some ⟨11, 0, true, none, none⟩
    ∧ feed.Runs ∧ ¬feed.Hears (from' 22) :=
  ⟨rfl, hears_of rfl, rfl, rfl, rfl, by rintro ⟨-, -, ⟨n, h, -, g⟩, -⟩; exact g (Option.some.inj h)⟩
theorem witness_frame_for_other : feed.Hears ⟨40, 33⟩ ∧ (40 : Station) ≠ 0 ∧ feed.boot.station ≠ some 40 :=
  ⟨hears_of rfl, by decide, by decide⟩
theorem witness_silent :
    let s := { feed with line := { feed.line with tick := 200 } }
    s.Runs ∧ s.boot.mode ≠ .loading ∧ s.neigh .u0 = some ⟨11, 0, true, none, none⟩
      ∧ 200 ≤ (s.line.tick - (0 : Tick32)).toNat := ⟨rfl, nofun, rfl, by decide⟩

/-- The register with a frame in it. -/
def sendingReg (on : Bool) (a : Nat) (q : List Frame) : State :=
  { feed with line := { feed.line with reg := some ⟨⟨33, .take 3⟩, a, 2, on⟩, queue := q } }
-- SendingAndBrokenRuns: a run that starts with another byte, one cut short, one with a low stop bit, a frame
theorem witness_runs :
    (∀ c cs, [(⟨0x00, true⟩ : RxChar)] = c :: cs → c.byte ≠ 0xA5)
      ∧ (∃ c ∈ [(⟨0xA5, false⟩ : RxChar)].take 7, c.stopOk = false) ∧ ([] : List RxChar).length < 7
      ∧ parseRun ((frameBytes 22 33 (.take 3)).map fun b => ⟨BitVec.ofNat 8 b, true⟩) = some ⟨⟨22, 33⟩, .take 3⟩ :=
  ⟨by intro c cs h; cases h; decide, by decide, by decide, by decide +kernel⟩
theorem witness_register : ∀ a ∈ [0, 14, 15], ∀ q ∈ [[], [(⟨0, .stall⟩ : Frame)]],
    (sendingReg true a q).Runs ∧ (sendingReg true a q).line.reg = some ⟨⟨33, .take 3⟩, a, 2, true⟩
      ∧ (sendingReg true a q).line.queue = q ∧ (sendingReg true a q).boot.station = some 22
      ∧ (sendingReg false a q).line.reg = some ⟨⟨33, .take 3⟩, a, 2, false⟩ := by
  intro a _ q _; exact ⟨rfl, rfl, rfl, rfl, rfl⟩

/-- A queue of so many frames behind a frame in the register. -/
def queued (n : Nat) : State :=
  sendingReg false 0 (List.replicate n ⟨33, .stall⟩)
-- QueueAdmitsByClass: 15 and 16 frames; 12 and 13; a STATUS and a WANT that wait
theorem witness_queue : (queued 15).canQueue = true ∧ (queued 15).line.reg ≠ none ∧ (queued 15).line.queue.length < 16
    ∧ 16 ≤ (queued 16).line.queue.length ∧ (queued 12).line.queue.length ≤ 12 ∧ 12 < (queued 13).line.queue.length
    ∧ ((sendingReg false 0 [⟨0, .status feed.statusInfo⟩]).line.queue.any fun g => Payload.isStatus g.payload) = true
    ∧ ((sendingReg false 0 [⟨0, .want 2⟩]).line.queue.any fun g => Payload.isWant g.payload) = true := by
  decide +kernel

/-- An empty register before so many frames that wait. -/
def unsent (q : List Frame) : State := { feed with line := { feed.line with queue := q } }
theorem witness_queue_register : (unsent []).canQueue = true ∧ (unsent []).line.reg = none ∧ (unsent []).line.queue = []
    ∧ (unsent (List.replicate 16 ⟨33, .stall⟩)).line.reg = none
    ∧ 16 ≤ (unsent (List.replicate 16 ⟨33, .stall⟩)).line.queue.length
    ∧ 12 < (unsent (List.replicate 13 ⟨33, .stall⟩)).line.queue.length
    ∧ ((unsent [⟨0, .status feed.statusInfo⟩]).line.queue.any fun g => Payload.isStatus g.payload) = true
    ∧ ((unsent [⟨0, .want 2⟩]).line.queue.any fun g => Payload.isWant g.payload) = true := by
  decide +kernel

-- FrameBytesParseBack
theorem witness_frame : (⟨22, 63⟩ : Hdr).src ≠ 0 ∧ ∀ i, Payload.take 3 = .status i → i.mode ≠ .loading :=
  ⟨by decide, by intro i h; cases h⟩

-- RaiseMakesTheCausePending: a cause ABSENT and one PENDING
theorem witness_raise : (feed.cause .lostRack).st = .absent ∧ ((feed.raise .lostRack 7).cause .lostRack).st ≠ .absent := by
  decide +kernel

/-- LOST-RACK and EXIT-JAM pending, the jam still present (worked sequence, 11). -/
def troubled : State :=
  { feed with att := { feed.att with level := 3, causes := { feed.att.causes with
      lostRack := { st := .pending, detail := 733 }, exitJam := { st := .pending, detail := 1, present := true } } } }
-- AskNamesTheTopCause, AckActsOnTheTopPendingCause, ClearAndTheAckKey, FlushEmptiesAndRescans
theorem witness_ask : feed.HearsAlone (from' 2) ∧ (∀ c, ((feed.refresh 2).cause c).st = .absent)
    ∧ ((troubled.refresh 2).cause .exitJam).st ≠ .absent ∧ feed.Hears ⟨0, 2⟩ :=
  ⟨alone_of rfl, by intro c; cases c <;> decide +kernel, by decide +kernel, hears_of rfl⟩
theorem witness_ack : (troubled.cause .exitJam).st = .pending
    ∧ (∀ c, (troubled.cause c).st = .pending → troubled.severity c < troubled.severity .exitJam
        ∨ troubled.severity c = troubled.severity .exitJam ∧ Cause.code .exitJam ≤ Cause.code c)
    ∧ (∀ c, (feed.cause c).st ≠ .pending) ∧ troubled.obeys 2 = true ∧ troubled.obeys 33 = false :=
  ⟨rfl, by intro c; cases c <;> decide, by intro c; cases c <;> decide, by decide, by decide⟩
/-- The ACK key, held or let go. -/
def acking (k : KeySt) (h : Option AckHold) : State := { troubled with bay := { ackKey := k, ackHold := h } }
theorem witness_ack_key : (acking up (some ⟨299, false, false⟩)).Runs
    ∧ (acking up (some ⟨299, false, false⟩)).bay.ackKey.releaseDue = true
    ∧ (acking up (some ⟨299, false, false⟩)).bay.ackHold = some ⟨299, false, false⟩
    ∧ (acking down none).bay.ackKey.pressDue = true ∧ (acking down none).boot.mode = .active
    ∧ (acking up (some ⟨300, true, false⟩)).bay.ackHold = some ⟨300, true, false⟩
    ∧ (acking {} (some ⟨300, false, false⟩)).bay.ackHold = some ⟨300, false, false⟩
    ∧ (acking {} (some ⟨800, true, false⟩)).bay.ackHold = some ⟨800, true, false⟩
    ∧ (acking {} (some ⟨800, true, false⟩)).att.level = 3 :=
  ⟨rfl, by decide, rfl, by decide, rfl, rfl, rfl, rfl, rfl⟩

-- StopChainOpensAndCloses
theorem witness_estop :
    let s (hi : Bool) (run : Nat) (p : Bool) : State :=
      { feed with att := {
          feed.att with
          estopHigh := hi, estopRun := run
          causes := { feed.att.causes with estop := { st := if p then .pendingAck else .absent, present := p } } } }
    (s false 0 false).Runs ∧ (s false 0 false).att.estopHigh = false ∧ ((s false 0 false).cause .estop).present = false
      ∧ (s true 3 true).att.estopRun = 3 ∧ ((s true 3 true).cause .estop).present = true := ⟨rfl, rfl, rfl, rfl, rfl⟩

-- DerivedActionsLoseNothing
theorem witness_sends : (queued 3).Sends ⟨33, .take 3⟩ ∧ (troubled.cause .lostRack).st = .pending
    ∧ (with1 feed taken).NamesSound ∧ taken ∈ (with1 feed taken).track ∧ taken.handed = true :=
  ⟨.inr ⟨_, rfl, rfl⟩, rfl, by unfold State.NamesSound; decide, by decide, rfl⟩

-- DerivedActionsBringTheBlocksTogether: a level of 3 with an offer outstanding; nothing going to D0
theorem witness_together :
    let s := { troubled with track := [offered], nextId := 1, marks := { owner := some 0 } }
    s.settle.att.level = 3 ∧ s.settle.head.isSome = true ∧ s.settle.handing .d0 = false ∧ s.handing .d0 = false := by
  decide +kernel

/-! ### Witnesses: edges, scan, landings, and what else the statements of several clauses ask for -/

-- BeltEdgesCountAndFireMarks, the tests of an edge: CHECK-A is late at count 513, not at 512
theorem witness_tests :
    let s (n : Count) : State := { with1 checkFeed (rack 0) with cu := { count := n } }
    let s (n : Count) := (s n).updChan .checkA fun c => { c with awaited := [0] }
    (s 511).found = [] ∧ ((s 511).chan .checkA).awaited = 0 :: [] ∧ (s 511).recOf 0 = some (rack 0)
      ∧ (after .forwardEdge (s 511)).found = [] ∧ (after .forwardEdge (s 512)).found = [.missed .checkA 0] := by
  decide +kernel
theorem witness_tests_due :
    let s : State := { with1 checkFeed (rack 0) with cu := { count := 512 } }
    (s.updChan .checkA fun c => { c with awaited := [0] }).NothingDue := by
  intro s; unfold State.NothingDue; decide +kernel

/-- The head at the count before its stop mark, at a role of the bay. -/
def atBayStop (p : Profile) (cls : RackClass) (released : Bool) : State :=
  let s := with1 (stationOf p) { rack 0 with cls := cls }
  { s with
    dr := { s.dr with belt := .creep, level := 200, t16 := 48 }
    cu := { count := 943 }
    bay := { released := released }
    marks := { s.marks with offer := ⟨840, .fired⟩, approach := ⟨880, .fired⟩, stop := ⟨944, .armed⟩ } }
-- MarksFireOntoTheirCount, the stop mark: EMPTY at a LOAD; at an UNLOAD a class in and out of the accept set; released
theorem witness_stop_bay :
    ∀ x ∈ [(Role.load, classEmpty, false), (.load, 5, false), (.unload, 5, false), (.unload, 0, false), (.unload, 5, true)],
    let s := atBayStop { prof x.1 with accept := 1 } x.2.1 x.2.2
    s.Runs ∧ s.bayRole = true ∧ s.head = some { rack 0 with cls := x.2.1 } ∧ s.marks.stop.st = .armed
      ∧ s.marks.stop.pos = s.cu.count + 1 ∧ s.bay.released = x.2.2
      ∧ s.boot.prof.accept.getLsbD 5 = false ∧ s.boot.prof.accept.getLsbD 0 = true := by unfold State.Runs; decide +kernel
theorem witness_stop_bay_due : ∀ r ∈ [Role.load, .unload],
    let s := atBayStop { prof r with accept := 1 } 5 false
    s.NothingDue ∧ s.NamesSound := by
  intro r h s; unfold State.NothingDue State.NamesSound; revert r; decide +kernel
/-- The worked rule of the accept set (R125): a class outside it stops at the bay MISROUTED. -/
theorem test_misrouted :
    let t := after .forwardEdge (atBayStop { prof .unload with accept := 1 } 5 false)
    (t.track.map fun r => (r.state, r.flags.misrouted), (t.cause .misroute).st, (t.cause .misroute).detail)
      = ([(.atBay, true)], .pending, 100) := by decide +kernel

/-- An edge captured at BAY at a count, in a state, with records on the track. -/
def bayEdge (st : EyeState) (x : Count) (rs : List Rec) : State :=
  let s := stationOf { prof .load with posBay := 900, trackLimit := 1 }
  let s := { s with
    track := rs, nextId := 9, cu := { count := x }, dr := { s.dr with belt := .run, level := 300 }
    marks := { owner := some 0, stop := ⟨944, .fired⟩ } }
  s.updChan .bay fun c => { c with raw := !(EyeState.isBlocked st), st := st, pend := some ⟨x, false, 2⟩ }
-- EyeEdgesArePendedAndConfirmed, BAY: lifted, no bay record; over at travel 688, not at 687 and full, room
theorem witness_bay_edge :
    (∀ x ∈ [(EyeState.blocked, (950 : Count), [{ rack 0 with state := .atBay }]), (.blocked, 950, [rack 0]),
        (.clear, 688, [rack 0]), (.clear, 687, [rack 0]), (.clear, 687, [])],
      let s := bayEdge x.1 x.2.1 x.2.2
      s.Runs ∧ s.boot.mode = .active ∧ s.bayRole = true ∧ s.fitted .bay = true ∧ s.dr.belt ≠ .park
        ∧ s.eyes.bay.pend = some ⟨x.2.1, false, 2⟩ ∧ s.boot.prof.eyeFilter ≤ 2 ∧ s.eyes.bay.st = x.1
        ∧ (s.track.map (·.id)).Nodup ∧ (∀ r ∈ s.track, r.id < s.nextId) ∧ s.head = x.2.2.head?
        ∧ s.marks.owner = some 0 ∧ s.marks.stop.st = .fired)
    ∧ (bayEdge .clear 688 [rack 0]).over .bay (rack 0) = true
    ∧ (bayEdge .clear 687 [rack 0]).over .bay (rack 0) = false
    ∧ (bayEdge .clear 687 [rack 0]).boot.prof.trackLimit ≤ (bayEdge .clear 687 [rack 0]).track.length
    ∧ (bayEdge .clear 687 []).track.length < (bayEdge .clear 687 []).boot.prof.trackLimit := by unfold State.Runs; decide +kernel

-- EntryLeadCreatesARecord: CIRCLING at a hop count of 49, not at 48, with the edge that makes the record
theorem witness_circling : ∀ x ∈ [(47 : Fin 256), 48],
    let s := { pended .entry .clear false 65200 with
      en := { slotB := some { slot 4 with image := { (slot 4).image with hop := x } }, newest := .b } }
    s.Runs ∧ s.boot.mode = .active ∧ s.boot.loaded = true ∧ s.dr.belt ≠ .park
      ∧ s.eyes.entry.pend = some ⟨65200, false, 2⟩ ∧ s.boot.prof.eyeFilter ≤ 2 ∧ s.eyes.entry.st = .clear
      ∧ s.trackFull = false ∧ (s.oldestReserved.map (·.1)) = some .b ∧ (∀ r ∈ s.track, r.id < s.nextId)
      ∧ (s.boot.prof.hopLimit < (satSucc x).val ↔ x = 48) := by unfold State.Runs; decide +kernel

/-- SCANNING at a station with a CHECK-A 480 counts on and EXIT 160 before the end of a rack; every channel has its
first state but EXIT, or but CHECK-A. -/
def scanned (limit : Nat) (blocked : List Eye) (waits : Eye) : State :=
  let s := stationOf { prof .feed with posCheckA := 1000, trackLimit := limit }
  let s := { s with boot := { s.boot with mode := .scanning } }
  Eye.all.foldl (fun t e => t.updChan e fun _ =>
    if e = waits then { firstLevel := blocked.contains e, firstRun := 2 }
    else { settled := true, st := if blocked.contains e then .blocked else .clear }) s
-- FirstStatesEndTheScan: a watched eye blocked before the scan; the scan with ENTRY and EXIT blocked
theorem witness_unaccounted :
    let s := (scanned 6 [.checkA] .checkA).updChan .exit fun c => { c with settled := false }
    s.Runs ∧ s.boot.mode = .scanning ∧ s.fitted .checkA = true ∧ (s.chan .checkA).settled = false
      ∧ s.boot.prof.eyeFilter ≤ (s.chan .checkA).firstRun ∧ s.fitted .exit = true ∧ (s.chan .exit).settled = false
      ∧ s.watches .checkA = true ∧ (s.chan .checkA).firstLevel = true ∧ s.anyOver .checkA = false
      ∧ (s.chan .checkA).unaccounted = none := by unfold State.Runs; decide +kernel
theorem witness_scan : ∀ l ∈ [1, 6],
    let s := scanned l [.entry, .checkA, .exit] .exit
    s.Runs ∧ s.boot.mode = .scanning ∧ s.boot.loaded = true ∧ s.fitted .exit = true
      ∧ (s.chan .exit).settled = false ∧ s.boot.prof.eyeFilter ≤ (s.chan .exit).firstRun
      ∧ (∀ f ∈ Eye.all, f ≠ .exit → s.fitted f = true → (s.chan f).settled = true) ∧ s.track = []
      ∧ (∀ f ∈ Eye.all, (s.chan f).awaited = [] ∧ s.offset f ≤ s.boot.cts.exit) ∧ s.boot.cts.exit < 32768
      ∧ 0 < s.boot.cts.rackMax ∧ s.boot.prof.reader = true ∧ s.tag.st = .idle := by unfold State.Runs; decide +kernel
/-- CHECK-A 160 counts short of EXIT is covered by EXIT's record; at a limit of 1 ENTRY's rack is a STRAY-RACK (R58,
R59): the fronts, and which stand in an eye. -/
theorem test_scan :
    let t (l : Nat) := after (.eyeFirstState .exit) (scanned l [.entry, .checkA, .exit] .exit)
    ((t 6).track.map fun r => (r.front, r.entryOpen, r.exitPass), ((t 6).cause .strayRack).st,
      (t 1).track.map (·.front), ((t 1).cause .strayRack).st)
      = ([(64576, false, .spanning), (0, true, .none)], .absent, [64576], .pending) := by decide +kernel

/-- A STRAY-RACK of the scan that changes the level, its report mask off: the STATUS of the level goes out with the mode
SCANNING, the STATUS of the entry to ACTIVE waits behind it (R189). -/
theorem test_scan_mode :
    let s := scanned 1 [.entry, .exit] .exit
    let p := { s.boot.prof with severities := List.replicate 18 1, masks := List.replicate 18 false }
    let t := after (.eyeFirstState .exit) { s with boot := { s.boot with prof := p } }
    let modeOf : Payload → Option (Mode × Nat) := fun
      | .status i => some (i.mode, i.level.val)
      | _ => none
    (t.line.reg.bind fun r => modeOf r.frame.payload, t.line.queue.filterMap fun f => modeOf f.payload)
      = (some (.scanning, 1), [(.active, 1)]) := by decide +kernel

/-- A lead edge captured at CHECK-A (480 counts) at a count, with the racks it awaits and has missed. -/
def checkEdge (aw mi : List Nat) (x : Count) : State :=
  let s := { checkFeed with
    track := [rack 0, { rack 65436 with id := 1 }], nextId := 9, marks := { owner := some 0 }
    cu := { count := x }, dr := { checkFeed.dr with belt := .run, level := 300 } }
  s.updChan .checkA fun c => { c with raw := true, pend := some ⟨x, false, 2⟩, awaited := aw, missed := mi }
/-- The size of a record's slip at CHECK-A. -/
def slipSize (s : State) (x : Count) (r : Rec) : Nat := (slip (r.front + BitVec.ofNat 16 (s.offset .checkA)) x).natAbs
-- MissedJammedAndStuckAreReported, check edges: the second of two awaited at slip 32, the first too far; a missed one
-- at 128 with none awaited; one count more
theorem witness_check_edge :
    (∀ x ∈ [([0, 1], [], (412 : Count)), ([1], [0], 608), ([1], [0], 609)],
      let s := checkEdge x.1 x.2.1 x.2.2
      s.Runs ∧ s.boot.mode = .active ∧ s.isCheck .checkA = true ∧ s.dr.belt ≠ .park
        ∧ (s.chan .checkA).pend = some ⟨x.2.2, false, 2⟩ ∧ s.boot.prof.eyeFilter ≤ 2 ∧ (s.chan .checkA).st = .clear
        ∧ (s.track.map (·.id)).Nodup ∧ (∀ r ∈ s.track, r.id < s.nextId) ∧ (s.chan .checkA).awaited.Nodup)
    ∧ (let s := checkEdge [0, 1] [] 412
       s.track.map (slipSize s 412) = [68, 32] ∧ s.boot.cts.tol = 32)
    ∧ (let s := checkEdge [1] [0] 608
       s.track.map (slipSize s 608) = [128, 228] ∧ s.track.map (slipSize s 609) = [129, 229]) := by unfold State.Runs; decide +kernel
/-- The same three edges: the awaited and missed lists and STRAY-RACK (R26, R28). -/
theorem test_check_edges :
    [([0, 1], [], (412 : Count)), ([1], [0], 608), ([1], [0], 609)].map (fun x =>
      let t := after (.eyeEdgeConfirm .checkA) (checkEdge x.1 x.2.1 x.2.2)
      ((t.chan .checkA).awaited, (t.chan .checkA).missed, t.track.map (·.front), (t.cause .strayRack).st))
      = [([], [0], [0, 65468], .absent), ([1], [], [128, 65436], .absent), ([1], [0], [0, 65436], .pending)] := by
  decide +kernel

/-- A read for a record whose number may differ from its slot's, with a newer slot or none. -/
def landing (k : RackNo) (b : Option Slot) : State :=
  let s := with1 feed { rack 5210 with number := k, entry := some ⟨.u0, 7⟩ }
  { s with
    tag := { st := .reading, owner := some 0, timeout := some 5 }
    en := { slotA := some ⟨some 0, .u0, 7, ⟨1300, 1, 9, 0, 2, {}⟩, 0, none⟩, slotB := b, newest := .b } }
-- TagPortEndsItsReads, a LANDING slot: no read, the own number, no number before, a newer slot's, another
theorem witness_landing :
    (∀ x ∈ [((1300 : RackNo), none), (0, none), (1300, some { slot 8 with image := ⟨1301, 2, 9, 0, 5, {}⟩ })],
      let s := landing x.1 x.2
      s.Runs ∧ s.boot.loaded = true ∧ s.boot.prof.reader = true ∧ s.tag.st = .reading ∧ s.tag.owner = some 0
        ∧ (s.recOf 0).map (·.number) = some x.1 ∧ (s.slotOf 0).map (·.1) = some .a ∧ s.canQueue = true
        ∧ s.line.queue.length ≤ 8)
    ∧ (landing 1300 (some { slot 8 with image := ⟨1301, 2, 9, 0, 5, {}⟩ })).newerSlot 0 1301
        = some (.b, { slot 8 with image := ⟨1301, 2, 9, 0, 5, {}⟩ })
    ∧ (landing 1300 none).newerSlot 0 1301 = none := by unfold State.Runs; decide +kernel

-- RemovalLeavesNoTrace, EXIT: a lead edge 128 short, 480 past, and one past that; a record ahead; a trail edge
theorem witness_exit_edge :
    (∀ x ∈ [(EyeState.clear, (832 : Count)), (.clear, 1440), (.clear, 1441), (.blocked, 1440)],
      let s := { pended .exit x.1 false x.2 with track := [rack 0], nextId := 1, marks := { owner := some 0 } }
      s.Runs ∧ s.boot.mode = .active ∧ s.boot.loaded = true ∧ s.dr.belt ≠ .park
        ∧ s.eyes.exit.pend = some ⟨x.2, false, 2⟩ ∧ s.boot.prof.eyeFilter ≤ 2
        ∧ (s.track.map (·.id)).Nodup ∧ (∀ r ∈ s.track, r.id < s.nextId) ∧ s.eyes.exit.st = x.1
        ∧ (∀ r ∈ s.track, r.exitPass = .none))
    ∧ [832, 831, 1440, 1441].map (fun x : Count =>
        let v := slip ((rack 0).front + BitVec.ofNat 16 feed.boot.cts.exit) x
        decide (-(4 * (feed.boot.cts.tol : Int)) ≤ v ∧ v ≤ (feed.boot.cts.jam : Int)))
      = [true, false, true, false] := by unfold State.Runs; decide +kernel
/-- The racks at EXIT: the front-most of two that were never seen there. -/
def exitEdge (st : EyeState) (rs : List Rec) : State :=
  { pended .exit st false 1000 with track := rs, nextId := 9, marks := { owner := some 0 } }
-- A TAKEN rack at 40 past takes the edge from one at 60 past and ahead; LEAVING, without and with its answer; untaken
theorem witness_exit_taker :
    let ahead := { rack 65516 with id := 1 }
    let s := exitEdge .clear [ahead, taken]
    s.track = [ahead] ++ taken :: [] ∧ (∃ q ∈ [ahead], q.exitPass = .none)
      ∧ s.track.map (fun r => slip (r.front + BitVec.ofNat 16 s.boot.cts.exit) 1000) = [60, 40]
      ∧ (∀ l ∈ [none, some LandAnswer.ok],
          let r := { taken with state := .leaving, exitPass := .spanning, landing := l }
          (exitEdge .blocked [r]).track = [] ++ r :: [] ∧ r.exitPass = .spanning ∧ r.state = .leaving)
      ∧ (∀ r ∈ (exitEdge .blocked [{ rack 0 with exitPass := .passed }]).track, r.exitPass ≠ .spanning) := by
  decide +kernel
/-- Those edges, by the rules R49 to R54: passages and states after them, and LOST-RACK. -/
theorem test_exit_edges :
    let go (s : State) :=
      let t := after (.eyeEdgeConfirm .exit) s
      (t.track.map fun r => (r.exitPass, r.state), (t.cause .lostRack).st, t.ex.plainLoss)
    let out (l : Option LandAnswer) := { taken with state := .leaving, exitPass := .spanning, landing := l }
    [go (exitEdge .clear [{ rack 65516 with id := 1 }, taken]), go (exitEdge .blocked [out none]),
     go (exitEdge .blocked [out (some .ok)]), go (exitEdge .blocked [{ rack 0 with exitPass := .spanning }])]
      = [([(.spanning, .leaving)], .pending, true), ([(.passed, .leaving)], .absent, false), ([], .absent, false),
         ([], .pending, true)] := by decide +kernel

-- ExposureMetOffersTheHead: no cause stands and LINE-OVERRUN is no stop
theorem witness_exposure_calm : tunnel.severity .lineOverrun ≠ 3
    ∧ ∀ c, (tunnel.cause c).st ≠ .absent → tunnel.severity c ≠ 3 := by
  refine ⟨by decide, ?_⟩; intro c; cases c <;> decide

/-- The TUNNEL at the end of the line: its port has no neighbour. -/
def lineEnd : State := { tunnel with boot := { tunnel.boot with prof := { tunnel.boot.prof with d0 := 0 } } }
-- ExposureMetOffersTheHead, an unconnected port: the head may go, and no other rack is there
theorem witness_unconnected : lineEnd.offerable = some { rack 0 with residence := 2000 }
    ∧ lineEnd.downStation lineEnd.exitPortOf = 0 ∧ lineEnd.bayRole = false ∧ lineEnd.severity .lineOverrun ≠ 3
    ∧ lineEnd.hasRole .tunnel = true ∧ 0 < lineEnd.boot.prof.minExposure := by decide +kernel
theorem witness_unconnected_calm : lineEnd.Runs ∧ ∀ c, (lineEnd.cause c).st ≠ .absent → lineEnd.severity c ≠ 3 := by
  refine ⟨rfl, ?_⟩; intro c; cases c <;> decide
/-- Released without an exchange (R85): TAKEN, answered OK, no serial, no OFFER in the register. -/
theorem test_unconnected :
    let t := after .residenceExposureMet lineEnd
    (t.track.map (·.state) = [.taken] ∧ t.track.map (·.landing) = [some .ok] ∧ t.track.map (·.exitSerial) = [none])
      ∧ t.ex.serial0 = 0
      ∧ (t.line.reg.toList.map (·.frame) ++ t.line.queue).map (fun f => Payload.kind f.payload) = [0x50] := by
  decide +kernel
-- GivenUpRecordsAreLost: a TAKEN record that was released without an exchange
theorem witness_vanish_free :
    let r := { taken with exitSerial := none, landing := some .ok }
    let s := { with1 feed r with cu := { count := 1441 }, found := [.vanish 0] }
    s.Runs ∧ s.eyes.exit.pendingLead = false ∧ s.vanishDue = some r ∧ r.state = .taken ∧ r.exitSerial = none := by
  unfold State.Runs; decide +kernel

/-- A window in the band, the fourth in succession; the error of each is 0. -/
def banded (n : Nat) : State :=
  { with1 feed (rack 0) with
    dr := { belt := .run, winLeft := some 0, winEdges := 12, level := 500, t16 := 192,
            inBand := n, unsteady := 7, history := [12, 12, 12] } }
-- LockAndUnsteadyFollowTheError, at the window: it locks, and it does not
theorem witness_window_lock : ∀ n ∈ [2, 3],
    (banded n).Runs ∧ (banded n).dr.winLeft = some 0 ∧ (banded n).dr.belt = .run
      ∧ (let t := after .windowEnd (banded n)
         t.dr.satHigh ≠ 8 ∧ t.dr.satLow ≠ 8 ∧ t.dr.lock = (if n = 3 then .locked else .unlocked)
          ∧ t.dr.unsteady = (if n = 3 then 0 else 7)) := by unfold State.Runs; decide +kernel

-- LandedReportsAreAccounted: a first answer at a DIVERT by DEMAND, one already there, a route without the mark
theorem witness_landed_steered :
    let s (m : Bool) (l : Option LandAnswer) :=
      { with1 steering { taken with landing := l } with gate := { rackRoute := some ⟨.d0, false, m⟩ } }
    (s true none).hasRole .divert = true ∧ (s true none).handedAs .d0 3 = some taken
      ∧ (s true none).downPortOf 33 = some .d0 ∧ (s true none).gate.rackRoute = some ⟨.d0, false, true⟩
      ∧ (s true (some .ok)).handedAs .d0 3 = some { taken with landing := some .ok }
      ∧ (s false none).gate.rackRoute = some ⟨.d0, false, false⟩ := by decide +kernel
theorem witness_landed_heard (l : Option LandAnswer) : (with1 steering { taken with landing := l }).HearsAlone (from' 33) :=
  alone_of rfl

/-- A LOAD whose want may be out of date, in a mode. -/
def wanting (m : Mode) (n : Nat) : State :=
  let s := stationOf (prof .load)
  { s with boot := { s.boot with mode := m }, bay := { want := n } }
-- WantsAndSteeredListsAreKept, the want: a change in ACTIVE and in SCANNING, and none
theorem witness_want_change : (wanting .active 0).hasRole .load = true ∧ (wanting .active 0).wantNow = 3
    ∧ (wanting .active 0).wantNow ≠ (wanting .active 0).bay.want ∧ (wanting .active 0).canQueue = true
    ∧ (wanting .active 0).line.queue.length ≤ 12 ∧ (wanting .scanning 0).boot.mode ≠ .active
    ∧ (wanting .scanning 0).wantNow ≠ (wanting .scanning 0).bay.want
    ∧ (wanting .active 3).wantNow = (wanting .active 3).bay.want := by decide +kernel

/-- Idle HOLD with an eye that differs from its state, in a phase, at a level. -/
def changed (n : Station) (i : Idle) (l : Fin 4) : State :=
  (level (idling n i) l).updChan .exit fun c => { c with raw := true }
-- DozeExchangeParksTheBelt: PARK entered with an eye changed, at level 2 and at level 3
theorem witness_park_changed : ∀ l ∈ [(2 : Fin 4), 3],
    (changed 0 { phase := .timing, park := some 0 } l).Runs
      ∧ (changed 0 { phase := .timing, park := some 0 } l).connectedUp = []
      ∧ (changed 0 { phase := .timing, park := some 0 } l).eyeChanged = true
      ∧ (changed 0 { phase := .timing, park := some 0 } l).att.level = l
      ∧ (changed 11 { phase := .asking, reply := some 5 } l).eyeChanged = true
      ∧ (changed 11 { phase := .asking, reply := some 5 } l).upPortOf 11 = some .u0
      ∧ ((changed 11 { phase := .asking, reply := some 5 } l).refresh 11).att.level = l
      ∧ (∀ q ∈ (changed 11 { phase := .asking, reply := some 5 } l).connectedUp, q ≠ .u0 →
          (changed 11 { phase := .asking, reply := some 5 } l).replyMark q = .allow) := by unfold State.Runs; decide +kernel

-- EveryHeardFrameRefreshes: not heard in LOADING, at number 0, and while this station sends
theorem witness_not_heard : ∀ s ∈ [{ State.reset with boot := { resetHeld := false, station := some 22 } },
      { feed with boot := { feed.boot with mode := .unset, station := some 0 } }, sendingReg true 0 []],
    s.Runs ∧ ¬s.Hears (from' 33) := by
  intro s hs
  simp only [List.mem_cons, List.not_mem_nil, or_false] at hs
  rcases hs with rfl | rfl | rfl
  · exact ⟨rfl, fun h => absurd h.2.1 (by decide)⟩
  · refine ⟨rfl, fun ⟨_, _, ⟨n, h, g, _⟩, _⟩ => g ?_⟩
    exact (Option.some.inj h).symm
  · exact ⟨rfl, fun h => absurd (h.2.2.2.2 _ rfl) (by decide)⟩

/-- The characters of bytes, all with their stop bits high. -/
def chars (l : List Nat) : List RxChar := l.map fun b => ⟨BitVec.ofNat 8 b, true⟩
-- SendingAndBrokenRuns: a wrong CRC, an unknown KIND, a wrong LEN, a payload field, TO and FROM out of their ranges
theorem witness_wrong_crc : (crc [0x21, 22, 33, 1, 3]).toNat ≠ (0x00 : Byte).toNat * 256 + (0x00 : Byte).toNat := by
  decide +kernel
theorem witness_unknown_kind : ∀ q : Payload, Payload.kind q ≠ (0x99 : Byte).toNat := by
  intro q; cases q <;> simp [Payload.kind]
theorem witness_wrong_length : ∀ q : Payload, Payload.kind q = (0x21 : Byte).toNat →
    (Payload.bytes q).length ≠ [(3 : Byte), 0].length := by
  intro q h; cases q <;> simp [Payload.kind, Payload.bytes] at h ⊢
theorem witness_field_range : ∀ q : Payload, Payload.kind q = (0x21 : Byte).toNat →
    Payload.bytes q ≠ [(16 : Byte)].map (·.toNat) := by
  intro q h e
  cases q with
  | take n => exact absurd (List.cons.inj e).1 (Nat.ne_of_lt n.isLt)
  | _ => simp [Payload.kind] at h
theorem witness_to_from : 63 < (64 : Byte).toNat ∧ ¬ 63 < (63 : Byte).toNat ∧ ([(3 : Byte)] : List Byte).length ≤ 24 := by
  decide
/-- A run with a wrong CRC, and one whose serial is 16 with the CRC that goes with it, spell no frame (R167, R168). -/
theorem test_broken_runs :
    parseRun (chars [0xA5, 0x21, 22, 33, 1, 3, 0, 0]) = none
      ∧ (let c := (crc [0x21, 22, 33, 1, 16]).toNat
         parseRun (chars [0xA5, 0x21, 22, 33, 1, 16, c / 256, c % 256]) = none) := by decide +kernel
/-- TAKE of serial 3 on ZTX: START 0xA5 is low, 1 0 1 0 0 1 0 1 from the least significant bit, high (R161). -/
theorem test_ztx :
    (sendingReg true 0 []).ztxChars.take 6 = [0xA5, 0x21, 33, 22, 1, 3]
      ∧ (List.range 10).map (sendingReg true 0 []).ztxPin
        = [false, true, false, true, false, false, true, false, true, true]
      ∧ (sendingReg true 0 []).zdePin = true ∧ (sendingReg false 0 []).zdePin = false := by decide +kernel
/-- With the driver disabled the level of ZTX is the free value (log 18). -/
theorem test_ztx_idle (n : Nat) : (sendingReg false 0 []).ztxPin n = Config.openZtx n := by
  have h : (sendingReg false 0 []).zdePin = false := by decide +kernel
  simp [State.ztxPin, h]
theorem witness_ztx : (sendingReg true 0 []).Runs ∧ (sendingReg true 0 []).boot.station = some 22
    ∧ (sendingReg true 0 []).line.reg = some ⟨⟨33, .take 3⟩, 0, 2, true⟩
    ∧ (∀ r, (sendingReg false 0 []).line.reg = some r → r.sending = false) :=
  ⟨rfl, rfl, rfl, by intro r h; cases h; rfl⟩

-- ClearAndTheAckKey, FlushEmptiesAndRescans: a panel and another station; the key held; a flush of a running belt
theorem witness_clear : troubled.HearsAlone (from' 2) ∧ troubled.obeys 2 = true ∧ troubled.HearsAlone (from' 33)
    ∧ troubled.obeys 33 = false := ⟨alone_of rfl, rfl, alone_of rfl, rfl⟩
theorem witness_hold_flush :
    let s := acking {} (some ⟨800, true, false⟩)
    s.Runs ∧ s.bay.ackHold = some ⟨800, true, false⟩ ∧ s.att.level = 3 ∧ (level s 2).att.level ≠ 3 :=
  ⟨rfl, rfl, rfl, nofun⟩
/-- A FLUSH of a running belt leaves every cause as it stands (R174), BELT-UNSTEADY with its condition too (log 34). -/
theorem test_flush_unsteady :
    let s := { troubled with
      dr := { troubled.dr with belt := .run, level := 300 }
      att := { troubled.att with causes := { troubled.att.causes with
        beltUnsteady := { st := .pendingAck, present := true } } } }
    let t := after (.flush (from' 2)) s
    t.dr.belt = .hold ∧ t.cause .beltUnsteady = { st := .pendingAck, present := true }
      ∧ ((t.cause .exitJam).st, (t.cause .exitJam).detail, (t.cause .lostRack).st) = (.pending, 1, .pending)
      ∧ t.att.level = s.att.level := by decide +kernel
/-- After STATION_NUMBER_READ the port sends 0x03 0x00 0x00, the most significant bit first, each bit over a low and a
high half of PCK; PCK rests low before and after (R186). -/
theorem test_spi :
    let t := after .stationNumberRead (strapped 22)
    t.boot.pcs = false
      ∧ (List.range 48).map t.pdoPin = (List.replicate 12 false ++ [true, true, true, true]) ++ List.replicate 32 false
      ∧ (List.range 4).map t.pckPin = [false, true, false, true] ∧ t.pckPin 1855 = true
      ∧ t.pckPin 1857 = false ∧ feed.pckPin 1 = false ∧ State.reset.pckPin 1 = false := by decide +kernel
/-- The request 0x3C on TTX: start bit, 0 0 1 1 1 1 0 0, stop bit, and then the resting level (R31, log 42). -/
theorem test_ttx :
    (List.range 11).map { feed with tag := { feed.tag with ttx := some 0x3C } }.ttxPin
      = [false, false, false, true, true, true, true, false, false, true, true] ∧ feed.ttxPin 0 = true := by decide +kernel
-- FlushEmptiesAndRescans: marks ARMED and ABSENT, a belt in RUN, a STATUS that may go out, and a belt in HOLD
theorem witness_flush_move :
    let s := { (queued 12) with dr := { feed.dr with belt := .run }, marks := { offer := ⟨504, .armed⟩ } }
    s.marks.offer.st ≠ .absent ∧ s.marks.stop.st = .absent ∧ s.dr.belt ≠ .hold ∧ s.canQueue = true
      ∧ (s.line.reg = none → s.line.queue = []) ∧ s.line.queue.length ≤ 12 ∧ s.line.reg ≠ none
      ∧ feed.dr.belt = .hold := by decide +kernel
/-- A stall mark left from a freed slot draws its GO at the wake (R108, log 36), and none goes with no mark (R157). -/
theorem test_wake_go :
    let go (m : Bool) :=
      let t := after (.withdraw (from' 11) 9) { parked false 0 with en := { stall0 := m } }
      (t.dr.belt, t.en.stall0,
        (t.line.reg.toList.map (·.frame) ++ t.line.queue).any fun f => Payload.kind f.payload == 0x31)
    (go true, go false) = ((.spinUp, false, true), (.spinUp, false, false)) := by decide +kernel
/-- The lamp goes OFF with the last PENDING cause and begins FLASH high at the next, in one command too (R183). -/
theorem test_lamp_restarts :
    let s := { feed with att := { feed.att with
      causes := { feed.att.causes with lostRack := { st := .pending } }, lamp := ⟨.flash, false, some 3⟩ } }
    (s.ackTop.att.lamp, (s.ackTop.raise .misroute 7).att.lamp)
      = (⟨.off, false, none⟩, ⟨.flash, true, some 25⟩) := by decide +kernel

/-- The worked example's TUNNEL, its head TAKEN toward a neighbour whose last GO was 48 or not, in a belt state. -/
def rinsing (b : BeltState) (taking : Bool) (t16 : Nat) : State :=
  let p := { prof .tunnel with minExposure := 20, target := 60, creepDiv := 4, follow := true }
  let s := stationOf p
  { (if taking then with1 s taken else s) with
    boot := { s.boot with ceiling := ceilingOf p }
    dr := { belt := b, t16 := t16, lock := .locked, inBand := 2 }
    line := { s.line with d0 := some ⟨33, 0, true, some 48, none⟩ } }
/-- v = 52, and T16 166 in RUN and 41 in CREEP; 48 and 154 behind the neighbour (R72, R73, chapter 04's example). -/
theorem test_target :
    ((rinsing .run false 0).targetSpeed, (rinsing .run false 0).targetT16, (rinsing .creep false 0).targetT16,
      (rinsing .run true 0).targetSpeed, (rinsing .run true 0).targetT16) = (52, 166, 41, 48, 154) := by decide +kernel
/-- From 166 to 154 is within the band of 20, and LOCKED stays; from 166 to 41 is not (R78). -/
theorem test_target_lock :
    let d (s : State) := (s.updateTarget.dr.t16, s.updateTarget.dr.lock, s.updateTarget.dr.inBand)
    d (rinsing .run true 166) = (154, .locked, 2) ∧ d (rinsing .creep false 166) = (41, .unlocked, 0) := by decide +kernel
-- LockAndUnsteadyFollowTheError: targets with the profile read and not, near and far
theorem witness_target : (rinsing .run true 166).boot.loaded = true ∧ State.reset.boot.loaded = false
    ∧ (rinsing .creep false 166).dr.belt = .creep ∧ 20 < ((41 : Int) - 166).natAbs := ⟨rfl, rfl, rfl, by decide⟩

/-- A slot RESERVED for U0, the belt in a state, at a level: at 3 the wanted motion is HOLD. -/
def concerning (b : BeltState) (n : Fin 4) : State :=
  level { spun [] with dr := { (spun []).dr with belt := b }, en := { slotA := some (slot 4) } } n
/-- The end of SPIN-UP in HOLD sends STALL to 11 and marks U0 (R108). -/
theorem test_stall_goes_up :
    let t := after .spinUpExpiry (concerning .spinUp 3)
    (t.dr.belt, t.en.stall0, t.en.stall1) = (.hold, true, false)
      ∧ ⟨11, .stall⟩ ∈ t.line.reg.toList.map (·.frame) ++ t.line.queue := by decide +kernel
-- SpanWordsFollowStallAndGo: STALL from RUN and at the end of SPIN-UP, GO at leaving HOLD and at a wake, with room
theorem witness_stall_go :
    (concerning .run 3).wanted = .hold ∧ (concerning .run 3).concerned .u0 = true
      ∧ (concerning .run 3).concerned .u1 = false ∧ (concerning .run 3).canQueue = true
      ∧ (concerning .run 3).line.queue.length + 3 ≤ 16 ∧ (concerning .run 3).line.queue = []
      ∧ (concerning .spinUp 3).Runs ∧ (concerning .spinUp 3).dr.spinLeft = some 0
      ∧ (concerning .hold 0).dr.belt = .hold ∧ (concerning .hold 0).wanted ≠ .hold
      ∧ (parked false 0).idle.phase = .parked ∧ (parked false 0).att.level ≠ 3 := by
  unfold State.Runs; decide +kernel

-- DerivedActionsBringTheBlocksTogether, the call lamp: no bay, an unreleased and a released rack, and none
theorem witness_call_lamp :
    (feed.settle.hasRole .load = false ∧ feed.settle.hasRole .unload = false)
      ∧ (let t := (bayed .unload 5 {}).settle
         t.boot.mode = .active ∧ t.hasRole .unload = true ∧ t.bay.released = false
           ∧ (t.track.find? fun r => r.state == .atBay).isSome = true)
      ∧ (let t := (level (bayed .load 5 { released := true }) 3).settle
         t.hasRole .load = true ∧ t.bay.released = true ∧ (t.track.find? fun r => r.state == .atBay).isSome = true)
      ∧ (let t := (stationOf { prof .load with wantTarget := 3 }).settle
         t.track.find? (fun r => r.state == .atBay) = none ∧ t.bay.want = 3 ∧ t.bay.lamp.st = .flash) := by decide +kernel

/-- An UNLOAD at the end of the line: a MISROUTED rack AT-BAY, the lamp in the low half of its FLASH, and behind it
another whose stop mark is already reached; the accept set holds neither class. -/
def bayPair : State :=
  let s := stationOf { prof .unload with d0 := 0, reader := false, accept := 1 }
  let r : Rec := { rack 0 with state := .atBay, cls := 5, flags := { misrouted := true } }
  { s with
    cu := { count := 1000 }
    track := [r, { rack 40 with id := 1, cls := 6, state := .riding }], nextId := 2
    marks := { owner := some 0, front := 0, offer := ⟨840, .fired⟩, approach := ⟨880, .fired⟩, stop := ⟨944, .fired⟩ }
    bay := { lamp := ⟨.flash, false, some 7⟩, emptyKey := down } }
/-- EMPTY releases the first rack, which turns the lamp OFF, and the next one begins a new FLASH, high (R134). -/
theorem test_flash_begins_again :
    let t := after .emptyKeyPress bayPair
    (t.track.map fun r => (r.state, r.flags.misrouted)) = [(.taken, true), (.atBay, true)]
      ∧ t.bay.lamp = ⟨.flash, true, some 50⟩ ∧ bayPair.settle.bay.lamp = bayPair.bay.lamp := by decide +kernel

-- DerivedActionsBringTheBlocksTogether, the call lamp: the event ends a FLASH, and the derived actions begin one
theorem witness_flash_begins :
    let s := { bayPair with bay := { bayPair.bay with released := true } }
    s.wantStep.callState ≠ .flash ∧ s.settle.bay.lamp.st = .flash := by decide +kernel

/-- A LOAD whose RESERVED slot is past its allowance, with an offer NOTED. -/
def expiring : State :=
  let s := stationOf { prof .load with wantTarget := 3, reader := false }
  { s with cu := { count := 5000 }, found := [.arrival .a], bay := { want := 2 },
           en := { slotA := some { slot 4 with takenAt := 0 }, noted0 := some ⟨5, (slot 5).image, none⟩ } }
/-- The slot is freed and reserved again in one step: the want comes back to 2, and a WANT goes out (R131, R132). -/
theorem test_want_rises_and_falls :
    let t := after .slotArrivalExpiry expiring
    (t.en.slotA.map (·.serial), t.bay.want) = (some 5, 2)
      ∧ ⟨0, .want 2⟩ ∈ t.line.reg.toList.map (·.frame) ++ t.line.queue := by decide +kernel
-- WantsAndSteeredListsAreKept: a change that the event makes, an expired slot
theorem witness_want_event :
    let s := { expiring with en := { expiring.en with slotA := none } }
    s.hasRole .load = true ∧ s.wantNow ≠ s.bay.want ∧ s.boot.mode = .active ∧ s.canQueue = true
      ∧ s.line.queue.length ≤ 12 := by decide +kernel

/-- Position 6 of the key matrix is KR2 in the row of KS1 (R124). -/
theorem test_matrix :
    let s := stationOf (prof .unload)
    (List.finRange 4).map (s.ksPin 1) = [true, false, true, true]
      ∧ PinSample.position { pins with matrix := 0xFFBF } 6 = true
      ∧ PinSample.krPin { pins with matrix := 0xFFBF } 1 2 = false ∧ PinSample.position pins 6 = false
      ∧ s.bayRole = true := by decide +kernel

/-- A FLUSH in RUN leaves the mark of BELT-UNSTEADY, and the next tick ends the condition (R174, R79, log 34). -/
theorem test_flush_then_tick :
    let s := { troubled with
      dr := { troubled.dr with belt := .run, level := 300 }
      att := { troubled.att with causes := { troubled.att.causes with
        beltUnsteady := { st := .pendingAck, present := true } } } }
    let t := after (.flush (from' 2)) s
    let u := after (.tick pins) t
    ((t.cause .beltUnsteady).present, (u.cause .beltUnsteady).present, (u.cause .beltUnsteady).st)
      = (true, false, .absent) := by decide +kernel
-- LockAndUnsteadyFollowTheError: the belt leaves RUN, and the mark is left with the belt out of RUN
theorem witness_unsteady_over :
    let s := { feed with dr := { feed.dr with belt := .run } }
    s.dr.belt = .run ∧ s.wanted ≠ .run
      ∧ (let t := feed.setCause .beltUnsteady { st := .pendingAck, present := true }
         t.Runs ∧ t.dr.belt ≠ .run ∧ (t.cause .beltUnsteady).present = true) := by
  unfold State.Runs; decide +kernel

-- DerivedActionsBringTheBlocksTogether, StepKeepsNumbersSound: the head owns the group
theorem witness_head : (with1 feed (rack 0)).HeadSound ∧ (with1 feed (rack 0)).head = some (rack 0) := by
  refine ⟨⟨by unfold State.NamesSound; decide, ?_⟩, rfl⟩
  intro r h; have : rack 0 = r := Option.some.inj h; subst this; rfl

/-- The invariants hold at a state with a rack, frames and a cause, and not only after reset. -/
def busy : State :=
  { with1 troubled taken with
    line := (queued 3).line, pending := [.forwardEdge], dr := { resume := 400 }
    att := { troubled.att with lamp := ⟨.flash, true, some 25⟩ } }
theorem witness_lamp : busy.LampSound := by unfold State.LampSound; decide +kernel
theorem witness_drive : busy.DriveSound := by unfold State.DriveSound; decide +kernel
theorem witness_line : busy.LineSound := by
  refine ⟨by decide, ⟨busy.line.queue, [], by decide, by decide, by decide⟩, by unfold AtMostOne; decide,
    by unfold AtMostOne; decide, nofun, ?_⟩
  intro r h; have e : (⟨⟨33, .take 3⟩, 0, 2, false⟩ : SendReg) = r := Option.some.inj h
  subst e; decide
theorem witness_track : busy.TrackSound := by unfold State.TrackSound; decide
theorem witness_numbers : busy.NumbersSound := by unfold State.NumbersSound State.NamesSound; decide
theorem witness_step : ∃ t, step busy = .next t := ⟨_, rfl⟩

/-! ### Witnesses: the clauses for what a read, a span or a sender leaves open -/

-- StartUpReadsNumberAndProfile, the exposure ceiling: 1200 mm less 100 in 300 s is 3 mm/s, and the least is 10
theorem witness_ceiling :
    let p (n : Nat) := profileOf (image [(49, n / 256), (50, n % 256)])
    profileFault 22 (image [(49, 1), (50, 44)]) = none ∧ 0 < (p 300).minExposure ∧ (p 0).minExposure = 0
      ∧ ceilingOf { prof .tunnel with offerLead := 150, minExposure := 20 } = 52 := by decide +kernel
-- ProfileIsCheckedClampedAndConverted, the distances: an eye present and absent, a gate and none, a negative offset
theorem test_distances :
    let c := countsOf { prof .divert with posCheckA := 600, posGate := 1000, rackMax := 560, stopLead := 1300 }
    let d := countsOf { prof .feed with rackMax := 560, stopLead := 20 }
    (c.exit, c.checkA, c.gate, c.gateClear, c.stop) = (960, 480, 800, 1248, 0)
      ∧ (d.checkA, d.gate, d.gateClear, d.stop) = (0, 0, 1408, 944) := by decide

/-- A trail edge captured at ENTRY at a count, the rack from 1000 on with its entry passage OPEN or not. -/
def leaving (isOpen fresh : Bool) (x : Count) : State :=
  let s := pended .entry .blocked false x
  { s with
    track := [{ rack 1000 with entryOpen := isOpen, state := .entering, length := none }], nextId := 1
    marks := { owner := some 0 }
    eyes := { s.eyes with lead := some 1000, leadFresh := fresh } }
-- EntryTrailMeasuresTheRack, the edge: an open record or none, with a fresh lead capture or without, any count
theorem witness_leaving (o f : Bool) (x : Count) :
    let s := leaving o f x
    s.Runs ∧ s.boot.mode = .active ∧ s.boot.loaded = true ∧ s.dr.belt ≠ .park
      ∧ s.eyes.entry.pend = some ⟨x, false, 2⟩ ∧ s.boot.prof.eyeFilter ≤ 2 ∧ s.eyes.entry.st = .blocked
      ∧ s.eyes.lead = some 1000 ∧ s.eyes.leadFresh = f
      ∧ s.track.map (fun r => (r.entryOpen, r.state)) = [(o, .entering)] :=
  ⟨rfl, rfl, rfl, nofun, rfl, (by decide : (2 : Nat) ≤ 2), rfl, rfl, rfl, rfl⟩
theorem witness_leaving_names (o f : Bool) (x : Count) : (leaving o f x).NamesSound :=
  ⟨List.nodup_singleton _, fun _ h => List.mem_singleton.1 h ▸ Nat.zero_lt_one⟩
/-- The length and CROWDING after each of them (R23, R44, R45). -/
theorem test_leaving :
    [(true, true, (1448 : Count)), (true, true, 1449), (true, false, 1449)].map (fun x =>
      let t := after (.eyeEdgeConfirm .entry) (leaving x.1 x.2.1 x.2.2)
      (t.track.map fun r => (r.length, r.flags.crowded, r.state), (t.cause .crowding).st))
      = [([(some 448, false, .head)], .absent), ([(some 449, true, .head)], .pending),
         ([(none, false, .head)], .absent)] := by decide +kernel

/-- The read of a LANDING slot's record at its timeout. -/
def timedOut : State :=
  let s := landing 1300 none
  { s with tag := { s.tag with timeout := some 0 } }
-- TagPortEndsItsReads, landings without a read: the gap and the timeout
theorem witness_timed_out : timedOut.Runs ∧ timedOut.tag.st = .reading ∧ timedOut.tag.owner = some 0
    ∧ (timedOut.recOf 0).map (·.id) = some 0 ∧ (timedOut.slotOf 0).map (·.1) = some .a ∧ timedOut.canQueue = true
    ∧ timedOut.line.queue.length ≤ 8 ∧ timedOut.boot.loaded = true ∧ timedOut.boot.prof.reader = true
    ∧ timedOut.tag.timeout = some 0 := by unfold State.Runs; decide +kernel

/-- A lead edge at ENTRY with a RESERVED slot, the reader present or not, its port in a state. -/
def arriving (reader : Bool) (st : TagState) : State :=
  let s := pended .entry .clear false 65200
  { s with
    boot := { s.boot with prof := { s.boot.prof with reader := reader } }
    tag := { st := st, timeout := if st = .idle then none else some 5 }
    en := { slotA := some (slot 4) } }
-- TagPortEndsItsReads, landings at the lead edge: an idle reader, two busy ones, none
theorem witness_arriving : ∀ x ∈ [(true, TagState.idle), (true, .reading), (true, .draining), (false, .idle)],
    let s := arriving x.1 x.2
    s.Runs ∧ s.boot.mode = .active ∧ s.boot.loaded = true ∧ s.dr.belt ≠ .park
      ∧ s.eyes.entry.pend = some ⟨65200, false, 2⟩ ∧ s.boot.prof.eyeFilter ≤ 2 ∧ s.eyes.entry.st = .clear
      ∧ s.trackFull = false ∧ s.oldestReserved = some (.a, slot 4) ∧ (∀ r ∈ s.track, r.id < s.nextId)
      ∧ (∀ m ∈ [SlotName.a, .b], ∀ z ∈ s.slot m, z.landing ≠ some s.nextId) ∧ s.canQueue = true
      ∧ s.line.queue.length ≤ 8 ∧ s.boot.prof.reader = x.1 ∧ s.tag.st = x.2 := by
  unfold State.Runs; decide +kernel
/-- Their landing logs (R101, R102, R32). -/
theorem test_arriving :
    [(true, TagState.idle), (true, .reading), (true, .draining), (false, .idle)].map (fun x =>
      (after (.eyeEdgeConfirm .entry) (arriving x.1 x.2)).en.log0)
      = [[], [⟨4, 1207, .noread⟩], [⟨4, 1207, .noread⟩], [⟨4, 1207, .ok⟩]] := by decide +kernel

/-- A rack that spans EXIT, TAKEN under serial 3, and behind it another TAKEN under serial 4 or none. -/
def spanningPair (two : Bool) : State :=
  let a : Rec := { taken with state := .leaving, exitPass := .spanning }
  let b : Rec := { rack 65000 with id := 1, number := 101, state := .taken, exitPort := some .d0, exitSerial := some 4 }
  { feed with track := if two then [a, b] else [a], nextId := 2, cu := { count := 970 } }
-- SkippedRecordIsGivenUp: a SPANNING record with a next one whose passage is NONE, and with none
theorem witness_spanning :
    ∀ t ∈ [true, false],
    let s := spanningPair t
    s.downPortOf 33 = some .d0 ∧ (s.handedAs .d0 3).map (fun r => (r.id, r.exitPass)) = some (0, .spanning)
      ∧ s.NamesSound
      ∧ (s.track.filter fun x => x.id != 0).map (fun r => (r.exitPass, r.state)) = if t then [(.none, .taken)] else [] := by
  unfold State.NamesSound; decide +kernel
theorem witness_spanning_heard (t : Bool) : (spanningPair t).HearsAlone (from' 33) := alone_of rfl
/-- The passage goes to the rack behind, which is LEAVING, and the jam distance is its length of 446 and 480 (R91). -/
theorem test_pass_on :
    let t := after (.landedSkipped (from' 33) 3 100) (spanningPair true)
    (t.track.map fun r => (r.number, r.exitPass, r.state), t.eyes.exit.jamDist)
      = ([((101 : RackNo), .spanning, .leaving)], 926) := by decide +kernel

/-- SPIN-UP with time left, motion asked for or not, the belt's reasons to stop as in a state. -/
def spinning (follows : Bool) (s : State) : State :=
  { s with dr := { belt := .spinUp, spinLeft := some 12, level := 300, spinFollows := follows } }
-- BeltFollowsTheWantedMotion, StallAndGoGoUpstream: level 3, idle after motion and before any, motion, an open chain
theorem witness_spin_stop :
    (spinning false (level feed 3)).wanted = .hold ∧ (spinning false (level feed 3)).heldHold = true
      ∧ (spinning true feed).wanted = .hold ∧ (spinning true feed).heldHold = false
      ∧ (spinning false feed).wanted = .hold ∧ (spinning false feed).heldHold = false
      ∧ (spinning false (with1 feed (rack 0))).wanted ≠ .hold
      ∧ (let s := spinning true { feed with att := { estopHigh := false } }
         s.dr.belt = .spinUp ∧ s.boot.resetHeld = false ∧ s.att.estopHigh = false ∧ (s.cause .estop).st = .absent
           ∧ (s.cause .estop).present = false)
      ∧ (let s := spinning true (concerning .spinUp 3)
         s.wanted = .hold ∧ s.heldHold = true ∧ s.concerned .u0 = true ∧ s.concerned .u1 = false) := by decide +kernel
/-- A level of 3 stops that SPIN-UP and STALL goes to 11; a wake with nothing wanted goes on (R66, R108, log 12). -/
theorem test_spin_stop :
    let t := (spinning true (concerning .spinUp 3)).followBelt
    (t.dr.belt, t.dr.spinLeft, t.dr.holdFrom, t.en.stall0) = (.hold, none, some .spinUp, true)
      ∧ (spinning false feed).followBelt.dr.belt = .spinUp := by decide +kernel

/-- A DIVERT whose branch 0 holds an unnumbered rack and 505, and branch 1 holds 600. -/
def steering2 : State :=
  { steering with
    rt := { steered0 := [⟨notag, 7, 0⟩, ⟨505, 7, 900⟩], steered1 := [⟨600, 8, 0⟩] } }
-- SteeredListsStayBounded: the other branch, no number, a number of neither, a stranger, another steered-by, no list
theorem witness_rack_in_others :
    steering2.steers = true ∧ steering2.boot.station = some 22 ∧ steering2.senderBranch 7 = some .d0
      ∧ steering2.senderBranch 9 = none ∧ (22 : Station) ≠ 23 ∧ feed.steers = false
      ∧ (steering2.steered .d0).map (·.number) = [notag, 505] ∧ (steering2.steered .d1).map (·.number) = [600]
      ∧ (steering.steered .d0).all (fun x => x.number != notag) = true := by decide +kernel
theorem witness_rack_in_heard : steering2.Hears ⟨0, 7⟩ ∧ steering2.Hears ⟨0, 9⟩ ∧ steering.Hears ⟨0, 7⟩
    ∧ feed.Hears ⟨0, 7⟩ := ⟨hears_of rfl, hears_of rfl, hears_of rfl, hears_of rfl⟩
/-- What those leave of the two lists (R146). -/
theorem test_rack_in :
    [((7 : Station), (600 : RackNo)), (7, notag), (7, 700), (9, 505), (9, 600), (9, notag)].map (fun x =>
      let t := after (.rackIn ⟨0, x.1⟩ x.2 22) steering2
      (t.rt.steered0.map (·.number), t.rt.steered1.map (·.number)))
      = [([notag, 505], []), ([505], [600]), ([505], [600]), ([notag], [600]), ([notag, 505], []),
         ([notag, 505], [600])] := by decide +kernel

-- RaiseMakesTheCausePending: a report mask yes and no, 12 and 13 frames that wait, a station that may not queue
theorem witness_report :
    ((queued 12).cause .misroute).st = .absent ∧ (queued 12).reportMask .misroute = true ∧ (queued 12).canQueue = true
      ∧ (queued 12).line.queue.length ≤ 12 ∧ 12 < (queued 13).line.queue.length
      ∧ (let p := { feed.boot.prof with masks := List.replicate 18 false }
         ({ feed with boot := { feed.boot with prof := p } }).reportMask .misroute = false)
      ∧ numbered.canQueue = false ∧ (numbered.cause .misroute).st = .absent := by decide +kernel
theorem witness_level_now : (∀ k, (feed.cause k).st = .absent) ∧ (troubled.cause .exitJam).st ≠ .absent :=
  ⟨by intro k; cases k <;> decide, nofun⟩
/-- The report of a raise waits with its cause, detail, repeat count 0 and pending count 1 (R175). -/
theorem test_report :
    ⟨0, .attention ⟨some .misroute, feed.severity .misroute, 700, 0, false, 1⟩⟩
      ∈ ((queued 3).raise .misroute 700).line.queue := by decide +kernel

end Sys2Proof.Tests
end

/-! Forward distance, conversions and corrections (R5, R8, R9, R26): the facts about the functions of
Machine/Distance.lean, and what a correction leaves of a record. -/

namespace Sys2Proof.Machine

/-! ### The forward distance and its readings (R9) -/

theorem dist_eq_mod (a b : Count) : dist a b = (b.toNat + 65536 - a.toNat) % 65536 := by
  have ha : a.toNat < 2 ^ 16 := a.isLt
  rw [dist, BitVec.toNat_sub]
  omega

theorem reached_iff (a b : Count) : reached a b = true ↔ dist a b < 32768 := by simp [reached]

theorem slip_of_reached {a b : Count} (h : reached a b = true) : slip a b = dist a b := by simp [slip, h]

theorem slip_of_not_reached {a b : Count} (h : reached a b = false) : slip a b = (dist a b : Int) - 65536 := by
  simp [slip, h]

/-- The slip is the difference of the counts read in two's complement: its range and its effect follow. -/
theorem slip_eq_toInt (a b : Count) : slip a b = (b - a).toInt := by
  rw [BitVec.toInt_eq_toNat_cond]
  cases h : reached a b with
  | true =>
    have hd : (b - a).toNat < 32768 := (reached_iff a b).1 h
    rw [slip_of_reached h, if_pos (by omega), dist]
  | false =>
    have hd : ¬(b - a).toNat < 32768 := fun hlt => by simp [(reached_iff a b).2 hlt] at h
    rw [slip_of_not_reached h, if_neg (by omega), dist]
    rfl

theorem slip_ge (a b : Count) : -32768 ≤ slip a b := slip_eq_toInt a b ▸ (b - a).le_toInt

theorem slip_le (a b : Count) : slip a b ≤ 32767 := Int.le_of_lt_add_one (slip_eq_toInt a b ▸ (b - a).toInt_lt)

@[simp] theorem Count.shift_slip (a b : Count) : Count.shift a (slip a b) = b := by
  rw [Count.shift, slip_eq_toInt, BitVec.ofInt_toInt, BitVec.add_comm, BitVec.sub_add_cancel]

theorem Count.plus_shift (a : Count) (v : Int) (n : Nat) :
    Count.plus (Count.shift a v) n = Count.shift (Count.plus a n) v :=
  add_right_comm _ _ _

/-! ### Millimetres and counts (R5, R8) -/

theorem mmToCounts_rounds (k mm : Nat) :
    1000 * mmToCounts k mm ≤ mm * k + 500 ∧ mm * k + 500 < 1000 * (mmToCounts k mm + 1) :=
  ⟨Nat.mul_div_le _ _, Nat.lt_mul_div_succ _ (by decide)⟩

theorem clampNat_mem {lo hi : Nat} (h : lo ≤ hi) (x : Nat) : lo ≤ clampNat x lo hi ∧ clampNat x lo hi ≤ hi :=
  ⟨Nat.le_max_left _ _, Nat.max_le.2 ⟨h, Nat.min_le_right _ _⟩⟩

theorem countsToMm_mem (k n : Nat) : 1 ≤ countsToMm k n ∧ countsToMm k n ≤ 65535 :=
  clampNat_mem (by decide) _

/-- The rounded quotient m of R8, given by its two bounds, is clamped to 1 to 65,535. -/
theorem countsToMm_of_bounds {k n m : Nat} (hle : k * m ≤ n * 1000 + k / 2) (hlt : n * 1000 + k / 2 < k * (m + 1)) :
    countsToMm k n = if m = 0 then 1 else if 65535 < m then 65535 else m := by
  have hquot : (n * 1000 + k / 2) / k = m :=
    Nat.div_eq_of_lt_le (Nat.mul_comm k m ▸ hle) (Nat.mul_comm k (m + 1) ▸ hlt)
  rw [countsToMm, hquot, clampNat]
  split
  · omega
  · split <;> omega

theorem lengthField_some (k n : Nat) : (lengthField k (some n)).val = countsToMm k n :=
  Nat.mod_eq_of_lt (Nat.lt_succ_of_le (countsToMm_mem k n).2)

theorem lengthField_none (k : Nat) : (lengthField k none).val = 0 := rfl

/-! ### Corrections (R16, R26) -/

/-- A recomputation writes the mark group, and a stop mark that fires in it the record at the bay and its
MISROUTE (R125): `kept` blanks all of these. -/
@[simp] theorem State.kept_recomputeGroup (s : State) (c : Count) : (s.recomputeGroup c).kept = s.kept := by
  unfold State.recomputeGroup
  dsimp only
  split
  · rw [State.kept_stopFired]; rfl
  · rfl

/-- Beyond the record's front, a correction only recomputes the mark group. -/
theorem State.kept_correct (s : State) (r : Rec) (v : Int) :
    (s.correct r v).kept = (s.updRec r.id fun q => { q with front := Count.shift r.front v }).kept := by
  unfold State.correct
  dsimp only
  split
  · exact State.kept_recomputeGroup _ _
  · rfl

theorem Rec.id_eq_of_kept {q r : Rec} (h : q.kept = r.kept) : q.id = r.id := (congrArg Rec.id h :)

theorem Rec.front_eq_of_kept {q r : Rec} (h : q.kept = r.kept) : q.front = r.front := (congrArg Rec.front h :)

theorem State.mem_correct {s : State} {r : Rec} (v : Int) (hr : r ∈ s.track) :
    ∃ q ∈ (s.correct r v).track, q.id = r.id ∧ q.front = Count.shift r.front v := by
  have hupd := s.mem_updRec (fun q => { q with front := Count.shift r.front v }) hr
  obtain ⟨q, hq, hkept : q.kept = Rec.kept { r with front := Count.shift r.front v }⟩ :=
    State.kept_mem _ _ (s.kept_correct r v) hupd
  exact ⟨q, hq, (Rec.id_eq_of_kept hkept :), (Rec.front_eq_of_kept hkept :)⟩

/-- A record moved by its slip crosses the eye where the edge was captured: the offset commutes with the move,
and the slip moves the predicted crossing to the edge. -/
theorem Rec.crossing_of_front_slipped {q r : Rec} {o : Nat} {x : Count}
    (h : q.front = Count.shift r.front (r.slipAt o x)) : q.crossing o = x :=
  calc q.crossing o
      _ = Count.plus (Count.shift r.front (r.slipAt o x)) o := by rw [Rec.crossing, h]
      _ = Count.shift (r.crossing o) (slip (r.crossing o) x) := Count.plus_shift _ _ _
      _ = x := Count.shift_slip _ _

theorem State.correct_meets_edge {s : State} {r : Rec} (o : Nat) (x : Count) (hr : r ∈ s.track) :
    ∃ q ∈ (s.correct r (r.slipAt o x)).track, q.id = r.id ∧ q.crossing o = x := by
  obtain ⟨q, hq, hid, hfront⟩ := State.mem_correct (r.slipAt o x) hr
  exact ⟨q, hq, hid, Rec.crossing_of_front_slipped hfront⟩

/-- Settles O7: the slip is the two's complement reading of the distance, the conversions are rounded
quotients, and a correction keeps the record under its name with its front moved by the slip. -/
theorem distancesAndConversions : Obligations.DistancesAndConversions := by
  refine ⟨fun a b => ?readings, ⟨mmToCounts_rounds, fun k n _ => ?toMm, fun k n _ => lengthField_some k n,
    lengthField_none⟩, fun _ _ o x hr => State.correct_meets_edge o x hr⟩
  case readings =>
    exact ⟨dist_eq_mod a b, reached_iff a b, slip_of_reached, slip_of_not_reached, slip_ge a b, slip_le a b,
      Count.shift_slip a b⟩
  case toMm =>
    obtain ⟨hlo, hhi⟩ := countsToMm_mem k n
    exact ⟨hlo, hhi, fun _ => countsToMm_of_bounds⟩

end Sys2Proof.Machine

/-! WITHDRAW and WHERE at the entry side (R100, R106): what a hand-off frame does once it is heard, what hearing
it leaves of the exchange, and what the two frames make of the waiting offers, the slots and the landing logs. -/

namespace Sys2Proof.Machine

/-! ### Hearing a hand-off frame (R157, R169, R171) -/

/-- Neither the lost list nor the lock hangs on NEIGHBOUR-SILENT, so its end writes less than the end of other
causes can. -/
theorem State.get_absentOne_neighbourSilent {b : Block} (s : State) (h : b ≠ .att) :
    (s.absentOne .neighbourSilent).get b = s.get b := by
  unfold State.absentOne
  split
  · rfl
  · exact State.get_changeCause s _ _ h

theorem State.get_conditionEnd_neighbourSilent {b : Block} (s : State) (h : b ≠ .att) (h' : b ≠ .line) :
    (s.conditionEnd .neighbourSilent).get b = s.get b := by
  unfold State.conditionEnd
  dsimp only
  split
  · rw [State.absentAll, State.get_recomputeLevel _ h h']
    exact (State.get_absentOne_neighbourSilent _ h).trans (State.get_setCause s _ _ h)
  · exact State.get_setCause s _ _ h

/-- Refreshing a sender writes the line and the attention unit alone. -/
theorem State.get_refresh_of_ne {b : Block} (s : State) (x : Station) (h : b ≠ .att) (h' : b ≠ .line) :
    (s.refresh x).get b = s.get b := by
  unfold State.refresh
  dsimp only
  split
  · exact (State.get_conditionEnd_neighbourSilent _ h h').trans (State.get_updNeighs s _ h')
  · exact State.get_updNeighs s _ h'

theorem State.ex_refresh (s : State) (x : Station) : (s.refresh x).ex = s.ex :=
  State.get_refresh_of_ne (b := .ex) s x (by decide) (by decide)
theorem State.dr_refresh (s : State) (x : Station) : (s.refresh x).dr = s.dr :=
  State.get_refresh_of_ne (b := .dr) s x (by decide) (by decide)

@[simp] theorem State.upPortOf_refresh (s : State) (x y : Station) : (s.refresh x).upPortOf y = s.upPortOf y := by
  unfold State.upPortOf; rw [State.boot_refresh]
@[simp] theorem State.noted_refresh (s : State) (x : Station) (p : UpPort) :
    (s.refresh x).noted p = s.noted p := by
  cases p <;> simp only [State.noted, State.en_refresh]
@[simp] theorem State.slot_refresh (s : State) (x : Station) (m : SlotName) : (s.refresh x).slot m = s.slot m := by
  cases m <;> simp only [State.slot, State.en_refresh]
@[simp] theorem State.landLog_refresh (s : State) (x : Station) (p : UpPort) :
    (s.refresh x).landLog p = s.landLog p := by
  cases p <;> simp only [State.landLog, State.en_refresh]
@[simp] theorem State.slotHolding_refresh (s : State) (x : Station) (p : UpPort) (n : Serial) :
    (s.refresh x).slotHolding p n = s.slotHolding p n := by
  unfold State.slotHolding; rw [State.en_refresh]

/-- A hand-off frame for this station acts by its own rule on the refreshed state, and wakes. -/
theorem State.receive_handOff {s : State} {h : Hdr} {p : Payload} (f : State → State) (hh : s.HearsAlone h)
    (hp : ∀ t : State, t.deliverFrame h p = t.handOffFrame h f) :
    live s (s.receive h p) = .next (State.settle (State.wake (f (s.refresh h.src)))) := by
  rw [State.receive_of_hears hh.1, hp, State.handOffFrame, if_pos (State.toMeAlone_refresh hh)]

theorem exec_withdraw_eq (s : State) (h : Hdr) (n : Serial) :
    exec (.withdraw h n) s = live s (s.receive h (.withdraw n)) := rfl

theorem exec_withdraw {s : State} {h : Hdr} (n : Serial) (hh : s.HearsAlone h) :
    exec (.withdraw h n) s = .next (State.settle (State.wake ((s.refresh h.src).onWithdraw h.src n))) :=
  (exec_withdraw_eq s h n).trans (State.receive_handOff (fun t => t.onWithdraw h.src n) hh fun _ => rfl)

theorem exec_whereIs_eq (s : State) (h : Hdr) (n : Serial) :
    exec (.whereIs h n) s = live s (s.receive h (.whereIs n)) := rfl

theorem exec_whereIs {s : State} {h : Hdr} (n : Serial) (hh : s.HearsAlone h) :
    exec (.whereIs h n) s = .next (State.settle (State.wake ((s.refresh h.src).onWhere h.src n))) :=
  (exec_whereIs_eq s h n).trans (State.receive_handOff (fun t => t.onWhere h.src n) hh fun _ => rfl)

/-! ### WITHDRAW (R100) -/

section
variable {s : State} {x : Station} {p : UpPort} (n : Serial)

@[simp] theorem State.noted_setSlot (s : State) (m : SlotName) (y : Option Slot) (q : UpPort) :
    (s.setSlot m y).noted q = s.noted q := by
  cases m <;> cases q <;> rfl

theorem freeReserved_some (y : Slot) (p : UpPort) :
    freeReserved (some y) p n = if y.landing = none ∧ y.port = p ∧ y.serial = n then none else some y := by
  simp [freeReserved, Slot.reserved, and_assoc]

theorem State.onWithdraw_of_stranger (h : s.upPortOf x = none) : s.onWithdraw x n = s := by
  simp only [State.onWithdraw, h]

/-- A neighbour's WITHDRAW in its two parts: the waiting offer, and the slots. -/
theorem State.onWithdraw_of_upPort (h : s.upPortOf x = some p) :
    s.onWithdraw x n =
      State.setSlot (State.setSlot (if (s.notedAs p n).isSome then s.setNoted p none else s)
        .a (freeReserved (s.slot .a) p n)) .b (freeReserved (s.slot .b) p n) := by
  simp only [State.onWithdraw, h]
  split
  · cases p <;> rfl
  · rfl

theorem State.slot_onWithdraw (h : s.upPortOf x = some p) (m : SlotName) :
    (s.onWithdraw x n).slot m = freeReserved (s.slot m) p n := by
  rw [State.onWithdraw_of_upPort n h]
  cases m <;> simp

theorem State.noted_onWithdraw_named (h : s.upPortOf x = some p) {q : Noted} (hq : s.noted p = some q)
    (hn : q.serial = n) : (s.onWithdraw x n).noted p = none := by
  have hnamed : (s.notedAs p n).isSome = true := by simp [State.notedAs, hq, hn]
  rw [State.onWithdraw_of_upPort n h, if_pos hnamed]
  simp

theorem State.noted_onWithdraw_unnamed (h : s.upPortOf x = some p) {q : Noted} (hq : s.noted p = some q)
    (hn : q.serial ≠ n) : (s.onWithdraw x n).noted p = some q := by
  have hunnamed : ¬(s.notedAs p n).isSome = true := by simp [State.notedAs, hq, hn]
  rw [State.onWithdraw_of_upPort n h, if_neg hunnamed]
  simpa using hq

theorem State.noted_onWithdraw_other (h : s.upPortOf x = some p) :
    (s.onWithdraw x n).noted (UpPort.other p) = s.noted (UpPort.other p) := by
  rw [State.onWithdraw_of_upPort n h]
  split <;> simp

theorem State.get_onWithdraw {b : Block} (h : s.upPortOf x = some p) (hb : b ≠ .en) :
    (s.onWithdraw x n).get b = s.get b := by
  rw [State.onWithdraw_of_upPort n h]
  split <;> simp [hb]

/-- What a WITHDRAW frees is blanked by `kept`, which shows the landing logs. -/
theorem State.landLog_onWithdraw (h : s.upPortOf x = some p) (q : UpPort) :
    (s.onWithdraw x n).landLog q = s.landLog q := by
  refine State.kept_landLog_eq _ _ ?_ q
  rw [State.onWithdraw_of_upPort n h]
  split <;> simp

end

/-! ### WHERE (R106) -/

section
variable {s : State} {x : Station} {p : UpPort} {n : Serial}

/-- WHERE only sends: the exchange and the track stay, whatever the answer. -/
theorem State.get_onWhere {b : Block} (s : State) (x : Station) (n : Serial) (h : b ≠ .att) (h' : b ≠ .line) :
    (s.onWhere x n).get b = s.get b := by
  unfold State.onWhere
  (repeat' split) <;> simp [h, h']

theorem State.track_onWhere (s : State) (x : Station) (n : Serial) : (s.onWhere x n).track = s.track :=
  State.get_onWhere (b := .track) s x n (by decide) (by decide)

theorem State.landLog_onWhere (s : State) (x : Station) (n : Serial) (p : UpPort) :
    (s.onWhere x n).landLog p = s.landLog p := by
  have hen : (s.onWhere x n).en = s.en := State.get_onWhere (b := .en) s x n (by decide) (by decide)
  cases p <;> simp only [State.landLog, hen]

/-- The search from the newest entry finds the one entry of its serial, wherever it stands. -/
theorem LandLog.find?_reverse_of_unique {l : List LandLog} {y : LandLog} (hy : y ∈ l) (hn : y.serial = n)
    (honly : ∀ z ∈ l, z.serial = n → z = y) : l.reverse.find? (fun z => z.serial == n) = some y := by
  cases hf : l.reverse.find? (fun z => z.serial == n) with
  | none => exact absurd hn (by simpa using List.find?_eq_none.1 hf y (List.mem_reverse.2 hy))
  | some z =>
    have hz : z ∈ l := List.mem_reverse.1 (List.mem_of_find?_eq_some hf)
    have hserial : z.serial = n := by simpa using List.find?_some hf
    rw [honly z hz hserial]

theorem LandLog.find?_reverse_of_unlogged {l : List LandLog} (h : ∀ z ∈ l, z.serial ≠ n) :
    l.reverse.find? (fun z => z.serial == n) = none :=
  List.find?_eq_none.2 fun z hz => by simpa using h z (List.mem_reverse.1 hz)

theorem State.onWhere_of_logged (hp : s.upPortOf x = some p) (hm : s.boot.mode = .active) {y : LandLog}
    (hy : y ∈ s.landLog p) (hn : y.serial = n) (honly : ∀ z ∈ s.landLog p, z.serial = n → z = y) :
    s.onWhere x n = s.sendPrompt x (.landed n y.number y.status) := by
  simp only [State.onWhere, hp, if_pos hm, LandLog.find?_reverse_of_unique hy hn honly]

/-- Of a serial that is not logged, the slot decides: silence while it is LANDING, NOT-SEEN otherwise. -/
theorem State.onWhere_of_unlogged (hp : s.upPortOf x = some p) (hm : s.boot.mode = .active)
    (h : ∀ z ∈ s.landLog p, z.serial ≠ n) :
    s.onWhere x n =
      if (s.slotHolding p n).any (fun y => y.2.landing.isSome) then s else s.sendPrompt x (.notSeen n) := by
  simp only [State.onWhere, hp, if_pos hm, LandLog.find?_reverse_of_unlogged h]
  cases hs : s.slotHolding p n with
  | none => rfl
  | some y => cases hl : y.2.landing <;> simp [Slot.reserved, hl]

end

/-! ### The two frames as commands -/

/-- Settles O30: WITHDRAW and WHERE act by `onWithdraw` and `onWhere` on the refreshed state, which holds the same
offers, slots and logs as the state before. -/
theorem withdrawAndWhereAreObeyed : Obligations.WithdrawAndWhereAreObeyed := by
  refine ⟨⟨fun s h n p hh hp => ?withdraw, fun s h n hh hp => ?stranger⟩, fun s h n p hh hm hp => ?whereIs⟩
  case stranger => rw [exec_withdraw n hh, State.onWithdraw_of_stranger n (by rw [State.upPortOf_refresh, hp])]
  case withdraw =>
    have hv : (s.refresh h.src).upPortOf h.src = some p := by rw [State.upPortOf_refresh, hp]
    have hlog (q : UpPort) := (State.landLog_onWithdraw n hv q).trans (State.landLog_refresh s h.src q)
    refine ⟨_, exec_withdraw n hh, fun q hq => ?named, fun q hq => ?unnamed, ?other, fun m y hy => ?slots,
      ?track, ?ex, ?dr, hlog .u0, hlog .u1⟩
    case named => exact State.noted_onWithdraw_named n hv (by rw [State.noted_refresh, hq])
    case unnamed => exact State.noted_onWithdraw_unnamed n hv (by rw [State.noted_refresh, hq])
    case other => rw [State.noted_onWithdraw_other n hv, State.noted_refresh]
    case slots => rw [State.slot_onWithdraw n hv, State.slot_refresh, hy, freeReserved_some]
    case track => exact (State.get_onWithdraw (b := .track) n hv (by decide)).trans (State.track_refresh s _)
    case ex => exact (State.get_onWithdraw (b := .ex) n hv (by decide)).trans (State.ex_refresh s _)
    case dr => exact (State.get_onWithdraw (b := .dr) n hv (by decide)).trans (State.dr_refresh s _)
  case whereIs =>
    have hv : (s.refresh h.src).upPortOf h.src = some p := by rw [State.upPortOf_refresh, hp]
    have hmode : (s.refresh h.src).boot.mode = .active := by rw [State.boot_refresh, hm]
    have hlog := State.landLog_refresh s h.src p
    have hslot := State.slotHolding_refresh s h.src p n
    refine ⟨_, exec_whereIs n hh, fun y hy hn honly => ?logged, fun hun => ?unlogged,
      (State.landLog_onWhere _ _ n p).trans hlog, (State.track_onWhere _ _ n).trans (State.track_refresh s _)⟩
    case logged =>
      rw [← hlog] at hy honly
      exact State.onWhere_of_logged hv hmode hy hn honly
    case unlogged =>
      rw [← hlog] at hun
      rw [State.onWhere_of_unlogged hv hmode hun, hslot]
      refine ⟨fun m y i hs hl => ?landing, fun m y hs hl => ?reserved, fun hs => ?free⟩
      case landing => simp [hs, hl]
      case reserved => simp [hs, hl]
      case free => simp [hs]

end Sys2Proof.Machine

/-! Routes and rack demand (R136 to R139, R142): what one lookup answers for each kind of entry, how far a chain of
ALIAS steps carries the resolution, and the branch that a DEMAND entry chooses. -/

namespace Sys2Proof.Machine

/-! ### One lookup (R136, R137) -/

section

variable {routes : List RouteEntry} {cls : RackClass}

/-- The entry that the lookup of a class reads. -/
def routeEntry (routes : List RouteEntry) (cls : RackClass) : RouteEntry := routes.getD cls.val ⟨.port0, false⟩

/-- What a lookup makes of the kind that it reads, by the steps left. -/
def followKind (routes : List RouteEntry) (alt : Bool) : RouteKind → Nat → Option (RouteEnd × Bool)
  | .port0, _ => some (.port .d0, alt)
  | .port1, _ => some (.port .d1, alt)
  | .demand, _ => some (.demand, alt)
  | .aliasOf _, 0 => none
  | .aliasOf next, n + 1 => lookupRoute routes n next alt

theorem lookupRoute_eq_followKind (n : Nat) (alt : Bool) :
    lookupRoute routes n cls alt
      = followKind routes (alt && (routeEntry routes cls).alternate) (routeEntry routes cls).kind n := by
  rw [lookupRoute]
  delta routeEntry
  generalize routes.getD cls.val ⟨.port0, false⟩ = entry
  obtain ⟨kind, flag⟩ := entry
  cases kind with
  | aliasOf next => cases n <;> rfl
  | _ => rfl

theorem lookupRoute_of_kind {k : RouteKind} (h : (routeEntry routes cls).kind = k) (n : Nat) (alt : Bool) :
    lookupRoute routes n cls alt = followKind routes (alt && (routeEntry routes cls).alternate) k n :=
  h ▸ lookupRoute_eq_followKind n alt

end

/-! ### A chain of ALIAS steps (R137, R138) -/

section

variable {routes : List RouteEntry}

/-- Every one of the first `m` entries of a chain of classes allows the alternate. -/
def allowsAlternate (routes : List RouteEntry) (c : Nat → RackClass) (m : Nat) : Bool :=
  decide (∀ i < m, (routeEntry routes (c i)).alternate = true)

theorem allowsAlternate_iff {c : Nat → RackClass} {m : Nat} :
    allowsAlternate routes c m = true ↔ ∀ i < m, (routeEntry routes (c i)).alternate = true := decide_eq_true_iff

theorem allowsAlternate_zero (c : Nat → RackClass) : allowsAlternate routes c 0 = true :=
  allowsAlternate_iff.2 fun i hi => absurd hi i.not_lt_zero

theorem allowsAlternate_succ (c : Nat → RackClass) (m : Nat) :
    allowsAlternate routes c (m + 1) = (allowsAlternate routes c m && (routeEntry routes (c m)).alternate) := by
  rw [Bool.eq_iff_iff, Bool.and_eq_true, allowsAlternate_iff, allowsAlternate_iff, Nat.forall_lt_succ_right]

/-- The first `m` entries of the chain are ALIAS entries, each naming the next class. -/
def AliasChain (routes : List RouteEntry) (c : Nat → RackClass) (m : Nat) : Prop :=
  ∀ i < m, (routeEntry routes (c i)).kind = .aliasOf (c (i + 1))

/-- A chain of `m` ALIAS entries uses `m` of the steps allowed and leads to its last class. -/
theorem AliasChain.lookupRoute_add {c : Nat → RackClass} {m : Nat} (h : AliasChain routes c m) (n : Nat) :
    lookupRoute routes (m + n) (c 0) true = lookupRoute routes n (c m) (allowsAlternate routes c m) := by
  induction m generalizing n with
  | zero => rw [allowsAlternate_zero, Nat.zero_add]
  | succ m ih =>
    have hinit : AliasChain routes c m := fun i hi => h i (hi.trans m.lt_succ_self)
    calc lookupRoute routes (m + 1 + n) (c 0) true
        = lookupRoute routes (m + (n + 1)) (c 0) true := by rw [Nat.add_assoc, Nat.add_comm 1]
      _ = lookupRoute routes (n + 1) (c m) (allowsAlternate routes c m) := ih hinit (n + 1)
      _ = lookupRoute routes n (c (m + 1)) (allowsAlternate routes c (m + 1)) := by
        rw [lookupRoute_of_kind (h m m.lt_succ_self), allowsAlternate_succ]; rfl

/-- Within the alias limit the kind at the end of the chain decides, and every entry read, the last one among them,
counts for the alternate mark (R137). -/
theorem AliasChain.lookupRoute_limit {c : Nat → RackClass} {m : Nat} {k : RouteKind} (h : AliasChain routes c m)
    (hm : m ≤ aliasLimit) (hk : (routeEntry routes (c m)).kind = k) :
    lookupRoute routes aliasLimit (c 0) true
      = followKind routes (allowsAlternate routes c (m + 1)) k (aliasLimit - m) := by
  have hwalk := h.lookupRoute_add (aliasLimit - m)
  rwa [Nat.add_sub_cancel' hm, lookupRoute_of_kind hk, ← allowsAlternate_succ] at hwalk

end

/-! ### What a resolution makes of the end of its lookups (R136 to R139) -/

section

variable {s : State} {cls : RackClass} {alt : Bool}

theorem State.resolve_of_lookup_port {p : DownPort}
    (h : lookupRoute s.boot.prof.routes aliasLimit cls true = some (.port p, alt)) :
    s.resolve cls = (s, ⟨p, alt, false⟩) := by
  delta State.resolve
  rw [h]

theorem State.resolve_of_lookup_demand
    (h : lookupRoute s.boot.prof.routes aliasLimit cls true = some (.demand, alt)) :
    s.resolve cls = ({ s with rt := { s.rt with lastChoice := s.demandChoice } }, ⟨s.demandChoice, alt, true⟩) := by
  delta State.resolve
  rw [h]

theorem State.resolve_of_lookup_none (h : lookupRoute s.boot.prof.routes aliasLimit cls true = none) :
    s.resolve cls = (s.raise .routeLoop cls.val, ⟨s.boot.prof.fallback, false, false⟩) := by
  delta State.resolve
  rw [h]

end

/-! ### The choice of a branch (R139, R142) -/

section

variable (s : State)

theorem DownPort.other_ne_self (b : DownPort) : DownPort.other b ≠ b := by cases b <;> nofun

/-- W summed over the integers, as the difference E takes it. -/
theorem State.effective_eq_sum_sub (b : DownPort) :
    s.effective b = ((s.rt.wants.filter fun w =>
        w.fresh && w.station != 0 && (s.loaders b).contains w.station).map fun w => (w.want.val : Int)).sum
      - ((s.steered b).length : Int) := by
  delta State.effective State.branchWant
  rw [Nat.cast_list_sum, List.map_map]
  rfl

variable {s}

theorem State.demandChoice_of_no_demand (h0 : s.effective .d0 ≤ 0) (h1 : s.effective .d1 ≤ 0) :
    s.demandChoice = s.boot.prof.overflow := if_pos ⟨h0, h1⟩

theorem State.demandChoice_of_demand (h : 0 < s.effective .d0 ∨ 0 < s.effective .d1) :
    s.demandChoice = if s.effective .d0 ≠ s.effective .d1
      then (if s.effective .d1 < s.effective .d0 then .d0 else .d1) else DownPort.other s.rt.lastChoice :=
  if_neg fun hno => h.elim hno.1.not_gt hno.2.not_gt

theorem State.demandChoice_of_d0_larger (h0 : 0 < s.effective .d0) (h : s.effective .d1 < s.effective .d0) :
    s.demandChoice = .d0 := by
  rw [State.demandChoice_of_demand (.inl h0), if_pos h.ne', if_pos h]

theorem State.demandChoice_of_d1_larger (h1 : 0 < s.effective .d1) (h : s.effective .d0 < s.effective .d1) :
    s.demandChoice = .d1 := by
  rw [State.demandChoice_of_demand (.inr h1), if_pos h.ne, if_neg h.not_gt]

theorem State.demandChoice_of_tie (h0 : 0 < s.effective .d0) (h : s.effective .d0 = s.effective .d1) :
    s.demandChoice = DownPort.other s.rt.lastChoice := by
  rw [State.demandChoice_of_demand (.inl h0), if_neg (not_not_intro h)]

end

/-! ### The statement's chain of six classes -/

/-- The statement gives the chain as six classes; read it as a sequence, of which only these six matter. -/
def chainOf (c : Fin 6 → RackClass) (i : Nat) : RackClass := c (Fin.ofNat 6 i)

theorem chainOf_castSucc (c : Fin 6 → RackClass) (i : Fin 5) : chainOf c i.val = c i.castSucc :=
  congrArg c (Fin.ext (Nat.mod_eq_of_lt i.castSucc.isLt))

theorem chainOf_succ (c : Fin 6 → RackClass) (i : Fin 5) : chainOf c (i.val + 1) = c i.succ :=
  congrArg c (Fin.ext (Nat.mod_eq_of_lt i.succ.isLt))

theorem aliasChain_chainOf {routes : List RouteEntry} {c : Fin 6 → RackClass} {m : Fin 5}
    (h : ∀ i : Fin 5, i < m → (routeEntry routes (c i.castSucc)).kind = .aliasOf (c i.succ)) :
    AliasChain routes (chainOf c) m.val := by
  intro i hi
  have hc := h ⟨i, by omega⟩ hi
  rwa [← chainOf_castSucc c, ← chainOf_succ c] at hc

theorem allowsAlternate_chainOf (routes : List RouteEntry) (c : Fin 6 → RackClass) (m : Fin 5) :
    allowsAlternate routes (chainOf c) (m.val + 1)
      = decide (∀ i : Fin 5, i ≤ m → (routeEntry routes (c i.castSucc)).alternate = true) := by
  refine decide_eq_decide.2 ⟨fun h i hi => ?_, fun h i hi => ?_⟩
  · rw [← chainOf_castSucc c]
    exact h i.val (Nat.lt_succ_of_le hi)
  · have hc := h ⟨i, by omega⟩ (Nat.le_of_lt_succ hi)
    rwa [← chainOf_castSucc c] at hc

/-- Settles O34: the chain spends its steps one by one, so the lookup at its end decides the resolution; the choice
follows the rows of R139 by the order of the two demands. -/
theorem routesResolveByAliasAndDemand : Obligations.RoutesResolveByAliasAndDemand := by
  refine ⟨?resolution, ?choice⟩
  case resolution =>
    intro s c m e hchain alt
    have hs : AliasChain s.boot.prof.routes (chainOf c) m.val := aliasChain_chainOf hchain
    have hm : m.val ≤ aliasLimit := Nat.le_of_lt_succ m.isLt
    have halt : allowsAlternate s.boot.prof.routes (chainOf c) (m.val + 1) = alt := allowsAlternate_chainOf _ c m
    have hend : chainOf c m.val = c m.castSucc := chainOf_castSucc c m
    rw [← hend, ← halt]
    refine ⟨fun hk => ?port0, fun hk => ?port1, fun hk => ?demand, fun hfour hk => ?fifthStep⟩
    case port0 => exact State.resolve_of_lookup_port (hs.lookupRoute_limit hm hk)
    case port1 => exact State.resolve_of_lookup_port (hs.lookupRoute_limit hm hk)
    case demand => exact State.resolve_of_lookup_demand (hs.lookupRoute_limit hm hk)
    case fifthStep =>
      subst hfour
      exact State.resolve_of_lookup_none (hs.lookupRoute_limit hm hk)
  case choice =>
    intro s e
    have he : e = s.effective := funext fun b => (s.effective_eq_sum_sub b).symm
    rw [he]
    refine ⟨State.demandChoice_of_no_demand, State.demandChoice_of_d0_larger, State.demandChoice_of_d1_larger,
      fun h0 h => ?tie⟩
    case tie =>
      rw [State.demandChoice_of_tie h0 h]
      exact DownPort.other_ne_self _

end Sys2Proof.Machine

/-! Admission to the send queue (R162, R164 to R166): where the register stands decides what becomes of a queue put in
place, and the number of frames that wait decides which queue that is. -/

namespace Sys2Proof.Machine

section
variable {s : State}

/-! ### A queue put in place (R162) -/

theorem State.setQueue_of_reg (hreg : s.line.reg ≠ none) (l : List Frame) :
    s.setQueue l = { s with line := { s.line with queue := l } } := by
  unfold State.setQueue Line.refill
  cases h : s.line.reg with
  | none => exact absurd h hreg
  | some r => rfl

theorem State.setQueue_of_no_reg (hreg : s.line.reg = none) {l : List Frame} {x : Frame} {q : List Frame}
    (hl : l = x :: q) :
    s.setQueue l = { s with line := { s.line with reg := some ⟨x, 0, 0, false⟩, queue := q } } := by
  subst hl
  unfold State.setQueue Line.refill
  rw [hreg]

/-! ### Frames offered (R165, R166)

`State.sendPrompt_of_room` is the remaining case: a PROMPT frame with an entry free. -/

theorem State.sendPrompt_of_full (hcan : s.canQueue = true) (hfull : Config.queueSize ≤ s.line.queue.length)
    (d : Station) (p : Payload) : s.sendPrompt d p = s.raise .lineOverrun (Payload.kind p) := by
  unfold State.sendPrompt
  rw [if_pos hcan, if_neg (Nat.not_lt.2 hfull)]

theorem State.offerRoutine_of_free (hcan : s.canQueue = true) (hfree : s.line.queue.length ≤ 12) (f : Frame) :
    s.offerRoutine f = s.setQueue (s.line.queue ++ [f]) := by
  have hroom : s.line.queue.length + 4 ≤ Config.queueSize := Nat.add_le_add_right hfree 4
  unfold State.offerRoutine
  rw [if_pos (by rw [hcan, decide_eq_true hroom, Bool.and_self])]

theorem State.offerRoutine_of_short (hshort : 12 < s.line.queue.length) (f : Frame) : s.offerRoutine f = s := by
  have hroom : ¬ s.line.queue.length + 4 ≤ Config.queueSize := Nat.not_le.2 (Nat.add_lt_add_right hshort 4)
  unfold State.offerRoutine
  rw [if_neg (by rw [decide_eq_false hroom, Bool.and_false]; exact Bool.false_ne_true)]

theorem State.offerCoalesced_of_waiting (hcan : s.canQueue = true) {same : Payload → Bool}
    (hwait : (s.line.queue.any fun g => same g.payload) = true) (f : Frame) :
    s.offerCoalesced same f = s.setQueue (s.line.queue.map fun g => if same g.payload then f else g) := by
  unfold State.offerCoalesced
  rw [if_pos (by rw [hcan, hwait, Bool.and_self])]

theorem State.offerCoalesced_of_empty (hempty : s.line.queue = []) (same : Payload → Bool) (f : Frame) :
    s.offerCoalesced same f = s.offerRoutine f := by
  unfold State.offerCoalesced
  rw [hempty, List.any_nil, Bool.and_false, if_neg Bool.false_ne_true]

/-! ### Nothing waits and the register is empty (R162) -/

theorem State.sendPrompt_of_idle_line (hcan : s.canQueue = true) (hreg : s.line.reg = none)
    (hempty : s.line.queue = []) (d : Station) (p : Payload) :
    s.sendPrompt d p
      = { s with line := { s.line with reg := some ⟨⟨d, p⟩, 0, 0, false⟩, queue := [] } } := by
  have hroom : s.HasRoom := ⟨hcan, by rw [hempty]; decide⟩
  rw [State.sendPrompt_of_room s d p hroom]
  exact State.setQueue_of_no_reg hreg (by rw [hempty]; rfl)

theorem State.offerRoutine_of_idle_line (hcan : s.canQueue = true) (hreg : s.line.reg = none)
    (hempty : s.line.queue = []) (f : Frame) :
    s.offerRoutine f = { s with line := { s.line with reg := some ⟨f, 0, 0, false⟩, queue := [] } } := by
  rw [State.offerRoutine_of_free hcan (by rw [hempty]; decide)]
  exact State.setQueue_of_no_reg hreg (by rw [hempty]; rfl)

theorem State.offerCoalesced_of_idle_line (hcan : s.canQueue = true) (hreg : s.line.reg = none)
    (hempty : s.line.queue = []) (same : Payload → Bool) (f : Frame) :
    s.offerCoalesced same f = { s with line := { s.line with reg := some ⟨f, 0, 0, false⟩, queue := [] } } :=
  (State.offerCoalesced_of_empty hempty same f).trans (State.offerRoutine_of_idle_line hcan hreg hempty f)

end

/-- Settles O44: each offer puts one queue in place or leaves the line, by its class and the free entries; that queue
then stands behind a register in use, and gives its head to an empty one. -/
theorem queueAdmitsByClass : Obligations.QueueAdmitsByClass := by
  intro s d p hcan
  refine ⟨fun hreg => ⟨fun hroom => ?promptBehind, fun hfull => State.sendPrompt_of_full hcan hfull d p,
      fun hfree => ?routineBehind, fun hshort => State.offerRoutine_of_short hshort _,
      fun hwait => ?statusBehind, fun hwait => ?wantBehind⟩,
    fun hreg => ⟨fun hempty => ?idleLine, fun hroom x q hl => ?promptTaken,
      fun hfull => State.sendPrompt_of_full hcan hfull d p, fun hfree x q hl => ?routineTaken,
      fun hshort => State.offerRoutine_of_short hshort _, fun x q hwait hl => ?statusTaken,
      fun x q hwait hl => ?wantTaken⟩⟩
  case promptBehind =>
    rw [State.sendPrompt_of_room s d p ⟨hcan, hroom⟩, State.setQueue_of_reg hreg]
    exact ⟨rfl, rfl, rfl⟩
  case routineBehind =>
    rw [State.offerRoutine_of_free hcan hfree]
    exact State.setQueue_of_reg hreg _
  case statusBehind => exact (State.offerCoalesced_of_waiting hcan hwait _).trans (State.setQueue_of_reg hreg _)
  case wantBehind => exact (State.offerCoalesced_of_waiting hcan hwait _).trans (State.setQueue_of_reg hreg _)
  case idleLine =>
    exact ⟨State.sendPrompt_of_idle_line hcan hreg hempty d p, State.offerRoutine_of_idle_line hcan hreg hempty _,
      State.offerCoalesced_of_idle_line hcan hreg hempty _ _, State.offerCoalesced_of_idle_line hcan hreg hempty _ _⟩
  case promptTaken =>
    rw [State.sendPrompt_of_room s d p ⟨hcan, hroom⟩]
    exact State.setQueue_of_no_reg hreg hl
  case routineTaken =>
    rw [State.offerRoutine_of_free hcan hfree]
    exact State.setQueue_of_no_reg hreg hl
  case statusTaken => exact (State.offerCoalesced_of_waiting hcan hwait _).trans (State.setQueue_of_no_reg hreg hl)
  case wantTaken => exact (State.offerCoalesced_of_waiting hcan hwait _).trans (State.setQueue_of_no_reg hreg hl)

end Sys2Proof.Machine

/-! ASK and ACK (R177 to R179, R182): the top cause of a kind is the one that outranks the others, and an ACK makes of
it what its condition says. -/

namespace Sys2Proof.Machine

/-! ### Rank (R174, R177) -/

theorem Cause.mem_all (c : Cause) : c ∈ Cause.all := by cases c <;> decide

theorem Cause.ofCode_code (c : Cause) : Cause.ofCode (Cause.code c) = some c := by cases c <;> rfl

theorem Cause.code_injective : Function.Injective Cause.code := fun b c h =>
  Option.some.inj (by rw [← Cause.ofCode_code b, h, Cause.ofCode_code])

theorem Cause.all_pairwise_code : Cause.all.Pairwise (Cause.code · < Cause.code ·) := by decide

section
variable (s : State)

/-- Cause b ranks as high as c: by severity, and of equal severities by the order of the causes (R177). -/
def State.Outranks (b c : Cause) : Prop :=
  s.severity c < s.severity b ∨ s.severity c = s.severity b ∧ Cause.code b ≤ Cause.code c

/-- One step of the search for the top cause: `State.topCause_eq_foldl`. -/
def State.topStep (best : Option Cause) (c : Cause) : Option Cause :=
  match best with
  | none => some c
  | some b => if s.severity b < s.severity c then some c else some b

theorem State.topCause_eq_foldl (p : CauseState → Bool) :
    s.topCause p = (Cause.all.filter fun c => p (s.cause c).st).foldl s.topStep none := rfl

variable {s}

theorem State.Outranks.refl (c : Cause) : s.Outranks c c := .inr ⟨rfl, le_rfl⟩

theorem State.Outranks.severity_le {b c : Cause} (h : s.Outranks b c) : s.severity c ≤ s.severity b := by
  rcases h with hlt | ⟨heq, -⟩
  · exact hlt.le
  · exact heq.le

theorem State.Outranks.code_le {b c : Cause} (h : s.Outranks b c) (heq : s.severity c = s.severity b) :
    Cause.code b ≤ Cause.code c := by
  rcases h with hlt | ⟨-, hcode⟩
  · exact absurd heq hlt.ne
  · exact hcode

theorem State.outranks_of_le {b c : Cause} (hle : s.severity c ≤ s.severity b)
    (hcode : Cause.code b ≤ Cause.code c) : s.Outranks b c :=
  hle.lt_or_eq.imp_right fun heq => ⟨heq, hcode⟩

theorem State.Outranks.trans {a b c : Cause} (hab : s.Outranks a b) (hbc : s.Outranks b c) : s.Outranks a c := by
  rcases hab with hlt | ⟨heq, hcode⟩
  · exact .inl (hbc.severity_le.trans_lt hlt)
  · rcases hbc with hlt' | ⟨heq', hcode'⟩
    · exact .inl (heq ▸ hlt')
    · exact .inr ⟨heq'.trans heq, hcode.trans hcode'⟩

theorem State.Outranks.antisymm {b c : Cause} (h : s.Outranks b c) (h' : s.Outranks c b) : b = c := by
  have heq : s.severity c = s.severity b := le_antisymm h.severity_le h'.severity_le
  exact Cause.code_injective (le_antisymm (h.code_le heq) (h'.code_le heq.symm))

/-- Over causes in their order, the search ends at one that outranks all of them. -/
theorem State.foldl_topStep_outranks (l : List Cause) (b : Cause)
    (hl : (b :: l).Pairwise (Cause.code · < Cause.code ·)) :
    ∃ k ∈ b :: l, l.foldl s.topStep (some b) = some k ∧ ∀ c ∈ b :: l, s.Outranks k c := by
  induction l generalizing b with
  | nil => exact ⟨b, List.mem_cons_self, rfl, by simpa using State.Outranks.refl b⟩
  | cons d l ih =>
    obtain ⟨hb, hd⟩ := List.pairwise_cons.1 hl
    rw [List.foldl_cons]
    by_cases hlt : s.severity b < s.severity d
    · obtain ⟨k, hk, hfold, htop⟩ := ih d hd
      have hkb : s.Outranks k b := (htop d List.mem_cons_self).trans (.inl hlt)
      refine ⟨k, List.mem_cons_of_mem b hk, ?_, List.forall_mem_cons.2 ⟨hkb, htop⟩⟩
      rwa [State.topStep, if_pos hlt]
    · obtain ⟨hdl, hl'⟩ := List.pairwise_cons.1 hd
      have hbl : ∀ c ∈ l, Cause.code b < Cause.code c := fun c hc => hb c (List.mem_cons_of_mem d hc)
      obtain ⟨k, hk, hfold, htop⟩ := ih b (List.pairwise_cons.2 ⟨hbl, hl'⟩)
      obtain ⟨hkb, hkl⟩ := List.forall_mem_cons.1 htop
      have hbd : s.Outranks b d := State.outranks_of_le (not_lt.1 hlt) (hb d List.mem_cons_self).le
      refine ⟨k, List.cons_subset_cons b (List.subset_cons_self d l) hk, ?_,
        List.forall_mem_cons.2 ⟨hkb, List.forall_mem_cons.2 ⟨hkb.trans hbd, hkl⟩⟩⟩
      rwa [State.topStep, if_neg hlt]

variable {p : CauseState → Bool}

theorem State.topCause_of_none (h : ∀ c, p (s.cause c).st = false) : s.topCause p = none := by
  have hempty : (Cause.all.filter fun c => p (s.cause c).st) = [] := by simp [h]
  rw [State.topCause_eq_foldl, hempty, List.foldl_nil]

/-- Where some cause is of the kind, the top cause is of the kind and outranks all that are. -/
theorem State.topCause_of_some {c : Cause} (hc : p (s.cause c).st = true) :
    ∃ k, s.topCause p = some k ∧ p (s.cause k).st = true
      ∧ ∀ d, p (s.cause d).st = true → s.Outranks k d := by
  have hmem (d : Cause) : d ∈ (Cause.all.filter fun c => p (s.cause c).st) ↔ p (s.cause d).st = true := by
    simp [Cause.mem_all]
  have hsorted := Cause.all_pairwise_code.filter fun c => p (s.cause c).st
  rw [State.topCause_eq_foldl]
  cases hl : Cause.all.filter fun c => p (s.cause c).st with
  | nil => exact absurd ((hmem c).2 hc) (by rw [hl]; exact List.not_mem_nil)
  | cons b l =>
    rw [hl] at hsorted hmem
    obtain ⟨k, hk, hfold, htop⟩ := State.foldl_topStep_outranks (s := s) l b hsorted
    exact ⟨k, hfold, (hmem k).1 hk, fun d hd => htop d ((hmem d).2 hd)⟩

theorem State.topCause_of_outranks {k : Cause} (hk : p (s.cause k).st = true)
    (htop : ∀ c, p (s.cause c).st = true → s.Outranks k c) : s.topCause p = some k := by
  obtain ⟨b, hb, hpb, hbtop⟩ := State.topCause_of_some hk
  rw [hb, (hbtop k hk).antisymm (htop b hpb)]

end

/-! ### The level (R182) -/

section
variable {s t : State}

theorem State.severity_congr (hboot : t.boot = s.boot) : t.severity = s.severity := by
  funext c; simp only [State.severity, hboot]

theorem State.levelNow_congr (hboot : t.boot = s.boot) (hcause : ∀ c, t.cause c = s.cause c) :
    t.levelNow = s.levelNow := by
  simp only [State.levelNow, State.topCause, State.severity_congr hboot, hcause]

@[simp] theorem State.level_recomputeLevel (s : State) : s.recomputeLevel.att.level = s.levelNow := by
  unfold State.recomputeLevel
  split
  next h => exact h.symm
  next => rw [State.att_queueStatus]

@[simp] theorem State.levelNow_recomputeLevel (s : State) : s.recomputeLevel.levelNow = s.levelNow :=
  State.levelNow_congr (State.get_recomputeLevel (b := .boot) s (by decide) (by decide)) s.cause_recomputeLevel

end

/-! ### A cause made ABSENT (R179) -/

section
variable {s : State} {k : Cause}

/-- Besides the cause, the plain-loss marker hangs on LOST-RACK (R94), and the lock on BELT-OVERLOAD and
BELT-OVERRUN (R76). -/
theorem State.absentOne_of_not_absent (h : (s.cause k).st ≠ .absent) :
    s.absentOne k = { s.changeCause k { s.cause k with st := .absent } with
      ex := { s.ex with plainLoss := s.ex.plainLoss && k != .lostRack }
      dr := { s.dr with lock :=
        if k = .beltOverload ∧ s.dr.lock = .failSlow ∨ k = .beltOverrun ∧ s.dr.lock = .failFast
        then .unlocked else s.dr.lock } } := by
  unfold State.absentOne
  rw [if_neg h]
  by_cases hlost : k = .lostRack
  · subst hlost
    have hmarker : (s.ex.plainLoss && Cause.lostRack != .lostRack) = false := Bool.and_false _
    rw [hmarker]
    rfl
  · have hmarker : (s.ex.plainLoss && k != .lostRack) = s.ex.plainLoss := by simp [hlost]
    rw [hmarker]
    cases k
    case lostRack => exact absurd rfl hlost
    case beltOverload =>
      by_cases hlock : s.dr.lock = .failSlow
      · rw [if_pos (by simp [hlock])]; exact if_pos hlock
      · rw [if_neg (by simp [hlock])]; exact if_neg hlock
    case beltOverrun =>
      by_cases hlock : s.dr.lock = .failFast
      · rw [if_pos (by simp [hlock])]; exact if_pos hlock
      · rw [if_neg (by simp [hlock])]; exact if_neg hlock
    all_goals rfl

theorem State.cause_absentOne (h : (s.cause k).st ≠ .absent) (c : Cause) :
    (s.absentOne k).cause c = if c = k then { s.cause k with st := .absent } else s.cause c := by
  rw [State.absentOne_of_not_absent h]
  exact State.cause_changeCause s k c _

theorem State.absentAll_singleton (s : State) (k : Cause) : s.absentAll [k] = (s.absentOne k).recomputeLevel := rfl

theorem State.cause_absentAll_singleton (h : (s.cause k).st ≠ .absent) (c : Cause) :
    (s.absentAll [k]).cause c = if c = k then { s.cause k with st := .absent } else s.cause c := by
  rw [State.absentAll_singleton, State.cause_recomputeLevel, State.cause_absentOne h]

theorem State.ex_absentAll_singleton (h : (s.cause k).st ≠ .absent) :
    (s.absentAll [k]).ex = { s.ex with plainLoss := s.ex.plainLoss && k != .lostRack } := by
  rw [State.absentAll_singleton]
  refine (State.get_recomputeLevel (b := .ex) _ (by decide) (by decide)).trans ?_
  rw [State.absentOne_of_not_absent h]
  rfl

theorem State.dr_absentAll_singleton (h : (s.cause k).st ≠ .absent) :
    (s.absentAll [k]).dr = { s.dr with lock :=
      if k = .beltOverload ∧ s.dr.lock = .failSlow ∨ k = .beltOverrun ∧ s.dr.lock = .failFast
      then .unlocked else s.dr.lock } := by
  rw [State.absentAll_singleton]
  refine (State.get_recomputeLevel (b := .dr) _ (by decide) (by decide)).trans ?_
  rw [State.absentOne_of_not_absent h]
  rfl

theorem State.level_absentAll (s : State) (cs : List Cause) :
    (s.absentAll cs).att.level = (s.absentAll cs).levelNow := by
  unfold State.absentAll
  rw [State.level_recomputeLevel, State.levelNow_recomputeLevel]

end

/-! ### ACK (R178) -/

section
variable {s : State} {k : Cause}

theorem State.ackTop_of_none (h : ∀ c, (s.cause c).st ≠ .pending) : s.ackTop = s := by
  have hnone : s.topCause (· == .pending) = none := State.topCause_of_none fun c => beq_false_of_ne (h c)
  unfold State.ackTop
  rw [hnone]

theorem State.ackTop_of_present (htop : s.topCause (· == .pending) = some k)
    (hpresent : Cause.standing k = true ∧ (s.cause k).present = true) :
    s.ackTop = s.changeCause k { s.cause k with st := .pendingAck } := by
  unfold State.ackTop
  rw [htop]
  exact if_pos (Bool.and_eq_true_iff.2 hpresent)

theorem State.ackTop_of_over (htop : s.topCause (· == .pending) = some k)
    (hover : ¬(Cause.standing k = true ∧ (s.cause k).present = true)) : s.ackTop = s.absentAll [k] := by
  unfold State.ackTop
  rw [htop]
  exact if_neg fun hand => hover (Bool.and_eq_true_iff.1 hand)

/-- Beyond the causes, an ACK writes only where making a cause ABSENT can. -/
theorem State.get_ackTop {b : Block} (s : State) (h : b ≠ .att) (h₁ : b ≠ .ex) (h₂ : b ≠ .dr)
    (h₃ : b ≠ .line) : s.ackTop.get b = s.get b := by
  unfold State.ackTop
  split
  next => rfl
  next =>
    split
    · exact State.get_changeCause s _ _ h
    · exact State.get_absentAll s _ h h₁ h₂ h₃

/-- What an ACK of the top PENDING cause does, where the condition is present and where it is not. -/
theorem State.ackTop_acts_on_top (hk : (s.cause k).st = .pending) (htop : s.topCause (· == .pending) = some k) :
    (s.ackTop.cause k).st = (if Cause.standing k = true ∧ (s.cause k).present = true then .pendingAck else .absent)
      ∧ (∀ c, c ≠ k → s.ackTop.cause c = s.cause c)
      ∧ s.ackTop.ex = { s.ex with plainLoss := s.ex.plainLoss && k != .lostRack }
      ∧ s.ackTop.dr = { s.dr with lock :=
          if k = .beltOverload ∧ s.dr.lock = .failSlow ∨ k = .beltOverrun ∧ s.dr.lock = .failFast
          then .unlocked else s.dr.lock }
      ∧ ((s.ackTop.cause k).st = .absent → s.ackTop.att.level = s.ackTop.levelNow)
      ∧ ((s.ackTop.cause k).st ≠ .absent → s.ackTop.att.level = s.att.level) := by
  by_cases hpresent : Cause.standing k = true ∧ (s.cause k).present = true
  case pos =>
    have hlatched {c : Cause} (hc : Cause.standing c = false) : k ≠ c := fun heq => by
      rw [← heq, hpresent.1] at hc; exact Bool.noConfusion hc
    have hlost : k ≠ .lostRack := hlatched rfl
    have hslow : k ≠ .beltOverload := hlatched rfl
    have hfast : k ≠ .beltOverrun := hlatched rfl
    have hcause (c : Cause) := State.cause_changeCause s k c { s.cause k with st := .pendingAck }
    have hst : ((s.changeCause k { s.cause k with st := .pendingAck }).cause k).st = .pendingAck := by
      rw [hcause, if_pos rfl]
    rw [State.ackTop_of_present htop hpresent, if_pos hpresent]
    refine ⟨hst, fun c hc => by rw [hcause, if_neg hc], ?ex, ?dr, fun habs => ?stays, fun _ => rfl⟩
    case ex =>
      rw [bne_iff_ne.2 hlost, Bool.and_true]
      rfl
    case dr =>
      rw [if_neg (by simp [hslow, hfast])]
      rfl
    case stays => exact absurd (hst.symm.trans habs) (by decide)
  case neg =>
    have hne : (s.cause k).st ≠ .absent := by rw [hk]; decide
    have hcause (c : Cause) := State.cause_absentAll_singleton hne c
    have hst : ((s.absentAll [k]).cause k).st = .absent := by rw [hcause, if_pos rfl]
    rw [State.ackTop_of_over htop hpresent, if_neg hpresent]
    exact ⟨hst, fun c hc => by rw [hcause, if_neg hc], State.ex_absentAll_singleton hne,
      State.dr_absentAll_singleton hne, fun _ => State.level_absentAll s [k], fun hkeep => absurd hst hkeep⟩

end

/-! ### The answer to ASK (R177) -/

section
variable {s : State}

theorem State.askAnswer_of_absent (h : ∀ c, (s.cause c).st = .absent) :
    s.askAnswer = { cause := none, severity := 0, detail := 0, repeats := 0, reply := true, pendingCount := 0 } := by
  have hnone : s.topCause (· != .absent) = none := State.topCause_of_none fun c => by simp [h c]
  unfold State.askAnswer
  rw [hnone]

theorem State.askAnswer_of_top {k : Cause} (htop : s.topCause (· != .absent) = some k) :
    s.askAnswer = s.attentionOf k true := by
  unfold State.askAnswer
  rw [htop]

theorem State.reply_askAnswer (s : State) : s.askAnswer.reply = true := by
  unfold State.askAnswer
  split <;> rfl

end

/-! ### ASK, ACK and the ACK key as commands (R168, R177, R180, R181) -/

section
variable {s : State} {h : Hdr}

theorem exec_ask_eq (s : State) (h : Hdr) : exec (.ask h) s = live s (s.receive h .ask) := rfl

theorem exec_ack_eq (s : State) (h : Hdr) : exec (.ack h) s = live s (s.receive h .ack) := rfl

theorem State.obeys_refresh (s : State) (x y : Station) : (s.refresh x).obeys y = s.obeys y := by
  unfold State.obeys; rw [State.boot_refresh]

/-- A frame that only its addressee obeys acts by its own rule on the refreshed state. -/
theorem State.receive_toMeAlone {p : Payload} (f : State → State) (hh : s.HearsAlone h)
    (hp : ∀ t : State, t.deliverFrame h p = if t.toMeAlone h.dst then f t else t) :
    live s (s.receive h p) = .next (State.settle (f (s.refresh h.src))) := by
  rw [State.receive_of_hears hh.1, hp, if_pos (State.toMeAlone_refresh hh)]

theorem exec_ask_of_alone (hh : s.HearsAlone h) :
    exec (.ask h) s = .next (State.settle
      ((s.refresh h.src).sendPrompt h.src (.attention (s.refresh h.src).askAnswer))) := by
  have ⟨⟨_, hmode, _⟩, _⟩ := hh
  have hmode' : (s.refresh h.src).boot.mode ≠ .loading := by rwa [State.boot_refresh]
  rw [exec_ask_eq, State.receive_toMeAlone (fun t => t.onAsk h.src) hh fun _ => rfl, State.onAsk, if_neg hmode']

theorem exec_ask_of_broadcast (hh : s.Hears h) (hall : h.dst = 0) :
    exec (.ask h) s = .next (State.settle (s.refresh h.src)) := by
  have hother : ¬(s.refresh h.src).toMeAlone h.dst = true := by simp [State.toMeAlone, hall]
  rw [exec_ask_eq, State.receive_of_hears hh, State.deliverFrame, if_neg hother]

theorem exec_ack_of_alone (hh : s.HearsAlone h) :
    exec (.ack h) s = .next (State.settle (if s.obeys h.src then (s.refresh h.src).ackTop else s.refresh h.src)) := by
  rw [exec_ack_eq, State.receive_toMeAlone (fun t => t.onAck h.src) hh fun _ => rfl, State.onAck, State.obeys_refresh]

theorem exec_ackKeyRelease_eq (s : State) : exec .ackKeyRelease s = live s s.doAckKeyRelease := rfl

theorem KeySt.recognise_of_releaseDue {k : KeySt} (h : k.releaseDue = true) :
    k.recognise = { k with pressed := some false } := by
  simp only [KeySt.releaseDue, Bool.and_eq_true, Bool.not_eq_true'] at h
  obtain ⟨⟨-, hcand⟩, -⟩ := h
  rw [KeySt.recognise, hcand]

theorem State.holdClear_of_short {k : AckHold} (hk : s.bay.ackHold = some k)
    (hshort : k.ticks < Config.holdClear) : s.holdClear = s := by
  have hdue : k.clearDue = false := by
    rw [AckHold.clearDue, decide_eq_false (Nat.not_le.2 hshort), Bool.and_false]
  simp only [State.holdClear, hk, hdue, Bool.false_eq_true, if_false]

theorem State.holdFlush_of_short {k : AckHold} (hk : s.bay.ackHold = some k)
    (hshort : k.ticks < Config.holdFlush) : s.holdFlush = s := by
  have hdue : k.flushDue = false := by
    rw [AckHold.flushDue, decide_eq_false (Nat.not_le.2 hshort), Bool.and_false]
  simp only [State.holdFlush, hk, hdue, Bool.false_eq_true, if_false]

/-- A press let go before 300 ticks has acted as neither CLEAR nor FLUSH, and is an ACK. -/
theorem exec_ackKeyRelease_of_short {k : AckHold} (hr : s.Runs) (hdue : s.bay.ackKey.releaseDue = true)
    (hk : s.bay.ackHold = some k) (hshort : k.ticks < 300) :
    exec .ackKeyRelease s = .next (State.settle (State.ackTop { s with bay := { s.bay with
      ackKey := { s.bay.ackKey with pressed := some false }, ackHold := none } })) := by
  have hclear : k.ticks < Config.holdClear := hshort
  have hflush : k.ticks < Config.holdFlush := hclear.trans (by decide)
  rw [exec_ackKeyRelease_eq, live_of_runs hr, State.doAckKeyRelease, if_pos hdue]
  simp only [hk, State.holdClear_of_short hk hclear, State.holdFlush_of_short hk hflush,
    KeySt.recognise_of_releaseDue hdue]
  rw [if_pos hclear]

end

/-- Settles O47: the answer is that of the top cause that is not ABSENT, or of none, and only an ASK to this station
alone is answered. -/
theorem askNamesTheTopCause : Obligations.AskNamesTheTopCause := by
  refine ⟨fun s h hh => ?alone, fun s h hh hall => exec_ask_of_broadcast hh hall⟩
  refine ⟨exec_ask_of_alone hh, State.reply_askAnswer _, State.askAnswer_of_absent, fun c hc => ?named⟩
  obtain ⟨k, htop, hk, hrank⟩ := State.topCause_of_some (p := (· != .absent)) (bne_iff_ne.2 hc)
  have hkc : (s.refresh h.src).Outranks k c := hrank c (bne_iff_ne.2 hc)
  rw [State.askAnswer_of_top htop]
  exact ⟨k, rfl, bne_iff_ne.1 hk, hkc.severity_le, hkc.code_le, rfl, rfl, rfl, rfl⟩

/-- Settles O48: a PENDING cause that outranks the PENDING ones is the top one an ACK acts on; the frame of a panel
and the short press both run that ACK. -/
theorem ackActsOnTheTopPendingCause : Obligations.AckActsOnTheTopPendingCause := by
  refine ⟨fun v => ⟨State.ackTop_of_none, fun k hk hrank => ?acts, ?track, ?eyes, ?en, ?cu⟩,
    fun s h hh => exec_ack_of_alone hh, fun s k hr hdue hk hshort => exec_ackKeyRelease_of_short hr hdue hk hshort⟩
  case acts =>
    have htop : v.topCause (· == .pending) = some k :=
      State.topCause_of_outranks (beq_iff_eq.2 hk) fun c hc => hrank c (beq_iff_eq.1 hc)
    exact State.ackTop_acts_on_top hk htop
  case track => exact State.get_ackTop (b := .track) v (by decide) (by decide) (by decide) (by decide)
  case eyes => exact State.get_ackTop (b := .eyes) v (by decide) (by decide) (by decide) (by decide)
  case en => exact State.get_ackTop (b := .en) v (by decide) (by decide) (by decide) (by decide)
  case cu => exact State.get_ackTop (b := .cu) v (by decide) (by decide) (by decide) (by decide)

end Sys2Proof.Machine

/-! What no operation breaks (R12, R36, R42, R62, R162, R164, R183): one relation between the state before an
operation and the state after it, proved once for each operation of the model, from which the invariants of a step
follow. An operation may leave the mark group behind (`q` false) or park the belt only where it holds (`p`). -/

namespace Sys2Proof.Machine

/-! ### The parts of the invariants that single operations keep -/

/-- The drive level within its range, and 0 in HOLD and PARK: what holds of the drive inside a step too. -/
def State.DriveOk (s : State) : Prop :=
  s.dr.level ≤ 1023 ∧ s.dr.resume ≤ 1023 ∧ s.boot.prof.startLevel ≤ 1023
    ∧ ((s.dr.belt = .hold ∨ s.dr.belt = .park) → s.dr.level = 0)

/-- No rack number stands twice among the records whose names are outside a set. -/
def State.NumbersBut (s : State) (X : Nat → Prop) : Prop :=
  s.track.Pairwise fun a b =>
    X a.id ∨ X b.id ∨ a.number = notag ∨ b.number = notag ∨ a.number ≠ b.number

/-- What an operation from s to t upholds. -/
structure Upholds (p q n : Prop) (s t : State) : Prop where
  lamp : s.LampSound → t.LampSound
  line : s.LineSound → t.LineSound
  drive : p → s.DriveOk → t.DriveOk
  track : s.TrackSound → t.TrackSound
  names : s.NamesSound → t.NamesSound
  numbers : n → s.NamesSound → ∀ X, s.NumbersBut X → t.NumbersBut X
  head : q → s.HeadSound → t.HeadSound

section
variable {p q n : Prop} {s t u : State}

theorem Upholds.refl (s : State) : Upholds p q n s s :=
  ⟨id, id, fun _ => id, id, id, fun _ _ _ => id, fun _ => id⟩

theorem Upholds.trans (h : Upholds p q n s t) (k : Upholds p q n t u) : Upholds p q n s u where
  lamp := k.lamp ∘ h.lamp
  line := k.line ∘ h.line
  drive hp := k.drive hp ∘ h.drive hp
  track := k.track ∘ h.track
  names := k.names ∘ h.names
  numbers hn hs X := k.numbers hn (h.names hs) X ∘ h.numbers hn hs X
  head hq := k.head hq ∘ h.head hq

theorem Upholds.ite {c : Prop} [Decidable c] (h : c → Upholds p q n s t) (k : ¬ c → Upholds p q n s u) :
    Upholds p q n s (if c then t else u) := by
  split
  · exact h ‹_›
  · exact k ‹_›

/-- A change that is made or not. -/
theorem Upholds.when {c : Prop} [Decidable c] (h : c → Upholds p q n s t) :
    Upholds p q n s (if c then t else s) := .ite h fun _ => .refl s

theorem Upholds.unless {c : Prop} [Decidable c] (h : ¬ c → Upholds p q n s t) :
    Upholds p q n s (if c then s else t) := .ite (fun _ => .refl s) h

theorem Upholds.foldl {α : Type} {f : State → α → State} (hf : ∀ t x, Upholds p q n t (f t x)) (l : List α) :
    ∀ s, Upholds p q n s (l.foldl f s) := by
  induction l with
  | nil => exact .refl
  | cons x l ih => exact fun s => (hf s x).trans (ih _)

/-- The head may stay behind: what upholds everything upholds the rest. -/
theorem Upholds.loose (h : Upholds p q n s t) : Upholds p False n s t :=
  ⟨h.lamp, h.line, h.drive, h.track, h.names, h.numbers, nofun⟩

theorem Upholds.mono {p' q' n' : Prop} (h : Upholds p q n s t) (hp : p' → p) (hq : q' → q) (hn : n' → n) :
    Upholds p' q' n' s t :=
  ⟨h.lamp, h.line, h.drive ∘ hp, h.track, h.names, h.numbers ∘ hn, h.head ∘ hq⟩

/-- The head is brought together with the mark group at the end. -/
theorem Upholds.tighten (h : Upholds p False n s t) (k : s.NamesSound → t.HeadSound) : Upholds p q n s t :=
  ⟨h.lamp, h.line, h.drive, h.track, h.names, h.numbers, fun _ hs => k hs.1⟩

/-! ### Changes of one block -/

/-- The parts of a state that the invariants read. -/
def State.core (s : State) :=
  (s.boot.prof, s.boot.mode, s.boot.loaded, s.track, s.nextId, s.marks.owner, (s.dr.belt, s.dr.level, s.dr.resume),
    s.line.queue, s.line.reg, s.att.causes, s.att.lamp)

/-- A change beside what the invariants read. -/
theorem Upholds.aside (h : t.core = s.core) : Upholds p q n s t := by
  simp only [State.core, Prod.mk.injEq] at h
  obtain ⟨hb, hm, hl, ht, hi, ho, ⟨hd, hv, hr⟩, hq, hg, hc, hp⟩ := h
  have hh : t.head = s.head := by unfold State.head; rw [ht]
  have ha : t.attState = s.attState := by unfold State.attState State.cause; rw [hc]
  have hN : s.NamesSound → t.NamesSound := by unfold State.NamesSound; rw [ht, hi]; exact id
  refine ⟨?_, ?_, ?_, ?_, hN, ?_, fun _ k => ⟨hN k.1, ?_⟩⟩
  · unfold State.LampSound; rw [hp, ha]; exact id
  · unfold State.LineSound; rw [hq, hg]; exact id
  · unfold State.DriveOk; rw [hb, hd, hv, hr]; exact fun _ => id
  · unfold State.TrackSound; rw [hb, hm, hl, ht]; exact id
  · unfold State.NumbersBut; rw [ht]; exact fun _ _ _ => id
  · rw [hh, ho]; exact k.2

theorem Upholds.after (k : Upholds p q n t u) (h : t.core = s.core) : Upholds p q n s u := (Upholds.aside h).trans k

/-- The attention unit replaced. -/
theorem Upholds.att (a : Attention) (h : s.LampSound → State.LampSound { s with att := a }) :
    Upholds p q n s { s with att := a } :=
  ⟨h, id, fun _ => id, id, id, fun _ _ _ => id, fun _ => id⟩

/-- The line interface replaced. -/
theorem Upholds.line' (l : Line) (h : s.LineSound → State.LineSound { s with line := l }) :
    Upholds p q n s { s with line := l } :=
  ⟨id, h, fun _ => id, id, id, fun _ _ _ => id, fun _ => id⟩

/-- The drive unit replaced. -/
theorem Upholds.dr (d : Drive) (h : p → s.DriveOk → State.DriveOk { s with dr := d }) :
    Upholds p q n s { s with dr := d } :=
  ⟨id, id, h, id, id, fun _ _ _ => id, fun _ => id⟩

/-- The mark group replaced, its owner another one. -/
theorem Upholds.marks (m : MarkGroup) : Upholds p False n s { s with marks := m } :=
  ⟨id, id, fun _ => id, id, id, fun _ _ _ => id, nofun⟩

end

/-! ### The attention lamp -/

/-- The lamp's pin and its half go with its state. -/
def Lamp.Ok (l : Lamp) : Prop :=
  (l.st = .off → l.high = false ∧ l.left = none) ∧ (l.st = .steady → l.high = true ∧ l.left = none)
    ∧ (l.st = .flash → l.left.isSome = true)

theorem State.lampSound_iff (s : State) : s.LampSound ↔ s.att.lamp.st = s.attState ∧ s.att.lamp.Ok := Iff.rfl

theorem Lamp.ok_to {l : Lamp} (h : l.Ok) (x : LampState) (k : Nat) : (l.to x k).Ok := by
  cases x with
  | off => exact ⟨fun _ => ⟨rfl, rfl⟩, nofun, nofun⟩
  | steady => exact ⟨nofun, fun _ => ⟨rfl, rfl⟩, nofun⟩
  | flash =>
    unfold Lamp.to
    dsimp only
    split
    · exact h
    · exact ⟨nofun, nofun, fun _ => rfl⟩

theorem Lamp.ok_toggle {l : Lamp} (h : l.Ok) {k : Nat} (hl : l.left.isSome = true) : (l.toggle k).Ok := by
  obtain ⟨ho, hs, -⟩ := h
  refine ⟨fun e => ?_, fun e => ?_, fun _ => rfl⟩
  · rw [(ho e).2] at hl; cases hl
  · rw [(hs e).2] at hl; cases hl

theorem Lamp.ok_tick {l : Lamp} (h : l.Ok) : l.tick.Ok := by
  obtain ⟨ho, hs, hf⟩ := h
  refine ⟨fun e => ⟨(ho e).1, ?_⟩, fun e => ⟨(hs e).1, ?_⟩, fun e => ?_⟩
  · show countDown l.left = none; rw [(ho e).2]; rfl
  · show countDown l.left = none; rw [(hs e).2]; rfl
  · show (countDown l.left).isSome = true; rw [countDown, Option.isSome_map]; exact hf e

theorem State.attState_congr {s t : State} (h : ∀ c, (t.cause c).st = (s.cause c).st) : t.attState = s.attState := by
  unfold State.attState; simp only [h]

section
variable {p q n : Prop} (s : State)

/-- The attention lamp evaluated afresh on any causes agrees with them. -/
theorem State.lampSound_attLampStep (h : s.att.lamp.Ok) : s.attLampStep.LampSound :=
  ⟨Lamp.st_to _ _ _, Lamp.ok_to h _ _⟩

theorem State.attLampStep_upholds : Upholds p q n s s.attLampStep :=
  .att _ fun h => s.lampSound_attLampStep h.2

theorem State.changeCause_upholds (c : Cause) (e : CauseEntry) : Upholds p q n s (s.changeCause c e) :=
  .att _ fun h => (s.setCause c e).lampSound_attLampStep h.2

/-- A cause entry whose state stays. -/
theorem State.setCause_upholds (c : Cause) (e : CauseEntry) (h : e.st = (s.cause c).st) :
    Upholds p q n s (s.setCause c e) :=
  .att _ fun hs => by
    have ha : (s.setCause c e).attState = s.attState := State.attState_congr fun k => by
      rw [State.cause_setCause]; split
      · rename_i hk; rw [hk, h]
      · rfl
    exact ⟨hs.1.trans ha.symm, hs.2⟩

end

/-! ### The send queue -/

/-- The queue within its bounds and its order. -/
def QueueOk (l : List Frame) : Prop :=
  l.length ≤ 16
    ∧ (∃ a b, l = a ++ b ∧ (∀ f ∈ a, Payload.prompt f.payload = true) ∧ ∀ f ∈ b, Payload.prompt f.payload = false)
    ∧ AtMostOne (fun f => Payload.isStatus f.payload) l ∧ AtMostOne (fun f => Payload.isWant f.payload) l

/-- The register within its bounds. -/
def RegOk (r : Option SendReg) : Prop := ∀ x, r = some x → x.attempts ≤ 15 ∧ x.backoff ≤ 16

theorem RegOk.none : RegOk none := fun _ h => absurd h.symm (Option.some_ne_none _)

/-- A frame that has just come into the register. -/
theorem RegOk.fresh (f : Frame) : RegOk (some ⟨f, 0, 0, false⟩) := fun x h => by
  rw [← Option.some.inj h]
  exact ⟨Nat.zero_le _, Nat.zero_le _⟩

theorem State.lineSound_iff (s : State) :
    s.LineSound ↔ QueueOk s.line.queue ∧ (s.line.reg = none → s.line.queue = []) ∧ RegOk s.line.reg :=
  ⟨fun ⟨hlen, hsplit, hstatus, hwant, hnone, hreg⟩ => ⟨⟨hlen, hsplit, hstatus, hwant⟩, hnone, hreg⟩,
    fun ⟨⟨hlen, hsplit, hstatus, hwant⟩, hnone, hreg⟩ => ⟨hlen, hsplit, hstatus, hwant, hnone, hreg⟩⟩

theorem QueueOk.tail {f : Frame} {l : List Frame} (h : QueueOk (f :: l)) : QueueOk l := by
  obtain ⟨hn, ⟨a, b, hab, ha, hb⟩, hs, hw⟩ := h
  refine ⟨(Nat.le_succ _).trans hn, ?_, ?_, ?_⟩
  · cases a with
    | nil =>
      refine ⟨[], l, rfl, fun g hg => absurd hg List.not_mem_nil, fun g hg => hb g ?_⟩
      rw [List.nil_append] at hab
      exact hab ▸ List.mem_cons_of_mem f hg
    | cons g a =>
      obtain ⟨-, hl⟩ := List.cons.inj hab
      exact ⟨a, b, hl, fun x hx => ha x (List.mem_cons_of_mem g hx), hb⟩
  · exact (((List.sublist_cons_self f l).filter _).length_le).trans hs
  · exact (((List.sublist_cons_self f l).filter _).length_le).trans hw

/-- A queue put in place, or the register emptied: the head of the queue moves into an empty register. -/
theorem Line.refill_ok {l : Line} (hq : QueueOk l.queue) (hr : RegOk l.reg) :
    QueueOk l.refill.queue ∧ (l.refill.reg = none → l.refill.queue = []) ∧ RegOk l.refill.reg := by
  unfold Line.refill
  split
  · rename_i f q hg hl
    rw [hl] at hq
    exact ⟨hq.tail, fun h => absurd h (Option.some_ne_none _), RegOk.fresh f⟩
  · rename_i hx
    refine ⟨hq, fun hn => ?_, hr⟩
    cases hl : l.queue with
    | nil => rfl
    | cons f q => exact (hx f q hn hl).elim

section
variable {p q n : Prop} (s : State)

theorem State.setQueue_upholds (l : List Frame) (h : QueueOk s.line.queue → QueueOk l) :
    Upholds p q n s (s.setQueue l) :=
  .line' _ fun hs => by
    obtain ⟨hq, -, hr⟩ := s.lineSound_iff.1 hs
    exact (State.lineSound_iff _).2 (Line.refill_ok (h hq) hr)

end

theorem filter_append_of_order {l a b : List Frame} (h : l = a ++ b) (ha : ∀ f ∈ a, Payload.prompt f.payload = true)
    (hb : ∀ f ∈ b, Payload.prompt f.payload = false) :
    l.filter (fun f => Payload.prompt f.payload) = a ∧ l.filter (fun f => !Payload.prompt f.payload) = b := by
  subst h
  constructor
  · rw [List.filter_append, List.filter_eq_self.2 ha, List.filter_eq_nil_iff.2 (fun f hf => by simp [hb f hf]),
      List.append_nil]
  · rw [List.filter_append, List.filter_eq_nil_iff.2 (fun f hf => by simp [ha f hf]),
      List.filter_eq_self.2 (fun f hf => by simp [hb f hf]), List.nil_append]

theorem Payload.not_status_of_prompt {x : Payload} (h : Payload.prompt x = true) :
    Payload.isStatus x = false := by
  cases x <;> first | rfl | cases h

theorem Payload.not_want_of_prompt {x : Payload} (h : Payload.prompt x = true) :
    Payload.isWant x = false := by
  cases x <;> first | rfl | cases h

/-- A PROMPT frame joins behind the PROMPT frames. -/
theorem QueueOk.insertPrompt {l : List Frame} (h : QueueOk l) {f : Frame} (hf : Payload.prompt f.payload = true)
    (hn : l.length < 16) : QueueOk (insertPrompt l f) := by
  obtain ⟨-, ⟨a, b, hab, ha, hb⟩, hs, hw⟩ := h
  obtain ⟨ea, eb⟩ := filter_append_of_order hab ha hb
  have e : Machine.insertPrompt l f = (a ++ [f]) ++ b := by unfold Machine.insertPrompt; rw [ea, eb]
  have count (t : Frame → Bool) (ht : t f = false) :
      ((a ++ [f]) ++ b).filter t = l.filter t := by
    simp [hab, List.filter_append, ht]
  rw [e]
  refine ⟨?_, ⟨_, _, rfl, ?_, hb⟩, ?_, ?_⟩
  · rw [hab] at hn; simp at hn ⊢; omega
  · intro g hg
    rcases List.mem_append.1 hg with hg | hg
    · exact ha g hg
    · rw [List.mem_singleton.1 hg]; exact hf
  · unfold AtMostOne; rw [count _ (Payload.not_status_of_prompt hf)]; exact hs
  · unfold AtMostOne; rw [count _ (Payload.not_want_of_prompt hf)]; exact hw

/-- A ROUTINE frame joins at the end, the only one of its kind where its kind has only one. -/
theorem QueueOk.append {l : List Frame} (h : QueueOk l) {f : Frame} (hf : Payload.prompt f.payload = false)
    (hn : l.length < 16) (hs : Payload.isStatus f.payload = true → ∀ g ∈ l, Payload.isStatus g.payload = false)
    (hw : Payload.isWant f.payload = true → ∀ g ∈ l, Payload.isWant g.payload = false) : QueueOk (l ++ [f]) := by
  obtain ⟨-, ⟨a, b, hab, ha, hb⟩, ks, kw⟩ := h
  have one (t : Frame → Bool) (k : AtMostOne t l) (ht : t f = true → ∀ g ∈ l, t g = false) :
      AtMostOne t (l ++ [f]) := by
    unfold AtMostOne
    rw [List.filter_append]
    cases e : t f with
    | false => simpa [e, AtMostOne] using k
    | true => rw [List.filter_eq_nil_iff.2 (fun g hg => by simp [ht e g hg])]; simp [e]
  refine ⟨by simp; omega, ⟨a, b ++ [f], by rw [hab, List.append_assoc], ha, ?_⟩, one _ ks hs, one _ kw hw⟩
  intro g hg
  rcases List.mem_append.1 hg with hg | hg
  · exact hb g hg
  · rw [List.mem_singleton.1 hg]; exact hf

/-- A frame that waits gives its place to one of its kind. -/
theorem QueueOk.replace {l : List Frame} (h : QueueOk l) {f : Frame} {same : Payload → Bool}
    (hf : Payload.prompt f.payload = false) (hp : ∀ x, same x = true → Payload.prompt x = false)
    (hs : ∀ x, same x = true → Payload.isStatus x = Payload.isStatus f.payload)
    (hw : ∀ x, same x = true → Payload.isWant x = Payload.isWant f.payload) :
    QueueOk (l.map fun g => if same g.payload then f else g) := by
  obtain ⟨hn, ⟨a, b, hab, ha, hb⟩, ks, kw⟩ := h
  have one (t : Payload → Bool) (k : AtMostOne (fun g => t g.payload) l)
      (ht : ∀ x, same x = true → t x = t f.payload) :
      AtMostOne (fun g => t g.payload) (l.map fun g => if same g.payload then f else g) := by
    unfold AtMostOne
    rw [List.filter_map, List.length_map]
    have e : ((fun g : Frame => t g.payload) ∘ fun g => if same g.payload then f else g) = fun g => t g.payload := by
      funext g
      show t (if same g.payload then f else g).payload = t g.payload
      split
      · rename_i e; exact (ht _ e).symm
      · rfl
    rw [e]
    exact k
  have ord (m : List Frame) (x : Bool) (hm : ∀ g ∈ m, Payload.prompt g.payload = x) :
      ∀ g ∈ m.map (fun g => if same g.payload then f else g), Payload.prompt g.payload = x := by
    intro g hg
    obtain ⟨y, hy, rfl⟩ := List.mem_map.1 hg
    split
    · rename_i e; rw [hf, ← hm y hy, hp _ e]
    · exact hm y hy
  refine ⟨by simpa using hn, ⟨_, _, by rw [hab, List.map_append], ord a true ha, ord b false hb⟩, one _ ks hs,
    one _ kw hw⟩

section
variable {p q n : Prop} (s : State)

theorem State.offerRoutine_upholds (f : Frame) (hf : Payload.prompt f.payload = false)
    (hs : s.canQueue = true → Payload.isStatus f.payload = true → ∀ g ∈ s.line.queue,
      Payload.isStatus g.payload = false)
    (hw : s.canQueue = true → Payload.isWant f.payload = true → ∀ g ∈ s.line.queue,
      Payload.isWant g.payload = false) : Upholds p q n s (s.offerRoutine f) := by
  unfold State.offerRoutine
  refine .when fun hc => ?_
  obtain ⟨hq, hn⟩ := Bool.and_eq_true_iff.1 hc
  have hn' : s.line.queue.length + 4 ≤ 16 := by simpa [Config.queueSize] using hn
  exact s.setQueue_upholds _ fun h => h.append hf (by omega) (hs hq) (hw hq)

/-- No frame of a kind waits where none was found to give its place. -/
theorem State.none_waits {same : Payload → Bool}
    (h : ¬ (s.canQueue && s.line.queue.any fun g => same g.payload) = true) (hq : s.canQueue = true) :
    ∀ g ∈ s.line.queue, same g.payload = false := by
  intro g hg
  by_contra hk
  exact h (by rw [hq, Bool.true_and, List.any_eq_true]; exact ⟨g, hg, by simpa using hk⟩)

theorem Payload.eq_status {x : Payload} (h : Payload.isStatus x = true) : ∃ i, x = .status i := by
  unfold Payload.isStatus at h
  split at h
  · exact ⟨_, rfl⟩
  · exact absurd h Bool.false_ne_true

theorem Payload.eq_want {x : Payload} (h : Payload.isWant x = true) : ∃ n, x = .want n := by
  unfold Payload.isWant at h
  split at h
  · exact ⟨_, rfl⟩
  · exact absurd h Bool.false_ne_true

theorem State.queueStatus_upholds : Upholds p q n s s.queueStatus := by
  unfold State.queueStatus State.offerCoalesced
  refine .ite (fun _ => s.setQueue_upholds _ fun h => h.replace rfl ?_ ?_ ?_) fun hc =>
    s.offerRoutine_upholds _ rfl (fun hq _ => s.none_waits hc hq) fun _ h => absurd h Bool.false_ne_true
  · intro x hx; obtain ⟨i, rfl⟩ := Payload.eq_status hx; rfl
  · intro x hx; exact hx
  · intro x hx; obtain ⟨i, rfl⟩ := Payload.eq_status hx; rfl

theorem State.queueWant_upholds : Upholds p q n s s.queueWant := by
  unfold State.queueWant State.offerCoalesced
  refine .ite (fun _ => s.setQueue_upholds _ fun h => h.replace rfl ?_ ?_ ?_) fun hc =>
    s.offerRoutine_upholds _ rfl (fun _ h => absurd h Bool.false_ne_true)
      (fun hq _ => s.none_waits hc hq)
  · intro x hx; obtain ⟨i, rfl⟩ := Payload.eq_want hx; rfl
  · intro x hx; obtain ⟨i, rfl⟩ := Payload.eq_want hx; rfl
  · intro x hx; exact hx

/-! ### Causes and frames -/

theorem State.recomputeLevel_upholds : Upholds p q n s s.recomputeLevel := by
  unfold State.recomputeLevel
  refine .unless fun _ => Upholds.trans (t := { s with att := { s.att with level := s.levelNow } }) (.aside rfl) ?_
  exact State.queueStatus_upholds _

theorem State.raise_upholds (c : Cause) (d : Nat) : Upholds p q n s (s.raise c d) := by
  unfold State.raise
  refine .ite (fun _ => ?_) fun _ => s.changeCause_upholds _ _
  refine (s.changeCause_upholds _ _).trans (Upholds.trans (.when fun _ => ?_) (State.recomputeLevel_upholds _))
  exact State.offerRoutine_upholds _ _ rfl (fun _ h => absurd h Bool.false_ne_true)
    fun _ h => absurd h Bool.false_ne_true

theorem State.raiseStanding_upholds (c : Cause) (d : Nat) : Upholds p q n s (s.raiseStanding c d) :=
  (s.setCause_upholds c { s.cause c with present := true } rfl).trans (State.raise_upholds _ c d)

theorem State.sendPrompt_upholds (d : Station) (x : Payload) (hx : Payload.prompt x = true) :
    Upholds p q n s (s.sendPrompt d x) := by
  unfold State.sendPrompt
  refine .when fun _ => .ite (fun hn => s.setQueue_upholds _ fun h => h.insertPrompt hx ?_) fun _ =>
    s.raise_upholds _ _
  exact hn

theorem State.absentOne_upholds (c : Cause) : Upholds p q n s (s.absentOne c) := by
  unfold State.absentOne
  refine .unless fun _ => (s.changeCause_upholds c { s.cause c with st := .absent }).trans ?_
  generalize s.changeCause c { s.cause c with st := .absent } = t
  cases c <;> first
    | exact .aside rfl
    | exact .when fun _ => .aside rfl

theorem State.absentAll_upholds (cs : List Cause) : Upholds p q n s (s.absentAll cs) :=
  (Upholds.foldl State.absentOne_upholds cs s).trans (State.recomputeLevel_upholds _)

theorem State.conditionEnd_upholds (c : Cause) : Upholds p q n s (s.conditionEnd c) := by
  unfold State.conditionEnd
  exact (s.setCause_upholds c { s.cause c with present := false } rfl).trans
    (.when fun _ => State.absentAll_upholds _ _)

theorem State.ackTop_upholds : Upholds p q n s s.ackTop := by
  unfold State.ackTop
  split
  · exact .refl s
  · exact .ite (fun _ => s.changeCause_upholds _ _) fun _ => s.absentAll_upholds _

theorem State.clearAll_upholds : Upholds p q n s s.clearAll := s.absentAll_upholds _

end

end Sys2Proof.Machine

/-! The relation `Upholds` for changes of the track, of rack numbers, of the mark group and of the bay (R12, R36, R42). -/

namespace Sys2Proof.Machine

/-! ### Records changed, removed and added -/

section
variable {p q n : Prop} {s : State}

/-- Every record changed, none in name. -/
theorem Upholds.mapTrack (f : Rec → Rec) (hid : ∀ r, (f r).id = r.id) (hn : n → ∀ r, (f r).number = r.number)
    (hh : q → s.HeadSound → ∀ r ∈ s.track, (f r).handed = r.handed) :
    Upholds p q n s { s with track := s.track.map f } := by
  have names (h : s.NamesSound) : State.NamesSound { s with track := s.track.map f } := by
    obtain ⟨hd, hl⟩ := h
    refine ⟨?_, ?_⟩
    · show ((s.track.map f).map (·.id)).Nodup
      rw [List.map_map, show ((fun r : Rec => r.id) ∘ f) = (fun r => r.id) from funext hid]
      exact hd
    · intro r hr
      obtain ⟨r', hr', rfl⟩ := List.mem_map.1 hr
      rw [hid]
      exact hl r' hr'
  refine ⟨id, id, fun _ => id, ?_, names, ?_, ?_⟩
  · rintro ⟨hl, ht, hm⟩
    refine ⟨hl, by simpa using ht, fun hb => ⟨(hm hb).1, ?_⟩⟩
    show s.track.map f = []
    rw [(hm hb).2, List.map_nil]
  · intro hn' _ X hX
    refine (List.pairwise_map.2 ?_ : List.Pairwise _ (s.track.map f))
    unfold State.NumbersBut at hX
    simpa only [hid, hn hn'] using hX
  · intro hq hs
    refine ⟨names hs.1, fun r hr => ?_⟩
    have hf : (s.track.map f).find? (fun r => !r.handed) = s.head.map f := by
      rw [List.find?_map]
      congr 1
      refine List.find?_congr fun r hr => ?_
      simp [hh hq hs r hr]
    obtain ⟨r', hr', rfl⟩ := Option.map_eq_some_iff.1 (hf.symm.trans hr)
    rw [hid]
    exact hs.2 r' hr'

/-- Two records of one name are one. -/
theorem State.NamesSound.unique (h : s.NamesSound) {a b : Rec} (ha : a ∈ s.track) (hb : b ∈ s.track)
    (he : a.id = b.id) : a = b :=
  List.inj_on_of_nodup_map h.1 ha hb he

theorem State.updRec_upholds_if (i : Nat) (f : Rec → Rec) (hid : ∀ r, (f r).id = r.id)
    (hn : n → ∀ r, (f r).number = r.number)
    (hh : q → s.HeadSound → ∀ r ∈ s.track, r.id = i → (f r).handed = r.handed) : Upholds p q n s (s.updRec i f) := by
  refine .mapTrack _ (fun r => ?_) (fun hn' r => ?_) fun hq hs r hr => ?_
  · split <;> simp [hid]
  · split <;> simp [hn hn']
  · split
    · exact hh hq hs r hr ‹_›
    · rfl

/-- A record changed in nothing that the invariants read. -/
theorem State.updRec_upholds (s : State) (i : Nat) (f : Rec → Rec) (hid : ∀ r, (f r).id = r.id)
    (hn : ∀ r, (f r).number = r.number) (hh : ∀ r, (f r).handed = r.handed) : Upholds p q n s (s.updRec i f) :=
  State.updRec_upholds_if i f hid (fun _ => hn) fun _ _ r _ _ => hh r

/-- The head changed, and not released. -/
theorem State.updHead_upholds {r : Rec} (hr : s.head = some r) (f : Rec → Rec) (hid : ∀ r, (f r).id = r.id)
    (hn : ∀ r, (f r).number = r.number) (hf : (f r).handed = false) : Upholds p q n s (s.updRec r.id f) :=
  State.updRec_upholds_if _ f hid (fun _ => hn) fun _ hs x hx he => by
    obtain ⟨hm, hh⟩ := State.mem_of_head hr
    rw [hs.1.unique hx hm he, hf, hh]

/-- The head stays the head where it is changed and not released. -/
theorem State.head_updRec {r : Rec} (hs : s.NamesSound) (hr : s.head = some r) (f : Rec → Rec)
    (hf : (f r).handed = false) : (s.updRec r.id f).head = some (f r) := by
  obtain ⟨hm, hh⟩ := State.mem_of_head hr
  have hr' : s.track.find? (fun x => !x.handed) = some r := hr
  show (s.track.map fun x => if x.id = r.id then f x else x).find? (fun x => !x.handed) = _
  rw [List.find?_map, List.find?_congr (p₂ := fun x => !x.handed) fun x hx => ?_, hr']
  · simp
  · by_cases hi : x.id = r.id
    · rw [hs.unique hx hm hi]; simp [hh, hf]
    · simp [hi]

/-- Records removed. -/
theorem Upholds.filterTrack (f : Rec → Bool) : Upholds p False n s { s with track := s.track.filter f } where
  lamp := id
  line := id
  drive _ := id
  track := by
    rintro ⟨hl, ht, hm⟩
    refine ⟨hl, (List.length_filter_le _ _).trans ht, fun hb => ⟨(hm hb).1, ?_⟩⟩
    show s.track.filter f = []
    rw [(hm hb).2, List.filter_nil]
  names := by
    rintro ⟨hd, hl⟩
    exact ⟨((List.filter_sublist (p := f)).map (·.id)).nodup hd, fun r hr => hl r (List.mem_filter.1 hr).1⟩
  numbers _ _ _ hX := hX.sublist List.filter_sublist
  head := nofun

theorem perm_insert_at {α : Type} (l : List α) (k : Nat) (x : α) : (l.take k ++ x :: l.drop k).Perm (x :: l) :=
  List.perm_middle.trans (by rw [List.take_append_drop])

/-- What is not yet in the numbers stays outside when a record of the next name joins. -/
theorem State.numbersBut_insert {X : Nat → Prop} (h : s.NumbersBut X) (k : Nat) {r : Rec}
    (hr : X r.id ∨ r.number = notag) :
    State.NumbersBut { s with track := s.track.take k ++ r :: s.track.drop k, nextId := s.nextId + 1 } X := by
  refine ((perm_insert_at s.track k r).pairwise_iff ?_).2 (List.pairwise_cons.2 ⟨fun b _ => ?_, h⟩)
  · intro a b hab
    rcases hab with h | h | h | h | h
    · exact .inr (.inl h)
    · exact .inl h
    · exact .inr (.inr (.inr (.inl h)))
    · exact .inr (.inr (.inl h))
    · exact .inr (.inr (.inr (.inr h.symm)))
  · rcases hr with h | h
    · exact .inl h
    · exact .inr (.inr (.inl h))

/-- A record of the next name joins a track that has room, once a profile has been read. -/
theorem Upholds.insert (k : Nat) {r : Rec} (hid : r.id = s.nextId) (hl : s.trackFull = false)
    (hm : s.boot.mode = .loading → s.boot.loaded = true) (hn : n → r.number = notag) :
    Upholds p False n s { s with track := s.track.take k ++ r :: s.track.drop k, nextId := s.nextId + 1 } where
  lamp := id
  line := id
  drive _ := id
  track := by
    rintro ⟨h12, ht, hb⟩
    have room : s.track.length < s.boot.prof.trackLimit := by
      unfold State.trackFull at hl
      simpa using hl
    refine ⟨h12, ?_, fun h => ?_⟩
    · rw [(perm_insert_at s.track k r).length_eq]; exact room
    · exact absurd ((hb h).1.symm.trans (hm h)) (by decide)
  names := by
    rintro ⟨hd, hlt⟩
    refine ⟨?_, fun x hx => ?_⟩
    · refine (((perm_insert_at s.track k r).map (·.id)).nodup_iff).2 (List.nodup_cons.2 ⟨fun h => ?_, hd⟩)
      obtain ⟨x, hx, hxe⟩ := List.mem_map.1 h
      exact absurd (hlt x hx) (by rw [hxe]; exact hid ▸ lt_irrefl _)
    · show x.id < s.nextId + 1
      rcases List.mem_cons.1 ((perm_insert_at s.track k r).mem_iff.1 hx) with rfl | hx
      · rw [hid]; exact Nat.lt_succ_self _
      · exact (hlt x hx).trans (Nat.lt_succ_self _)
  numbers hn' _ _ hX := State.numbersBut_insert hX k (.inr (hn hn'))
  head := nofun

theorem State.appendRec_eq (s : State) (r : Rec) : s.appendRec r =
    { s with track := s.track.take s.track.length ++ r :: s.track.drop s.track.length, nextId := s.nextId + 1 } := by
  rw [List.take_length, List.drop_length]; rfl

theorem State.appendRec_upholds {r : Rec} (hid : r.id = s.nextId) (hl : s.trackFull = false)
    (hm : s.boot.mode = .loading → s.boot.loaded = true) (hn : n → r.number = notag) :
    Upholds p False n s (s.appendRec r) := by
  rw [State.appendRec_eq]
  exact .insert _ hid hl hm hn

/-! ### Rack numbers -/

theorem State.numbersSound_iff : s.NumbersSound ↔ s.NamesSound ∧ s.NumbersBut fun _ => False := by
  unfold State.NumbersSound State.NumbersBut
  rw [List.pairwise_map]
  simp only [false_or]

theorem State.NumbersBut.mono {X Y : Nat → Prop} (h : s.NumbersBut X) (hXY : ∀ i, X i → Y i) : s.NumbersBut Y :=
  h.imp fun {a b} hab => by
    rcases hab with h | h | h
    · exact .inl (hXY _ h)
    · exact .inr (.inl (hXY _ h))
    · exact .inr (.inr h)

/-- A record takes NOTAG, or a number that no other record has. -/
theorem State.numbersBut_updRec {X : Nat → Prop} {i : Nat} (hs : s.NamesSound)
    (h : s.NumbersBut fun j => X j ∨ j = i) {m : RackNo}
    (hm : m = notag ∨ ∀ r ∈ s.track, r.id ≠ i → r.number ≠ m) :
    (s.updRec i fun r => { r with number := m }).NumbersBut X := by
  have hd : s.track.Pairwise fun a b => a.id ≠ b.id := List.pairwise_map.1 hs.1
  refine List.pairwise_map.2 ((h.and hd).imp_of_mem fun {a b} ha hb hab => ?_)
  obtain ⟨hab, hne⟩ := hab
  by_cases hai : a.id = i
  · have hbi : b.id ≠ i := fun hb => hne (hai.trans hb.symm)
    simp only [hai, hbi, if_true, if_false]
    rcases hm with hm | hm
    · exact .inr (.inr (.inl hm))
    · exact .inr (.inr (.inr (.inr (hm b hb hbi).symm)))
  · by_cases hbi : b.id = i
    · simp only [hai, hbi, if_true, if_false]
      rcases hm with hm | hm
      · exact .inr (.inr (.inr (.inl hm)))
      · exact .inr (.inr (.inr (.inr (hm a ha hai))))
    · simpa only [hai, hbi, if_false, or_false] using hab

end

section
variable {p q n : Prop} (s : State)

theorem State.flagRec_upholds (i : Nat) (f : Flags) : Upholds p q n s (s.flagRec i f) :=
  s.updRec_upholds _ _ (fun _ => rfl) (fun _ => rfl) fun _ => rfl

/-- The number of a record set, none refused (R42): whatever number it had, the numbers are then different. -/
theorem State.numbersBut_setNumber {X : Nat → Prop} {i : Nat} (m : RackNo) (hs : s.NamesSound)
    (h : s.NumbersBut fun j => X j ∨ j = i) : (s.setNumber i m).NumbersBut X := by
  unfold State.setNumber
  split
  · have hu : Upholds True True True (s.updRec i fun r => { r with number := notag })
        (State.raise (State.flagRec (s.updRec i fun r => { r with number := notag }) i { duplicate := true })
          .tagMismatch (0x8000 + m.val)) :=
      (State.flagRec_upholds _ _ _).trans (State.raise_upholds _ _ _)
    refine hu.numbers trivial ?_ X (State.numbersBut_updRec hs h (.inl rfl))
    exact (State.updRec_upholds_if (p := True) (q := False) (n := False) i (fun r => { r with number := notag })
      (fun _ => rfl) nofun nofun).names hs
  · rename_i hc
    refine State.numbersBut_updRec hs h ?_
    by_cases hm : m = notag
    · exact .inl hm
    · refine .inr fun r hr hi he => hc ⟨hm, ?_⟩
      unfold State.numberHeld
      simp only [Bool.or_eq_true, List.any_eq_true, Bool.and_eq_true, bne_iff_ne, beq_iff_eq]
      exact .inl (.inl ⟨r, hr, hi, he⟩)

/-- The last act of what may have left one record with any number. -/
theorem Upholds.renumber {u : State} {i : Nat} (m : RackNo) (h : Upholds p q False s u)
    (hn : n → s.NamesSound → ∀ X, s.NumbersBut X → u.NumbersBut fun j => X j ∨ j = i) :
    Upholds p q n s (u.setNumber i m) := by
  have k : Upholds p q False u (u.setNumber i m) := by
    unfold State.setNumber
    refine .ite (fun _ => Upholds.trans ?_ ((State.flagRec_upholds _ _ _).trans (State.raise_upholds _ _ _)))
      fun _ => ?_
    all_goals exact State.updRec_upholds_if i _ (fun _ => rfl) nofun fun _ _ _ _ _ => rfl
  obtain ⟨hl, hi, hd, ht, hs, -, hh⟩ := h.trans k
  exact ⟨hl, hi, hd, ht, hs, fun hn' hs X hX => u.numbersBut_setNumber m (h.names hs) (hn hn' hs X hX), hh⟩

theorem State.setNumber_upholds (i : Nat) (m : RackNo) : Upholds p q n s (s.setNumber i m) :=
  (Upholds.refl s).renumber s m fun _ _ _ hX => hX.mono fun _ => .inl

/-! ### Changes beside what the invariants read -/

theorem State.setChan_upholds (e : Eye) (c : EyeChan) : Upholds p q n s (s.setChan e c) :=
  .aside (by cases e <;> rfl)
theorem State.updChan_upholds (e : Eye) (f : EyeChan → EyeChan) : Upholds p q n s (s.updChan e f) :=
  s.setChan_upholds _ _
theorem State.setNeigh_upholds (x : Port) (m : Option Neigh) : Upholds p q n s (s.setNeigh x m) :=
  .aside (by cases x <;> rfl)
theorem State.setSpan_upholds (x : DownPort) (w : SpanWord) : Upholds p q n s (s.setSpan x w) :=
  .aside (by cases x <;> rfl)
theorem State.setSlot_upholds (m : SlotName) (x : Option Slot) : Upholds p q n s (s.setSlot m x) :=
  .aside (by cases m <;> rfl)
theorem State.setNoted_upholds (x : UpPort) (m : Option Noted) : Upholds p q n s (s.setNoted x m) :=
  .aside (by cases x <;> rfl)
theorem State.setLandLog_upholds (x : UpPort) (l : List LandLog) : Upholds p q n s (s.setLandLog x l) :=
  .aside (by cases x <;> rfl)
theorem State.setStallMark_upholds (x : UpPort) (m : Bool) : Upholds p q n s (s.setStallMark x m) :=
  .aside (by cases x <;> rfl)
theorem State.setSteered_upholds (x : DownPort) (l : List Steered) : Upholds p q n s (s.setSteered x l) :=
  .aside (by cases x <;> rfl)
theorem State.setReply_upholds (x : UpPort) (m : ReplyMark) : Upholds p q n s (s.setReply x m) :=
  .aside (by cases x <;> rfl)
theorem State.bumpSerial_upholds (x : DownPort) : Upholds p q n s (s.bumpSerial x) :=
  .aside (by cases x <;> rfl)
theorem State.callLampStep_upholds : Upholds p q n s s.callLampStep := .aside rfl
theorem State.leaveLists_upholds (i : Nat) : Upholds p q n s (s.leaveLists i) := .aside rfl
theorem State.joinAwaited_upholds (i : Nat) (f : Eye → Bool) : Upholds p q n s (s.joinAwaited i f) :=
  .foldl (fun t e => .when fun _ => t.updChan_upholds e _) _ s

/-! ### The bay, the routes and the marks -/

theorem State.wantStep_upholds : Upholds p q n s s.wantStep := by
  unfold State.wantStep
  refine .when fun _ => Upholds.trans (t := { s with bay := { s.bay with want := s.wantNow } }) (.aside rfl)
    (.when fun _ => State.queueWant_upholds _)

theorem State.bayFollows_upholds : Upholds p q n s s.bayFollows :=
  s.wantStep_upholds.trans (State.callLampStep_upholds _)

theorem State.resolve_upholds (c : RackClass) : Upholds p q n s (s.resolve c).1 := by
  unfold State.resolve
  split
  · exact .refl s
  · exact .aside rfl
  · exact s.raise_upholds _ _

theorem State.steeredAdd_upholds (x : DownPort) (m : RackNo) (st : Station) :
    Upholds p q n s (s.steeredAdd x m st) := s.setSteered_upholds _ _

theorem State.stopFired_upholds : Upholds p q n s s.stopFired := by
  unfold State.stopFired
  split
  · exact .refl s
  · rename_i r hr
    refine .when fun _ => (State.updHead_upholds hr (fun r => { r with state := .atBay }) (fun _ => rfl)
      (fun _ => rfl) rfl).trans (.when fun _ => (State.flagRec_upholds _ _ _).trans (State.raise_upholds _ _ _))

/-- Marks recomputed for the same owner. -/
theorem Upholds.sameOwner {m : MarkGroup} (h : m.owner = s.marks.owner) :
    Upholds p q n s { s with marks := m } := .aside (by simp only [State.core]; rw [h])

theorem State.loadGroup_upholds (r : Rec) : Upholds p False n s (s.loadGroup r) := by
  unfold State.loadGroup
  exact (Upholds.marks _).trans (.when fun _ => State.stopFired_upholds _)

theorem State.recomputeGroup_upholds (c : Count) : Upholds p q n s (s.recomputeGroup c) := by
  unfold State.recomputeGroup
  extract_lets c k m g t
  have ht : Upholds p q n s t := .sameOwner s rfl
  exact ht.trans (.when fun _ => t.stopFired_upholds)

/-- Loading the group for the head makes the head its owner. -/
theorem State.headSound_loadGroup {r x : Rec} (hs : s.NamesSound) (hr : s.head = some r) (hx : x.id = r.id) :
    (s.loadGroup x).HeadSound := by
  unfold State.loadGroup
  dsimp only
  refine (Upholds.when fun _ => State.stopFired_upholds _ : Upholds True True True _ _).head trivial
    ⟨hs, fun y hy => ?_⟩
  rw [Option.some.inj (hr.symm.trans hy)] at hx
  exact congrArg some hx

theorem State.headSound_rehead (hs : s.NamesSound) : s.rehead.HeadSound := by
  unfold State.rehead
  split
  · rename_i r hr
    split
    · exact ⟨hs, fun x hx => Option.some.inj (hr.symm.trans hx) ▸ ‹_›⟩
    · split
      · have hb : State.NamesSound { s with bay := { s.bay with released := false } } := hs
        refine State.headSound_loadGroup _ ?_ (State.head_updRec hb hr (fun x => { x with state := .head }) rfl) rfl
        exact (State.updRec_upholds_if (p := True) (q := False) (n := True) _ (fun x : Rec => { x with state := .head })
          (fun _ => rfl) (fun _ _ => rfl) nofun).names hb
      · exact State.headSound_loadGroup _ hs hr rfl
  · rename_i hr
    have no (u : State) (hu : Upholds True False True s u) (ht : u.track = s.track) : u.HeadSound :=
      ⟨hu.names hs, fun x hx => absurd (hx.symm.trans ((by unfold State.head; rw [ht] : u.head = s.head).trans hr))
        nofun⟩
    split
    · exact no s (.refl s) rfl
    · split
      · exact no s (.refl s) rfl
      · exact no _ (.marks _) rfl

/-- Head and mark group come together, whatever came before (R12, R38). -/
theorem Upholds.rehead {u : State} (h : Upholds p False n s u) : Upholds p q n s u.rehead := by
  refine Upholds.tighten (h.trans ?_) fun hs => u.headSound_rehead (h.names hs)
  · unfold State.rehead
    split
    · refine .unless fun _ => Upholds.trans (t := { u with bay := { u.bay with released := false } }) (.aside rfl)
        (Upholds.trans (.when fun _ => ?_) (State.loadGroup_upholds _ _))
      exact State.updRec_upholds_if _ _ (fun _ => rfl) (fun _ _ => rfl) nofun
    · split
      · exact .refl u
      · exact .unless fun _ => .marks _

theorem State.rehead_upholds : Upholds p q n s s.rehead := (Upholds.refl s).rehead

end

end Sys2Proof.Machine

/-! The relation `Upholds` for landings, removals, releases, creations and the start-up scan (R32 to R61, R101 to R105). -/

namespace Sys2Proof.Machine

section
variable {p q n : Prop} (s : State)

/-! ### Landings and tag results -/

theorem State.sendLanded_upholds (x : UpPort) (m : Serial) (k : RackNo) (st : LandStatus)
    (y : Option (RackNo × Station)) : Upholds p q n s (s.sendLanded x m k st y) := by
  unfold State.sendLanded
  extract_lets log t u
  have hu : Upholds p q n s u := (s.setLandLog_upholds _ _).trans (State.sendPrompt_upholds _ _ _ rfl)
  split
  · exact hu
  · exact hu.trans (u.sendPrompt_upholds _ _ rfl)

theorem State.endLanding_upholds (i : Nat) (st : LandStatus) (x : Option RackNo) :
    Upholds p q n s (s.endLanding i st x) := by
  unfold State.endLanding
  split
  · exact (s.setSlot_upholds _ _).trans (State.sendLanded_upholds _ _ _ _ _ _)
  · exact .refl s

theorem State.abandonLanding_upholds (i : Nat) : Upholds p q n s (s.abandonLanding i) := by
  unfold State.abandonLanding
  split
  · exact .refl s
  · exact (s.setSlot_upholds _ _).trans (State.sendLanded_upholds _ _ _ _ _ _)

theorem State.hopTest_upholds (i : Nat) : Upholds p q n s (s.hopTest i) := by
  unfold State.hopTest
  split
  · exact .refl s
  · exact .when fun _ => s.raise_upholds _ _

theorem State.skipTo_upholds (i : Nat) (o : SlotName) (x : Slot) (w : SlotName) (y : Slot) (m : RackNo) :
    Upholds p q n s (s.skipTo i o x w y m) := by
  unfold State.skipTo
  extract_lets s₁ s₂ s₃ s₄ s₅ s₆ s₇ s₈
  have e₁ : Upholds p q n s s₁ := s.setSlot_upholds _ _
  have e₂ : Upholds p q n s₁ s₂ := s₁.sendLanded_upholds _ _ _ _ _
  have e₃ : Upholds p q n s₂ s₃ := s₂.raise_upholds _ _
  have e₄ : Upholds p q n s₃ s₄ := s₃.setSlot_upholds _ _
  have e₅ : Upholds p q n s₄ s₅ := s₄.updRec_upholds _ _ (fun _ => rfl) (fun _ => rfl) fun _ => rfl
  have e₆ : Upholds p q n s₅ s₆ := s₅.wantStep_upholds
  have e₇ : Upholds p q n s₆ s₇ := s₆.setNumber_upholds _ _
  have e₈ : Upholds p q n s₇ s₈ := s₇.hopTest_upholds _
  exact (e₁.trans <| e₂.trans <| e₃.trans <| e₄.trans <| e₅.trans <| e₆.trans <| e₇.trans e₈).trans
    (s₈.endLanding_upholds _ _ _)

theorem State.tagResult_upholds (i : Nat) (x : Option RackNo) : Upholds p q n s (s.tagResult i x) := by
  unfold State.tagResult
  split
  · exact .refl s
  · split
    · exact .refl s
    · exact s.setNumber_upholds _ _
    · exact s.endLanding_upholds _ _ _
    · refine .ite (fun _ => s.endLanding_upholds _ _ _) fun _ => .ite (fun _ => ?_) fun _ => ?_
      · exact (s.setNumber_upholds _ _).trans (State.endLanding_upholds _ _ _ _)
      · split
        · exact s.skipTo_upholds _ _ _ _ _ _
        · exact (s.setNumber_upholds _ _).trans <| (State.flagRec_upholds _ _ _).trans <|
            (State.raise_upholds _ _ _).trans (State.endLanding_upholds _ _ _ _)

theorem State.readDue_upholds (i : Nat) : Upholds p q n s (s.readDue i) := by
  unfold State.readDue
  exact .when fun _ => .ite (fun _ => .aside rfl) fun _ => s.tagResult_upholds _ _

/-! ### Withdrawing, removing and releasing -/

theorem State.sendWithdraw_upholds (r : Rec) : Upholds p q n s (s.sendWithdraw r) := by
  unfold State.sendWithdraw
  have h : Upholds p q n s { s with ex := { s.ex with resend := none, patience := none } } := .aside rfl
  split
  · exact h.trans (State.sendPrompt_upholds _ _ _ rfl)
  · exact h

theorem State.head_congr {s t : State} (h : t.track = s.track) : t.head = s.head := by unfold State.head; rw [h]

theorem State.track_sendWithdraw (r : Rec) : (s.sendWithdraw r).track = s.track :=
  State.get_sendWithdraw (b := .track) s r (by decide) (by decide) (by decide)

theorem Rec.handed_withdrawn (r : Rec) : r.withdrawn.handed = false := by
  unfold Rec.withdrawn Rec.handed
  dsimp only
  split <;> rfl

theorem State.withdrawHead_upholds : Upholds p q n s s.withdrawHead := by
  unfold State.withdrawHead
  split
  · rename_i r hr
    refine .when fun _ => (s.sendWithdraw_upholds r).trans ?_
    exact State.updHead_upholds ((State.head_congr (s.track_sendWithdraw r)).trans hr) _ (fun _ => rfl)
      (fun _ => rfl) r.handed_withdrawn
  · exact .refl s

theorem State.removeRec_upholds (r : Rec) : Upholds p q n s (s.removeRec r) := by
  unfold State.removeRec
  extract_lets w s₁ s₂ s₃ c₁ s₄ c₂ s₅ c₃ s₆ s₇
  have e₁ : Upholds p False n s s₁ := .when fun _ => s.sendWithdraw_upholds r
  have e₂ : Upholds p False n s₁ s₂ := .filterTrack _
  have e₃ : Upholds p False n s₂ s₃ := s₂.leaveLists_upholds _
  have e₄ : Upholds p False n s₃ s₄ := .when fun _ => .aside rfl
  have e₅ : Upholds p False n s₄ s₅ := .when fun _ => .aside rfl
  have e₆ : Upholds p False n s₅ s₆ := .when fun _ => .aside rfl
  have e₇ : Upholds p False n s₆ s₇ := s₆.abandonLanding_upholds _
  exact ((((((e₁.trans e₂).trans e₃).trans e₄).trans e₅).trans e₆).trans e₇ |>.trans s₇.bayFollows_upholds).rehead

theorem State.raiseLost_upholds (r : Rec) (b : Bool) : Upholds p q n s (s.raiseLost r b) := by
  cases b with
  | true => exact s.raise_upholds _ _
  | false =>
    exact Upholds.trans (t := { s with ex := { s.ex with plainLoss := true } }) (.aside rfl) (State.raise_upholds _ _ _)

theorem State.pushLost_upholds (x : LostEntry) : Upholds p q n s (s.pushLost x) := by
  unfold State.pushLost
  exact .ite (fun _ => .aside rfl) fun _ => .aside rfl

theorem State.toLost_upholds (r : Rec) : Upholds p q n s (s.toLost r) := by
  unfold State.toLost
  split
  · exact (s.pushLost_upholds _).trans (State.raiseLost_upholds _ _ _)
  · exact s.raiseLost_upholds _ _

theorem State.giveUp_upholds (r : Rec) : Upholds p q n s (s.giveUp r) :=
  (s.removeRec_upholds r).trans (State.toLost_upholds _ _)

theorem State.vanish_upholds (r : Rec) : Upholds p q n s (s.vanish r) := by
  unfold State.vanish
  exact .ite (fun _ => s.giveUp_upholds r) fun _ => (s.removeRec_upholds r).trans (State.raiseLost_upholds _ _ _)

theorem State.release_upholds (r : Rec) (f : Rec → Rec) (hid : ∀ x, (f x).id = x.id)
    (hn : ∀ x, (f x).number = x.number) : Upholds p q n s (s.release r f) := by
  unfold State.release
  extract_lets s₁ s₂ x s₃
  have e₁ : Upholds p False n s s₁ :=
    State.updRec_upholds_if _ _ (fun x => hid _) (fun _ x => hn _) nofun
  have e₂ : Upholds p False n s₁ s₂ := .when fun _ => Upholds.sameOwner _ rfl
  have e₃ : Upholds p False n s₂ s₃ := .aside rfl
  exact (((e₁.trans e₂).trans e₃).trans s₃.callLampStep_upholds).rehead

/-! ### Creation -/

theorem State.strayAt_upholds (e : Eye) : Upholds p q n s (s.strayAt e) := s.raise_upholds _ _

theorem State.numbersBut_appendRec {s : State} {X : Nat → Prop} (h : s.NumbersBut X) {r : Rec}
    (hr : X r.id ∨ r.number = notag) : (s.appendRec r).NumbersBut X := by
  rw [State.appendRec_eq]
  exact State.numbersBut_insert h _ hr

theorem State.takeRoute_upholds (i : Nat) (rt : Route) : Upholds p q n s (s.takeRoute i rt) := by
  unfold State.takeRoute
  refine Upholds.trans (t := { s with gate := { s.gate with rackRoute := some rt } }) (.aside rfl) (.when fun _ => ?_)
  exact State.updRec_upholds _ _ _ (fun _ => rfl) (fun _ => rfl) fun _ => rfl

theorem State.createFromSlot_upholds (m : SlotName) (x : Slot) (c : Count) (hl : s.trackFull = false)
    (hm : s.boot.mode ≠ .loading) : Upholds p q n s (s.createFromSlot m x c) := by
  unfold State.createFromSlot
  extract_lets i s₁ y src s₂ s₃ s₄ s₅ s₆ s₇
  have hb : s₁.boot = s.boot := State.boot_setSlot _ _ _
  have ht : s₁.track = s.track := State.track_setSlot _ _ _
  have hi : s₁.nextId = s.nextId := State.nextId_setSlot _ _ _
  have e₁ : Upholds p q n s s₁ := s.setSlot_upholds _ _
  have e₂ : Upholds p False False s₁ s₂ :=
    State.appendRec_upholds hi.symm (by unfold State.trackFull; rw [ht, hb]; exact hl)
      (fun h => absurd (hb ▸ h) hm) nofun
  have e₄ {n : Prop} : Upholds p False n s₂ s₄ := by
    have e₃ : Upholds p False n s₂ s₃ := s₂.joinAwaited_upholds _ _
    refine e₃.trans ?_
    simp only [s₄]
    split
    · exact s₃.takeRoute_upholds _ _
    · exact .refl s₃
  have e₆ {q n : Prop} (h : Upholds p False n s₁ s₂) : Upholds p q n s₁ s₆ :=
    (h.trans e₄).rehead.trans (State.hopTest_upholds _ _)
  have e₆' : Upholds p q True s₂ s₆ := by
    refine (e₄.rehead).trans (State.hopTest_upholds _ _)
  have e₇ : Upholds p q n s₁ s₇ := (e₆ e₂).renumber _ _ fun _ hs X hX => by
    refine e₆'.numbers trivial (e₂.names hs) _ ?_
    exact State.numbersBut_appendRec (hX.mono fun j hj => (.inl hj : X j ∨ j = i)) (.inl (.inr rfl))
  refine (e₁.trans e₇).trans (.ite (fun _ => s₇.readDue_upholds _) fun _ => s₇.endLanding_upholds _ _ _)

theorem State.createStray_upholds (c : Count) (hl : s.trackFull = false) (hm : s.boot.mode ≠ .loading) :
    Upholds p q n s (s.createStray c) := by
  unfold State.createStray
  extract_lets i src s₁ s₂ s₃ s₄ s₅
  have e₁ : Upholds p False n s s₁ := State.appendRec_upholds rfl hl (fun h => absurd h hm) fun _ => rfl
  have e₂ : Upholds p False n s₁ s₂ := s₁.joinAwaited_upholds _ _
  have e₃ : Upholds p False n s₂ s₃ :=
    .when fun _ => (s₂.resolve_upholds _).trans (State.takeRoute_upholds _ _ _)
  have e₄ : Upholds p q n s s₄ := ((e₁.trans e₂).trans e₃).rehead
  exact (e₄.trans (s₄.strayAt_upholds _)).trans (s₅.readDue_upholds _)

theorem State.entryLead_upholds (c : Count) (hm : s.boot.mode ≠ .loading) : Upholds p q n s (s.entryLead c) := by
  unfold State.entryLead
  refine .ite (fun _ => s.strayAt_upholds _) fun hl => ?_
  rw [Bool.not_eq_true] at hl
  split
  · exact s.createFromSlot_upholds _ _ _ hl hm
  · exact s.createStray_upholds _ hl hm

theorem State.entryTrail_upholds (l : Option Nat) : Upholds p q n s (s.entryTrail l) := by
  unfold State.entryTrail
  split
  · exact .refl s
  · rename_i r hr
    extract_lets b t
    have h : Upholds p q n s t := by
      refine s.updRec_upholds _ _ (fun _ => rfl) (fun _ => rfl) fun x => ?_
      unfold Rec.handed
      dsimp only
      split
      · rename_i hx; rw [hx]; split <;> rfl
      · rfl
    split
    · exact h
    · exact h.trans (.when fun _ => (t.flagRec_upholds _ _).trans (State.raise_upholds _ _ _))

/-! ### The start-up scan -/

theorem State.startRoute_upholds (r : Rec) : Upholds p q n s (s.startRoute r) := by
  unfold State.startRoute
  refine .when fun _ => .ite (fun _ => .aside rfl) fun _ => ?_
  exact (s.resolve_upholds _).trans (.aside rfl)

theorem State.createStart_upholds (o : Nat) (a b : Bool) (hl : s.trackFull = false) (hm : s.boot.loaded = true) :
    Upholds p False n s (s.createStart o a b) :=
  (State.appendRec_upholds rfl hl (fun _ => hm) fun _ => rfl).trans (State.joinAwaited_upholds _ _ _)

theorem State.scanAt_upholds (a : ScanAt) (o : Nat) : Upholds p False n a.s (State.scanAt a o).s := by
  unfold State.scanAt
  split
  · exact .refl _
  · rename_i e es he
    split
    · exact .refl _
    · split
      · exact .refl _
      · rename_i hl
        refine State.createStart_upholds _ _ _ _ (by simpa using hl) ?_
        have hmem : e ∈ a.s.eyesAt o := (List.mem_filter.1 (he ▸ List.mem_cons_self : e ∈ _)).1
        unfold State.eyesAt State.fitted at hmem
        simp only [List.mem_filter, Bool.and_eq_true] at hmem
        exact hmem.2.1.1

theorem State.foldl_scanAt_upholds (l : List Nat) :
    ∀ a : ScanAt, Upholds p False n a.s (l.foldl State.scanAt a).s := by
  induction l with
  | nil => exact fun a => .refl _
  | cons o l ih => exact fun a => (State.scanAt_upholds a o).trans (ih _)

theorem State.startRead_upholds : Upholds p q n s s.startRead := by
  unfold State.startRead
  split
  · exact s.readDue_upholds _
  · exact .refl s

theorem State.scan_upholds : Upholds p q n s s.scan := by
  unfold State.scan
  extract_lets a t
  have e₁ : Upholds p False n s a.s := State.foldl_scanAt_upholds _ { s := s }
  have e₂ : Upholds p False n a.s t := .foldl (fun u r => u.startRoute_upholds r) _ _
  exact ((e₁.trans e₂).rehead.trans (State.startRead_upholds _)).trans
    (.foldl (fun u e => u.strayAt_upholds e) _ _)

end

end Sys2Proof.Machine

/-! The relation `Upholds` for the drive unit, the idle logic and the passes that end a step (R62 to R69, R84 to R99). -/

namespace Sys2Proof.Machine

section
variable {p q n : Prop} (s : State)

/-! ### The drive -/

/-- A change of the drive unit that leaves belt, level and resume level. -/
theorem Upholds.sameBelt {d : Drive} (h : (d.belt, d.level, d.resume) = (s.dr.belt, s.dr.level, s.dr.resume)) :
    Upholds p q n s { s with dr := d } := .aside (by simp only [State.core]; rw [h])

theorem State.sendStalls_upholds : Upholds p q n s s.sendStalls :=
  .foldl (fun t _ => .when fun _ => (t.setStallMark_upholds _ _).trans (State.sendPrompt_upholds _ _ _ rfl)) _ s

theorem State.sendGos_upholds : Upholds p q n s s.sendGos :=
  .foldl (fun t _ => .when fun _ => (t.setStallMark_upholds _ _).trans (State.sendPrompt_upholds _ _ _ rfl)) _ s

theorem State.leaveRun_upholds : Upholds p q n s s.leaveRun := by
  unfold State.leaveRun
  exact Upholds.trans (t := { s with dr := { s.dr with unsteady := 0 } }) (.aside rfl)
    (.when fun _ => State.conditionEnd_upholds _ _)

/-- The belt stops at level 0, whatever it did before. -/
theorem Upholds.toHold {d : Drive} (hl : d.level = 0)
    (hr : s.dr.level ≤ 1023 → s.dr.resume ≤ 1023 → d.resume ≤ 1023) : Upholds p q n s { s with dr := d } :=
  .dr _ fun _ ⟨h₁, h₂, h₃, _⟩ => ⟨by show d.level ≤ 1023; rw [hl]; exact Nat.zero_le _, hr h₁ h₂, h₃, fun _ => hl⟩

/-- The belt runs, or begins to, at a level within the range. -/
theorem Upholds.toMotion {d : Drive} (hb : d.belt ≠ .hold ∧ d.belt ≠ .park)
    (hl : s.DriveOk → d.level ≤ 1023) (hr : d.resume = s.dr.resume) : Upholds p q n s { s with dr := d } :=
  .dr _ fun _ hs => ⟨hl hs, by show d.resume ≤ 1023; rw [hr]; exact hs.2.1, hs.2.2.1, fun h =>
    (h.elim hb.1 hb.2).elim⟩

theorem State.dr_absentAll_unsteady : (s.absentAll [.beltUnsteady]).dr = s.dr := by
  rw [State.absentAll]
  refine (State.get_recomputeLevel (b := .dr) _ (by decide) (by decide)).trans ?_
  show (s.absentOne .beltUnsteady).dr = s.dr
  unfold State.absentOne
  split <;> rfl

theorem State.dr_endUnsteady : (s.conditionEnd .beltUnsteady).dr = s.dr := by
  unfold State.conditionEnd
  dsimp only
  split
  · exact State.dr_absentAll_unsteady _
  · rfl

theorem State.dr_leaveRun : s.leaveRun.dr = { s.dr with unsteady := 0 } := by
  unfold State.leaveRun
  dsimp only
  split
  · exact State.dr_endUnsteady _
  · rfl

theorem State.enterHold_upholds : Upholds p q n s s.enterHold := by
  unfold State.enterHold
  extract_lets d reg s₁ src s₂
  have e₁ : Upholds p q n s s₁ := .when fun _ => s.leaveRun_upholds
  have hv : s₁.dr.level = d.level ∧ s₁.dr.resume = d.resume := by
    simp only [s₁]
    split
    · rw [s.dr_leaveRun]; exact ⟨rfl, rfl⟩
    · exact ⟨rfl, rfl⟩
  have e₂ : Upholds p q n s₁ s₂ := .toHold s₁ rfl fun h₁ h₂ => by
    show (if reg then d.level else d.resume) ≤ 1023
    split
    · exact hv.1 ▸ h₁
    · exact hv.2 ▸ h₂
  exact ((e₁.trans e₂).trans s₂.queueStatus_upholds).trans (State.sendStalls_upholds _)

theorem State.enterSpinUp_upholds (f : Bool) : Upholds p q n s (s.enterSpinUp f) := by
  unfold State.enterSpinUp
  extract_lets src t
  have e : Upholds p q n s t := .toMotion s ⟨nofun, nofun⟩ (fun h => h.2.2.1) rfl
  exact (e.trans t.queueStatus_upholds).trans (State.sendGos_upholds _)

theorem State.enterRegulated_upholds (b : BeltState) (l : Nat) (hb : b ≠ .hold ∧ b ≠ .park)
    (hl : s.DriveOk → l ≤ 1023) : Upholds p q n s (s.enterRegulated b l) := by
  unfold State.enterRegulated
  exact Upholds.trans (.toMotion s (d := { s.dr with
    belt := b, level := l, spinLeft := none, winEdges := 0, winLeft := some Config.windowTicks, history := [],
    lock := .unlocked, inBand := 0, outBand := 0, satHigh := 0, satLow := 0 }) hb hl rfl)
    (State.queueStatus_upholds _)

theorem State.switchRegulated_upholds (b : BeltState) (hb : b ≠ .hold ∧ b ≠ .park) :
    Upholds p q n s (s.switchRegulated b) := by
  unfold State.switchRegulated
  extract_lets t
  have e : Upholds p q n s t := .when fun _ => s.leaveRun_upholds
  refine (e.trans ?_).trans (State.queueStatus_upholds _)
  exact .toMotion t hb (fun h => h.1) rfl

/-- A wanted motion that is not HOLD names a belt state in motion. -/
theorem Wanted.belt_moves {w : Wanted} (h : w ≠ .hold) : w.belt ≠ .hold ∧ w.belt ≠ .park := by
  cases w with
  | hold => exact absurd rfl h
  | creep => exact ⟨(by decide), (by decide)⟩
  | run => exact ⟨(by decide), (by decide)⟩

theorem State.followBelt_upholds : Upholds p q n s s.followBelt := by
  unfold State.followBelt
  split
  · exact .refl s
  · rename_i hw
    refine .ite (fun _ => ?_) fun _ => s.enterSpinUp_upholds _
    exact (s.enterRegulated_upholds _ _ (Wanted.belt_moves hw) fun h => h.2.1).trans (State.sendGos_upholds _)
  · exact .when fun _ => s.enterHold_upholds
  · exact .sameBelt s rfl
  · exact .refl s
  · exact s.switchRegulated_upholds _ ⟨(by decide), (by decide)⟩
  · exact s.enterHold_upholds
  · exact .refl s
  · exact s.switchRegulated_upholds _ ⟨(by decide), (by decide)⟩
  · exact s.enterHold_upholds
  · exact .refl s

theorem State.updateTarget_upholds : Upholds p q n s s.updateTarget := by
  unfold State.updateTarget
  exact .unless fun _ => .ite (fun _ => .sameBelt s rfl) fun _ => .sameBelt s rfl

theorem State.freeSpans_upholds : Upholds p q n s s.freeSpans := by
  unfold State.freeSpans
  extract_lets t
  have e : Upholds p q n s t := .unless fun _ => s.setSpan_upholds _ _
  exact e.trans (.unless fun _ => t.setSpan_upholds _ _)

theorem State.leavePark_upholds : Upholds p q n s s.leavePark :=
  Upholds.trans (t := { s with idle := { s.idle.awake with wakePending := false } }) (.aside rfl)
    (State.enterSpinUp_upholds _ _)

theorem State.wake_upholds : Upholds p q n s s.wake := by
  unfold State.wake
  split
  · exact .aside rfl
  · exact .ite (fun _ => .aside rfl) fun _ => s.leavePark_upholds
  · exact .refl s
  · exact .refl s

theorem State.pendingWake_upholds : Upholds p q n s s.pendingWake := by
  unfold State.pendingWake
  exact .when fun _ => s.leavePark_upholds

/-- The belt is parked out of HOLD, where its level is 0. -/
theorem State.enterPark_upholds (h : p → s.dr.belt = .hold) : Upholds p q n s s.enterPark := by
  unfold State.enterPark
  extract_lets src src' t u
  have e : Upholds p q n s t := by
    refine Upholds.trans (t := { s with dr := { s.dr with belt := .park } }) (.dr _ fun hp hs => ?_) (.aside rfl)
    exact ⟨hs.1, hs.2.1, hs.2.2.1, fun _ => hs.2.2.2 (.inl (h hp))⟩
  have e' : Upholds p q n s u := e.trans t.queueStatus_upholds
  exact e'.trans (.when fun _ => u.wake_upholds)

theorem State.startTiming_upholds : Upholds p q n s s.startTiming := .aside rfl

theorem State.followIdle_upholds : Upholds p q n s s.followIdle := by
  unfold State.followIdle
  split
  · exact .when fun _ => .aside rfl
  · exact .unless fun _ => .aside rfl
  · exact .unless fun _ => .aside rfl
  · exact .refl s

/-! ### The passes -/

theorem State.discardReused_upholds (x : DownPort) (m : Serial) : Upholds p q n s (s.discardReused x m) := by
  unfold State.discardReused
  exact .when fun _ => .aside rfl

/-- A head that may be offered is the head, and not released. -/
theorem State.head_of_offerable {r : Rec} (h : s.offerable = some r) : s.head = some r := by
  unfold State.offerable at h
  split at h
  · cases h
  · rename_i x hx
    split at h
    · rw [hx, h]
    · cases h

theorem State.sendOffer_upholds {r : Rec} (x : DownPort) (hr : s.head = some r) :
    Upholds p q n s (s.sendOffer r x) := by
  unfold State.sendOffer
  extract_lets m s₁ s₂ s₃ src s₄
  have e₁ : Upholds p q n s s₁ := s.bumpSerial_upholds x
  have e₂ : Upholds p q n s₁ s₂ :=
    State.updHead_upholds ((State.head_congr (by cases x <;> rfl)).trans hr) _ (fun _ => rfl) (fun _ => rfl) rfl
  have e₃ : Upholds p q n s₂ s₃ := s₂.discardReused_upholds _ _
  have e₄ : Upholds p q n s₃ s₄ := .aside rfl
  exact (((e₁.trans e₂).trans e₃).trans e₄).trans (s₄.sendPrompt_upholds _ _ rfl)

theorem State.releaseFree_upholds (r : Rec) (x : DownPort) : Upholds p q n s (s.releaseFree r x) := by
  unfold State.releaseFree
  extract_lets b t
  have e : Upholds p q n s t := s.release_upholds r _ (fun _ => rfl) fun _ => rfl
  exact e.trans (.when fun _ => t.steeredAdd_upholds _ _ _)

theorem State.offerLoop_upholds : ∀ (k : Nat) (s : State), Upholds p q n s (s.offerLoop k)
  | 0, s => .refl s
  | k + 1, s => by
    unfold State.offerLoop
    split
    · exact .refl s
    · rename_i r hr
      refine Upholds.trans (.ite (fun _ => s.releaseFree_upholds r _) fun _ => ?_) (State.offerLoop_upholds k _)
      exact s.sendOffer_upholds _ (s.head_of_offerable hr)

theorem State.offerStep_upholds : Upholds p q n s s.offerStep := s.offerLoop_upholds 13

theorem State.withdrawAtLevel3_upholds : Upholds p q n s s.withdrawAtLevel3 := by
  unfold State.withdrawAtLevel3
  exact .when fun _ => s.withdrawHead_upholds

theorem State.gateStep_upholds : Upholds p q n s s.gateStep := by
  unfold State.gateStep
  refine .when fun _ => ?_
  split
  · exact .unless fun _ => .aside rfl
  · refine .ite (fun _ => .unless fun _ => .aside rfl) fun _ => .ite (fun _ => .aside rfl) fun _ =>
      .ite (fun _ => .aside rfl) fun _ => .aside rfl

theorem State.takeOffer_upholds (x : UpPort) (m : Serial) (i : Image) (rt : Option Route) :
    Upholds p q n s (s.takeOffer x m i rt) := by
  unfold State.takeOffer
  split
  · exact .refl s
  · extract_lets s₁ src s₂ s₃ src' s₄
    have e₁ : Upholds p q n s s₁ := s.setSlot_upholds _ _
    have e₂ : Upholds p q n s₁ s₂ := .aside rfl
    have e₃ : Upholds p q n s₂ s₃ := s₂.setNoted_upholds _ _
    have e₄ : Upholds p q n s₃ s₄ := .when fun _ => .aside rfl
    exact (((e₁.trans e₂).trans e₃).trans e₄).trans (s₄.sendPrompt_upholds _ _ rfl)

theorem State.takeNoted_upholds (x : UpPort) : Upholds p q n s (s.takeNoted x) := by
  unfold State.takeNoted
  split
  · exact .refl s
  · exact s.takeOffer_upholds _ _ _ _

theorem State.readyStep_upholds : Upholds p q n s s.readyStep :=
  (s.takeNoted_upholds _).trans (State.takeNoted_upholds _ _)

theorem State.unaccountedStep_upholds : Upholds p q n s s.unaccountedStep :=
  .foldl (fun t _ => t.updChan_upholds _ _) _ s

theorem State.pass_upholds (b : Bool) : Upholds p q n s (s.pass b) := by
  unfold State.pass
  extract_lets s₁ s₂ s₃ s₄ s₅ s₆ s₇ s₈ s₉ s₁₀ s₁₁
  have e₁ : Upholds p q n s s₁ := s.bayFollows_upholds
  have e₂ : Upholds p q n s₁ s₂ := s₁.withdrawAtLevel3_upholds
  have e₃ : Upholds p q n s₂ s₃ := s₂.freeSpans_upholds
  have e₄ : Upholds p q n s₃ s₄ := s₃.pendingWake_upholds
  have e₅ : Upholds p q n s₄ s₅ := s₄.gateStep_upholds
  have e₆ : Upholds p q n s₅ s₆ := s₅.offerStep_upholds
  have e₇ : Upholds p q n s₆ s₇ := s₆.followBelt_upholds
  have e₈ : Upholds p q n s₇ s₈ := s₇.updateTarget_upholds
  have e₉ : Upholds p q n s₈ s₉ := .when fun _ => s₈.readyStep_upholds
  have e₁₀ : Upholds p q n s₉ s₁₀ := s₉.followIdle_upholds
  have e₁₁ : Upholds p q n s₁₀ s₁₁ := s₁₀.bayFollows_upholds
  exact e₁.trans <| e₂.trans <| e₃.trans <| e₄.trans <| e₅.trans <| e₆.trans <| e₇.trans <| e₈.trans <|
    e₉.trans <| e₁₀.trans <| e₁₁.trans s₁₁.unaccountedStep_upholds

theorem State.restrict3_upholds : Upholds p q n s s.restrict3 := by
  unfold State.restrict3
  exact .when fun _ => s.withdrawHead_upholds.trans (.unless fun _ =>
    (State.enterHold_upholds _).trans (State.updateTarget_upholds _))

theorem State.finish_upholds : Upholds p q n s s.finish :=
  (s.restrict3_upholds.trans (State.callLampStep_upholds _)).trans (State.attLampStep_upholds _)

theorem State.settle_upholds : Upholds p q n s s.settle :=
  ((s.pass_upholds true).trans ((State.pass_upholds _ true).trans (State.pass_upholds _ true))).trans
    (State.finish_upholds _)

theorem State.settleEdge_upholds : Upholds p q n s s.settleEdge :=
  ((s.pass_upholds false).trans ((State.pass_upholds _ false).trans (State.pass_upholds _ false))).trans
    (State.finish_upholds _)

end

end Sys2Proof.Machine

/-! What the end of a step adds for the drive (R62, R150), and what a whole event keeps: the relation `Safe`. -/

namespace Sys2Proof.Machine

/-! ### What the end of a step adds for the drive -/

section
variable (s : State)

theorem State.belt_enterHold : s.enterHold.dr.belt = .hold := by
  unfold State.enterHold
  extract_lets d reg s₁ src s₂
  have h₁ : s₂.queueStatus.dr = s₂.dr := State.get_queueStatus (b := .dr) s₂ (by decide)
  have h₂ : s₂.queueStatus.sendStalls.dr = s₂.queueStatus.dr :=
    State.get_sendStalls (b := .dr) _ (by decide) (by decide) (by decide)
  rw [h₂, h₁]

theorem State.idle_enterHold : s.enterHold.idle = s.idle :=
  State.get_enterHold (b := .idle) s (by decide) (by decide) (by decide) (by decide) (by decide)

theorem State.dr_withdrawHead : s.withdrawHead.dr = s.dr :=
  State.get_withdrawHead (b := .dr) s (by decide) (by decide) (by decide) (by decide)

theorem State.idle_withdrawHead : s.withdrawHead.idle = s.idle :=
  State.get_withdrawHead (b := .idle) s (by decide) (by decide) (by decide) (by decide)

/-- The idle logic counts toward PARK only in HOLD (R150, R155). -/
def State.IdleHeld (s : State) : Prop := (s.idle.phase = .timing ∨ s.idle.phase = .asking) → s.dr.belt = .hold

theorem State.idleHeld_congr {s t : State} (hi : t.idle = s.idle) (hd : t.dr = s.dr) (h : s.IdleHeld) :
    t.IdleHeld := by unfold State.IdleHeld; rw [hi, hd]; exact h

theorem State.belt_of_idleHold (h : s.idleHold = true) : s.dr.belt = .hold := by
  unfold State.idleHold at h
  simp only [Bool.and_eq_true, beq_iff_eq] at h
  exact h.1.1

theorem State.idleHeld_followIdle : s.followIdle.IdleHeld := by
  unfold State.followIdle
  split
  · rename_i hp
    split
    · rename_i hc; exact fun _ => s.belt_of_idleHold (Bool.and_eq_true_iff.1 hc).1
    · intro h; rw [hp] at h; exact h.elim nofun nofun
  · split
    · rename_i hc; exact fun _ => s.belt_of_idleHold hc
    · exact fun h => h.elim nofun nofun
  · split
    · rename_i hc; exact fun _ => s.belt_of_idleHold hc
    · exact fun h => h.elim nofun nofun
  · rename_i hp
    intro h; rw [hp] at h; exact h.elim nofun nofun

theorem State.idleHeld_pass (b : Bool) : (s.pass b).IdleHeld := by
  unfold State.pass
  extract_lets s₁ s₂ s₃ s₄ s₅ s₆ s₇ s₈ s₉ s₁₀ s₁₁
  have hb : s₁₁.IdleHeld := State.idleHeld_congr (State.get_bayFollows (b := .idle) s₁₀ (by decide) (by decide))
    (State.get_bayFollows (b := .dr) s₁₀ (by decide) (by decide)) s₉.idleHeld_followIdle
  exact State.idleHeld_congr (State.get_unaccountedStep (b := .idle) s₁₁ (by decide))
    (State.get_unaccountedStep (b := .dr) s₁₁ (by decide)) hb

theorem State.belt_restrict3 : s.restrict3.dr.belt = s.dr.belt ∨ s.restrict3.dr.belt = .hold := by
  unfold State.restrict3
  dsimp only
  split
  · split
    · rw [s.dr_withdrawHead]; exact .inl rfl
    · rw [State.belt_updateTarget, State.belt_enterHold]; exact .inr rfl
  · exact .inl rfl

theorem State.idle_restrict3 : s.restrict3.idle = s.idle := by
  unfold State.restrict3
  dsimp only
  split
  · split
    · exact s.idle_withdrawHead
    · rw [show (State.updateTarget s.withdrawHead.enterHold).idle = s.withdrawHead.enterHold.idle from
        State.get_updateTarget (b := .idle) _ (by decide), State.idle_enterHold, State.idle_withdrawHead]
  · rfl

/-- At level 3 the step ends with the belt in HOLD or PARK (R62). -/
theorem State.stopped_restrict3 (h : s.restrict3.att.level = 3) :
    s.restrict3.dr.belt = .hold ∨ s.restrict3.dr.belt = .park := by
  unfold State.restrict3 at h ⊢
  dsimp only at h ⊢
  split
  · split
    · assumption
    · rw [State.belt_updateTarget, State.belt_enterHold]; exact .inl rfl
  · rename_i hn
    rw [if_neg hn] at h
    exact absurd h hn

theorem State.dr_finish : s.finish.dr = s.restrict3.dr := rfl
theorem State.idle_finish : s.finish.idle = s.restrict3.idle := rfl
theorem State.level_finish : s.finish.att.level = s.restrict3.att.level := rfl

theorem State.driveSound_finish (hs : s.IdleHeld) (hd : s.finish.DriveOk) : s.finish.DriveSound := by
  obtain ⟨h₁, h₂, h₃, h₄⟩ := hd
  refine ⟨h₁, h₂, h₃, h₄, s.stopped_restrict3, fun hp => ?_⟩
  rw [State.idle_finish, State.idle_restrict3] at hp
  rcases s.belt_restrict3 with h | h
  · exact h.trans (hs hp)
  · exact h

theorem State.driveSound_settle (hd : s.settle.DriveOk) : s.settle.DriveSound :=
  State.driveSound_finish _ (State.idleHeld_pass _ true) hd

theorem State.driveSound_settleEdge (hd : s.settleEdge.DriveOk) : s.settleEdge.DriveSound :=
  State.driveSound_finish _ (State.idleHeld_pass _ false) hd

end

/-! ### A whole event -/

/-- What an event from s to t keeps: every invariant. -/
structure Safe (s t : State) : Prop where
  lamp : s.LampSound → t.LampSound
  line : s.LineSound → t.LineSound
  drive : s.DriveSound → t.DriveSound
  track : s.TrackSound → t.TrackSound
  numbers : s.NumbersSound → t.NumbersSound
  head : s.HeadSound → t.HeadSound

section
variable {p q n : Prop} {s t u : State}

theorem State.DriveSound.ok (h : s.DriveSound) : s.DriveOk := ⟨h.1, h.2.1, h.2.2.1, h.2.2.2.1⟩

theorem State.DriveSound.held (h : s.DriveSound) : s.IdleHeld := h.2.2.2.2.2

theorem Safe.refl (s : State) : Safe s s := ⟨id, id, id, id, id, id⟩

theorem Safe.trans (h : Safe s t) (k : Safe t u) : Safe s u :=
  ⟨k.lamp ∘ h.lamp, k.line ∘ h.line, k.drive ∘ h.drive, k.track ∘ h.track, k.numbers ∘ h.numbers, k.head ∘ h.head⟩

theorem Safe.of_upholds (h : Upholds s.DriveSound True True s t) (hd : s.DriveSound → t.DriveSound) : Safe s t :=
  ⟨h.lamp, h.line, hd, h.track, fun hs => by
    obtain ⟨hn, hb⟩ := State.numbersSound_iff.1 hs
    exact State.numbersSound_iff.2 ⟨h.names hn, h.numbers trivial hn _ hb⟩, h.head trivial⟩

/-- An event, and the derived actions of its step. -/
theorem Safe.settle (h : Upholds s.DriveSound True True s t) : Safe s t.settle := by
  have k := h.trans t.settle_upholds
  exact .of_upholds k fun hs => t.driveSound_settle (k.drive hs hs.ok)

theorem Safe.settleEdge (h : Upholds s.DriveSound True True s t) : Safe s t.settleEdge := by
  have k := h.trans t.settleEdge_upholds
  exact .of_upholds k fun hs => t.driveSound_settleEdge (k.drive hs hs.ok)

/-- An event without derived actions, which touches neither the belt nor the level nor the idle phase. -/
theorem Safe.quiet (h : Upholds s.DriveSound True True s t) (hb : t.dr.belt = s.dr.belt)
    (hl : t.att.level = s.att.level) (hp : t.idle.phase = s.idle.phase) : Safe s t :=
  .of_upholds h fun hs => by
    obtain ⟨h₁, h₂, h₃, h₄⟩ := h.drive hs hs.ok
    refine ⟨h₁, h₂, h₃, h₄, ?_, ?_⟩
    · rw [hl, hb]; exact hs.2.2.2.2.1
    · rw [hp, hb]; exact hs.held

theorem Safe.ite {c : Prop} [Decidable c] (h : c → Safe s t) (k : ¬ c → Safe s u) : Safe s (if c then t else u) := by
  split
  · exact h ‹_›
  · exact k ‹_›

theorem Safe.when {c : Prop} [Decidable c] (h : c → Safe s t) : Safe s (if c then t else s) := .ite h fun _ => .refl s

theorem Safe.foldl {α : Type} {f : State → α → State} (hf : ∀ t x, Safe t (f t x)) (l : List α) :
    ∀ s, Safe s (l.foldl f s) := by
  induction l with
  | nil => exact .refl
  | cons x l ih => exact fun s => (hf s x).trans (ih _)

end

end Sys2Proof.Machine

/-! The drive unit's, the track's, the eye unit's and the bay unit's events keep the invariants. -/

namespace Sys2Proof.Machine

section
variable {p q n : Prop} (s : State)

/-! ### The drive unit's and the track's events -/

theorem State.windowMeasure_upholds : Upholds p q n s s.windowMeasure := .sameBelt s rfl

theorem Drive.belt_lockStep (d : Drive) (e : Int) :
    ((d.lockStep e).belt, (d.lockStep e).level, (d.lockStep e).resume) = (d.belt, d.level, d.resume) := by
  unfold Drive.lockStep
  dsimp only
  (repeat' split) <;> rfl

theorem State.lockedNow_upholds : Upholds p q n s s.lockedNow := by
  unfold State.lockedNow
  exact .when fun _ => s.leaveRun_upholds

theorem BeltState.moves_of_regulated {b : BeltState} (h : BeltState.regulated b = true) : b ≠ .hold ∧ b ≠ .park := by
  cases b with
  | hold | spinUp | park => cases h
  | run | creep => exact ⟨(by decide), (by decide)⟩

theorem Drive.level_regulate_le (d : Drive) (e : Int) (g : Nat) : (d.regulate e g).level ≤ 1023 :=
  Nat.min_le_right _ _

theorem State.regulate_upholds (e : Int) (g : Nat) (h : BeltState.regulated s.dr.belt = true) :
    Upholds p q n s { s with dr := s.dr.regulate e g } := by
  refine .toMotion s ?_ (fun _ => ?_) rfl
  · exact BeltState.moves_of_regulated h
  · exact s.dr.level_regulate_le e g

/-- What follows the regulation for an error: a failure, or the lock step (R75 to R77). -/
def State.windowJudge (s : State) (e : Int) : State :=
  if s.dr.satHigh = 8 then
    State.raise { s with dr := { s.dr with lock := .failSlow } } .beltOverload s.dr.vmeas.val
  else if s.dr.satLow = 8 then
    State.raise { s with dr := { s.dr with lock := .failFast } } .beltOverrun s.dr.vmeas.val
  else State.lockedNow { s with dr := s.dr.lockStep e }

theorem State.windowRegulate_eq : s.windowRegulate =
    State.windowJudge { s with dr := s.dr.regulate ((s.dr.t16 : Int) - (s.dr.m16 : Int)) s.boot.prof.gain }
      ((s.dr.t16 : Int) - (s.dr.m16 : Int)) := rfl

theorem State.windowJudge_upholds (e : Int) : Upholds p q n s (s.windowJudge e) := by
  unfold State.windowJudge
  refine .ite (fun _ => ?_) fun _ => .ite (fun _ => ?_) fun _ => ?_
  · exact (State.raise_upholds _ _ _).after rfl
  · exact (State.raise_upholds _ _ _).after rfl
  · exact Upholds.trans (.sameBelt s (d := s.dr.lockStep e) (s.dr.belt_lockStep e)) (State.lockedNow_upholds _)

theorem State.windowRegulate_upholds (h : BeltState.regulated s.dr.belt = true) : Upholds p q n s s.windowRegulate := by
  rw [State.windowRegulate_eq]
  exact (s.regulate_upholds _ _ h).trans (State.windowJudge_upholds _ _)

theorem State.doWindowEnd_safe : Safe s s.doWindowEnd := by
  unfold State.doWindowEnd
  refine .when fun _ => .settle (s.windowMeasure_upholds.trans (.when fun h => ?_))
  exact State.windowRegulate_upholds _ h

theorem State.doBeltUnsteady_safe : Safe s s.doBeltUnsteady := by
  unfold State.doBeltUnsteady
  exact .when fun _ => .settle (s.raiseStanding_upholds _ _)

theorem State.doUnsteadyOver_safe : Safe s s.doUnsteadyOver := by
  unfold State.doUnsteadyOver
  exact .when fun _ => .settle (s.conditionEnd_upholds _)

theorem State.doSpinUpExpiry_safe : Safe s s.doSpinUpExpiry := by
  unfold State.doSpinUpExpiry
  refine .when fun _ => .settle ?_
  split
  · exact s.enterHold_upholds
  · rename_i hw; exact s.enterRegulated_upholds _ _ (Wanted.belt_moves hw) fun h => h.1

theorem State.doRecordVanish_safe : Safe s s.doRecordVanish := by
  unfold State.doRecordVanish
  split
  · exact .settle (s.vanish_upholds _)
  · exact .refl s

theorem State.doResidenceExposureMet_safe : Safe s s.doResidenceExposureMet := by
  unfold State.doResidenceExposureMet
  exact .when fun _ => .settle (.refl s)

/-! ### The eye unit's events -/

theorem State.correct_upholds (r : Rec) (v : Int) : Upholds p q n s (s.correct r v) := by
  unfold State.correct
  extract_lets c t
  have e : Upholds p q n s t := s.updRec_upholds _ _ (fun _ => rfl) (fun _ => rfl) fun _ => rfl
  exact e.trans (.when fun _ => t.recomputeGroup_upholds _)

theorem State.slipped_upholds (l : List Nat) : Upholds p q n s (s.slipped l) :=
  .foldl (fun t i => t.flagRec_upholds i _) l s

theorem State.takeAwaited_upholds (e : Eye) (x : Count) (r : Rec) : Upholds p q n s (s.takeAwaited e x r) := by
  unfold State.takeAwaited
  exact (s.setChan_upholds _ _).trans ((State.slipped_upholds _ _).trans (State.correct_upholds _ _ _))

theorem State.checkLead_upholds (e : Eye) (x : Count) : Upholds p q n s (s.checkLead e x) := by
  unfold State.checkLead
  dsimp only
  split
  · exact s.takeAwaited_upholds _ _ _
  · split
    · exact (s.setChan_upholds _ _).trans (State.correct_upholds _ _ _)
    · exact s.strayAt_upholds _

theorem State.entryLeadEdge_upholds (x : Count) (hm : s.boot.mode ≠ .loading) :
    Upholds p q n s (s.entryLeadEdge x) :=
  Upholds.trans (t := { s with eyes := { s.eyes with lead := some x, leadFresh := true } }) (.aside rfl)
    (State.entryLead_upholds _ _ hm)

theorem State.entryTrailEdge_upholds (x : Count) : Upholds p q n s (s.entryTrailEdge x) :=
  Upholds.trans (t := { s with eyes := { s.eyes with trail := some x, trailFresh := false, leadFresh := false } })
    (.aside rfl) (State.entryTrail_upholds _ _)

/-- The exit passage given to a record: one TAKEN is LEAVING. -/
theorem State.givePassage_upholds (i : Nat) : Upholds p q n s (s.updRec i fun r =>
    { r with exitPass := .spanning, state := if r.state = .taken then .leaving else r.state }) := by
  refine s.updRec_upholds _ _ (fun _ => rfl) (fun _ => rfl) fun r => ?_
  unfold Rec.handed
  dsimp only
  split
  · rename_i h; rw [h]; rfl
  · rfl

theorem State.takePassage_upholds (r : Rec) : Upholds p q n s (s.takePassage r) := by
  unfold State.takePassage
  exact ((s.givePassage_upholds _).trans (State.updChan_upholds _ _ _)).rehead

theorem State.exitLead_upholds (x : Count) : Upholds p q n s (s.exitLead x) := by
  unfold State.exitLead
  split
  · exact (Upholds.foldl (fun t r => t.vanish_upholds r) _ s).trans (State.takePassage_upholds _ _)
  · exact (s.strayAt_upholds _).trans (State.updChan_upholds _ _ _)

theorem State.exitTrail_upholds : Upholds p q n s s.exitTrail := by
  unfold State.exitTrail
  split
  · exact .refl s
  · rename_i r hr
    extract_lets t
    have e : Upholds p q n s t := s.updRec_upholds _ _ (fun _ => rfl) (fun _ => rfl) fun _ => rfl
    exact e.trans (.ite (fun _ => .when fun _ => t.removeRec_upholds _) fun _ => t.vanish_upholds _)

theorem State.displaceHead_upholds : Upholds p q n s s.displaceHead := by
  unfold State.displaceHead
  extract_lets t
  have e : Upholds p q n s t := s.withdrawHead_upholds
  split
  · exact e
  · refine Upholds.trans (e.trans ?_) (State.callLampStep_upholds _)
    refine t.updRec_upholds _ _ (fun _ => rfl) (fun _ => rfl) fun x => ?_
    unfold Rec.handed
    dsimp only
    split
    · rename_i h
      rw [Bool.or_eq_true, decide_eq_true_iff, decide_eq_true_iff] at h
      rcases h with h | h <;> rw [h] <;> rfl
    · rfl

theorem State.length_updRec (i : Nat) (f : Rec → Rec) : (s.updRec i f).track.length = s.track.length :=
  List.length_map _

theorem State.length_withdrawHead : s.withdrawHead.track.length = s.track.length := by
  unfold State.withdrawHead
  (repeat' split) <;> first
    | rfl
    | rw [State.length_updRec, State.track_sendWithdraw]

theorem State.length_displaceHead : s.displaceHead.track.length = s.track.length := by
  unfold State.displaceHead
  dsimp only
  split
  · exact s.length_withdrawHead
  · show (State.updRec _ _ _).track.length = _
    rw [State.length_updRec, State.length_withdrawHead]

theorem State.get_displaceHead {b : Block} (h : b ≠ .ex) (h₁ : b ≠ .att) (h₂ : b ≠ .line) (h₃ : b ≠ .track)
    (h₄ : b ≠ .bay) : s.displaceHead.get b = s.get b := by
  unfold State.displaceHead
  dsimp only
  split <;> simp [h, h₁, h₂, h₃, h₄]

theorem State.placeRec_upholds (x : Count) (hm : s.boot.mode ≠ .loading) : Upholds p q n s (s.placeRec x) := by
  unfold State.placeRec
  refine .ite (fun _ => s.strayAt_upholds _) fun hl => ?_
  extract_lets i o src r k s₁ s₂
  have e₁ : Upholds p q n s s₁ := .when fun _ => s.displaceHead_upholds
  have hs₁ : s₁.boot = s.boot ∧ s₁.nextId = s.nextId ∧ s₁.track.length = s.track.length := by
    simp only [s₁]
    split
    · exact ⟨s.get_displaceHead (b := .boot) (by decide) (by decide) (by decide) (by decide) (by decide),
        s.get_displaceHead (b := .nextId) (by decide) (by decide) (by decide) (by decide) (by decide),
        s.length_displaceHead⟩
    · exact ⟨rfl, rfl, rfl⟩
  obtain ⟨hb, hi, ht⟩ := hs₁
  have e₂ : Upholds p False n s₁ s₂ := by
    simp only [s₂, i, ← hi]
    refine .insert k hi.symm ?_ (fun h => absurd (hb ▸ h) hm) fun _ => rfl
    unfold State.trackFull at hl ⊢
    rw [hb, ht]
    simpa using hl
  exact ((e₁.loose.trans e₂).trans (s₂.joinAwaited_upholds _ _)).rehead

theorem State.eyeCleared_upholds (e : Eye) : Upholds p q n s (s.eyeCleared e) := by
  unfold State.eyeCleared
  extract_lets c s₁ s₂
  have e₁ : Upholds p q n s s₁ := s.setChan_upholds _ _
  have e₂ : Upholds p q n s₁ s₂ := .when fun _ => s₁.conditionEnd_upholds _
  exact (e₁.trans e₂).trans (.when fun _ => s₂.conditionEnd_upholds _)

theorem State.changeChan_upholds (e : Eye) (x : PendEdge) : Upholds p q n s (s.changeChan e x) := by
  unfold State.changeChan
  extract_lets c st t
  have e₁ : Upholds p q n s t := s.setChan_upholds _ _
  exact e₁.trans (.unless fun _ => t.eyeCleared_upholds e)

/-- The channel at its new state, before a jam or stuck condition ends. -/
def State.edgeChan (s : State) (e : Eye) (p : PendEdge) : EyeChan :=
  let c := s.chan e
  let st := (EyeState.confirm c.st p.reverse).1
  { c with
    st := st
    pend := none
    blockedFrom := if EyeState.isBlocked st then p.count else c.blockedFrom
    jamDist := if e = .exit && st == .returned then s.jamOfMax else c.jamDist }

theorem State.changeChan_eq (e : Eye) (p : PendEdge) : s.changeChan e p =
    if EyeState.isBlocked (EyeState.confirm (s.chan e).st p.reverse).1 then s.setChan e (s.edgeChan e p)
    else (s.setChan e (s.edgeChan e p)).eyeCleared e := rfl

theorem State.get_eyeCleared (e : Eye) {b : Block} (h : b ≠ .eyes) (h₁ : b ≠ .att) (h₂ : b ≠ .line)
    (h₃ : b ≠ .ex) (h₄ : b ≠ .dr) :
    (s.eyeCleared e).get b = s.get b := by
  unfold State.eyeCleared
  extract_lets c t u
  have ht : t.get b = s.get b := State.get_setChan _ _ _ h
  have hu : u.get b = t.get b := by
    simp only [u]
    split
    · exact State.get_conditionEnd _ _ h₁ h₃ h₄ h₂
    · rfl
  split
  · exact (State.get_conditionEnd _ _ h₁ h₃ h₄ h₂).trans (hu.trans ht)
  · exact hu.trans ht

theorem State.get_changeChan (e : Eye) (p : PendEdge) {b : Block} (h : b ≠ .eyes) (h₁ : b ≠ .att) (h₂ : b ≠ .line)
    (h₃ : b ≠ .ex) (h₄ : b ≠ .dr) :
    (s.changeChan e p).get b = s.get b := by
  rw [State.changeChan_eq]
  split
  · exact State.get_setChan _ _ _ h
  · exact (State.get_eyeCleared _ _ h h₁ h₂ h₃ h₄).trans (State.get_setChan _ _ _ h)

theorem State.boot_changeChan (e : Eye) (x : PendEdge) : (s.changeChan e x).boot = s.boot :=
  s.get_changeChan e x (b := .boot) (by decide) (by decide) (by decide) (by decide) (by decide)

theorem State.bayLead_upholds (x : Count) (hm : s.boot.mode ≠ .loading) : Upholds p q n s (s.bayLead x) := by
  unfold State.bayLead
  exact .unless fun _ => s.placeRec_upholds x hm

theorem State.bayTrail_upholds : Upholds p q n s s.bayTrail := by
  unfold State.bayTrail
  split
  · exact s.removeRec_upholds _
  · exact .refl s

theorem State.deliver_upholds (e : Eye) (x : Count) (k : Edge) (hm : s.boot.mode ≠ .loading) :
    Upholds p q n s (s.deliver e x k) := by
  unfold State.deliver
  split
  · exact s.entryLeadEdge_upholds x hm
  · exact s.entryTrailEdge_upholds x
  · exact s.exitLead_upholds x
  · exact s.exitTrail_upholds
  · exact .ite (fun _ => s.bayLead_upholds x hm) fun _ => s.checkLead_upholds _ x
  · exact .when fun _ => s.bayTrail_upholds
  · exact s.checkLead_upholds _ x
  · exact .refl s

theorem State.confirm_upholds (e : Eye) (x : PendEdge) (hm : s.boot.mode ≠ .loading) :
    Upholds p q n s (s.confirm e x) := by
  unfold State.confirm
  extract_lets k s₁ s₂
  have e₁ : Upholds p q n s s₁ := s.changeChan_upholds e x
  have e₂ : Upholds p q n s₁ s₂ := by
    clear_value k
    cases k with
    | some k => exact s₁.deliver_upholds _ _ _ (by rw [s.boot_changeChan]; exact hm)
    | none => exact .refl s₁
  exact (e₁.trans e₂).trans (s₂.updChan_upholds _ _)

theorem State.doEyeEdgeConfirm_safe (e : Eye) : Safe s (s.doEyeEdgeConfirm e) := by
  unfold State.doEyeEdgeConfirm
  split
  · rename_i x hx
    refine .settle (s.confirm_upholds e x ?_)
    unfold State.confirmDue at hx
    split at hx
    · cases hx
    · split at hx
      · rename_i hc
        simp only [Bool.and_eq_true, beq_iff_eq] at hc
        rw [hc.1.1.1]
        exact (by decide)
      · cases hx
  · exact .refl s

theorem State.takeFirst_upholds (e : Eye) : Upholds p q n s (s.takeFirst e) := s.setChan_upholds _ _

/-- The mode becomes one past LOADING. -/
theorem Upholds.mode (m : Mode) (h : m ≠ .loading) : Upholds p q n s { s with boot := { s.boot with mode := m } } :=
  ⟨id, id, fun _ => id, fun ⟨h₁, h₂, _⟩ => ⟨h₁, h₂, fun h' => absurd h' h⟩, id, fun _ _ _ => id, fun _ => id⟩

theorem State.enterActive_upholds : Upholds p q n s s.enterActive := by
  unfold State.enterActive
  extract_lets x x' t y u
  have e₁ : Upholds p q n s t :=
    (s.scan_upholds.trans (.mode _ .active nofun)).trans (State.queueStatus_upholds _)
  have e₂ : Upholds p q n t u := .aside rfl
  refine (e₁.trans e₂).trans (.when fun _ => ?_)
  exact (State.queueWant_upholds _).after rfl

theorem State.get_takeFirst {b : Block} (e : Eye) (h : b ≠ .eyes) : (s.takeFirst e).get b = s.get b :=
  State.get_setChan s e _ h

theorem State.doEyeFirstState_safe (e : Eye) : Safe s (s.doEyeFirstState e) := by
  unfold State.doEyeFirstState
  extract_lets t
  have e₁ : Upholds s.DriveSound True True s t := s.takeFirst_upholds e
  refine .when fun _ => .ite (fun _ => .settle (e₁.trans t.enterActive_upholds)) fun _ => ?_
  have k (b : Block) (h : b ≠ .eyes) : t.unaccountedStep.get b = s.get b :=
    (t.get_unaccountedStep h).trans (s.get_takeFirst e h)
  refine .quiet (e₁.trans t.unaccountedStep_upholds) ?_ ?_ ?_
  · exact congrArg Drive.belt (k .dr (by decide))
  · exact congrArg Attention.level (k .att (by decide))
  · exact congrArg Idle.phase (k .idle (by decide))

theorem State.doCheckMissed_safe (e : Eye) : Safe s (s.doCheckMissed e) := by
  unfold State.doCheckMissed
  split
  · exact .refl s
  · exact .settle ((s.setChan_upholds _ _).trans (State.flagRec_upholds _ _ _))

theorem State.doEyeJam_safe (e : Eye) : Safe s (s.doEyeJam e) := by
  unfold State.doEyeJam
  exact .when fun _ => .settle ((s.updChan_upholds _ _).trans (State.raiseStanding_upholds _ _ _))

theorem State.doEyeStuck_safe (e : Eye) : Safe s (s.doEyeStuck e) := by
  unfold State.doEyeStuck
  exact .when fun _ => .settle ((s.updChan_upholds _ _).trans (State.raiseStanding_upholds _ _ _))

/-! ### The bay unit's events -/

theorem State.pressWakes_upholds : Upholds p q n s s.pressWakes := by
  unfold State.pressWakes
  exact .when fun _ => s.wake_upholds

theorem State.doClassKeyPress_safe (c : RackClass) : Safe s (s.doClassKeyPress c) := by
  unfold State.doClassKeyPress
  exact .when fun _ => .settle ((State.pressWakes_upholds _).after rfl)

theorem State.setReleased_upholds (r : Rec) (c : RackClass) : Upholds p q n s (s.setReleased r c) :=
  (s.updRec_upholds r.id (fun x => { x with cls := c }) (fun _ => rfl) (fun _ => rfl) fun _ => rfl).trans (.aside rfl)

theorem State.sendPressed_upholds : Upholds p q n s s.sendPressed := by
  unfold State.sendPressed
  split
  · refine .unless fun _ => ?_
    extract_lets t src u
    have e : Upholds p q n s u := (s.setReleased_upholds _ _).trans (.aside rfl)
    exact e.trans (.when fun _ => u.updRec_upholds _ _ (fun _ => rfl) (fun _ => rfl) fun _ => rfl)
  · exact .refl s

theorem State.emptyPressed_upholds : Upholds p q n s s.emptyPressed := by
  unfold State.emptyPressed
  split
  · exact .refl s
  · exact .ite (fun _ => s.setReleased_upholds _ _) fun _ => .when fun _ =>
      s.updRec_upholds _ _ (fun _ => rfl) (fun _ => rfl) fun _ => rfl

theorem State.bothPressed_safe : Safe s s.bothPressed :=
  .settle ((State.pressWakes_upholds _).after rfl)

theorem State.doSendKeyPress_safe : Safe s s.doSendKeyPress := by
  unfold State.doSendKeyPress
  refine .when fun _ => .ite (fun _ => s.bothPressed_safe) fun _ => .settle ?_
  refine Upholds.after (.when fun _ => ?_) rfl
  exact (State.sendPressed_upholds _).trans (State.pressWakes_upholds _)

theorem State.doEmptyKeyPress_safe : Safe s s.doEmptyKeyPress := by
  unfold State.doEmptyKeyPress
  refine .when fun _ => .ite (fun _ => s.bothPressed_safe) fun _ => .settle ?_
  refine Upholds.after (.when fun _ => ?_) rfl
  exact (State.emptyPressed_upholds _).trans (State.pressWakes_upholds _)

theorem State.doKeyRelease_safe (k : OpKey) : Safe s (s.doKeyRelease k) := by
  unfold State.doKeyRelease
  split <;> exact .when fun _ => .quiet (.aside rfl) rfl rfl rfl

theorem State.doWantTimer_safe : Safe s s.doWantTimer := by
  unfold State.doWantTimer
  exact .when fun _ => .settle ((State.queueWant_upholds _).after rfl)

theorem State.doCallLampFlash_safe : Safe s s.doCallLampFlash := by
  unfold State.doCallLampFlash
  exact .when fun _ => .quiet (.aside rfl) rfl rfl rfl

end

end Sys2Proof.Machine

/-! The events of the attention unit, the hand-off engine, the idle logic, the route unit, the line interface, of
start-up and of the tag port keep the invariants. -/

namespace Sys2Proof.Machine

section
variable {p q n : Prop} (s : State)

/-! ### The attention unit's events -/

theorem State.flushEyes_upholds : Upholds p q n s s.flushEyes := .aside rfl

theorem State.namesSound_of_empty {s : State} (h : s.track = []) : s.NamesSound := by
  unfold State.NamesSound
  rw [h]
  exact ⟨List.nodup_nil, fun _ h => absurd h List.not_mem_nil⟩

theorem State.numbersBut_of_empty {s : State} (h : s.track = []) (X : Nat → Prop) : s.NumbersBut X := by
  unfold State.NumbersBut
  rw [h]
  exact .nil

theorem State.headSound_of_empty {s : State} (h : s.track = []) : s.HeadSound := by
  refine ⟨State.namesSound_of_empty h, fun r hr => ?_⟩
  rw [State.head, h] at hr
  cases hr

/-- The track emptied, whatever the mark group. -/
theorem Upholds.clear (m : MarkGroup) : Upholds p q n s { s with track := [], marks := m } where
  lamp := id
  line := id
  drive _ := id
  track := fun ⟨h₁, _, h₃⟩ => ⟨h₁, Nat.zero_le _, fun h => ⟨(h₃ h).1, rfl⟩⟩
  names _ := State.namesSound_of_empty rfl
  numbers _ _ X _ := State.numbersBut_of_empty rfl X
  head _ _ := State.headSound_of_empty rfl

theorem State.flushTrack_upholds : Upholds p q n s s.flushTrack := by
  unfold State.flushTrack
  exact (Upholds.clear s s.marks.ended).trans (.aside rfl)

theorem State.flushDrive_upholds : Upholds p q n s s.flushDrive := by
  unfold State.flushDrive
  extract_lets w d t
  have e : Upholds p q n s t := .toHold s rfl fun _ _ => Nat.zero_le _
  exact e.trans (.unless fun _ => t.queueStatus_upholds)

theorem State.flushAll_upholds : Upholds p q n s s.flushAll := by
  unfold State.flushAll
  have e₁ : Upholds p q n s s.flushExit := .aside rfl
  have e₂ : Upholds p q n s.flushExit s.flushExit.flushEntry := .aside rfl
  have e₃ (t : State) : Upholds p q n t t.flushTag := .aside rfl
  have e₄ (t : State) : Upholds p q n t t.flushBay := .aside rfl
  have e₅ (t : State) : Upholds p q n t t.flushIdle := .aside rfl
  exact e₁.trans <| e₂.trans <| (State.flushEyes_upholds _).trans <| (e₃ _).trans <|
    (State.flushTrack_upholds _).trans <| (State.flushDrive_upholds _).trans <| (e₄ _).trans <|
    (e₅ _).trans (State.scan_upholds _)

theorem State.onAsk_upholds (x : Station) : Upholds p q n s (s.onAsk x) := by
  unfold State.onAsk
  refine .unless fun _ => s.sendPrompt_upholds _ _ ?_
  unfold State.askAnswer
  split <;> rfl

theorem State.onAck_upholds (x : Station) : Upholds p q n s (s.onAck x) := by
  unfold State.onAck
  exact .when fun _ => s.ackTop_upholds

theorem State.onClear_upholds (x : Station) : Upholds p q n s (s.onClear x) := by
  unfold State.onClear
  exact .when fun _ => s.clearAll_upholds

theorem State.onFlush_upholds (x : Station) : Upholds p q n s (s.onFlush x) := by
  unfold State.onFlush
  exact .when fun _ => s.flushAll_upholds

theorem State.doAckKeyPress_safe : Safe s s.doAckKeyPress := by
  unfold State.doAckKeyPress
  exact .when fun _ => .settle ((State.pressWakes_upholds _).after rfl)

theorem State.holdClear_upholds : Upholds p q n s s.holdClear := by
  unfold State.holdClear
  split
  · exact .refl s
  · exact .when fun _ => (State.clearAll_upholds _).after rfl

theorem State.holdFlush_upholds : Upholds p q n s s.holdFlush := by
  unfold State.holdFlush
  split
  · exact .refl s
  · exact .when fun _ => .ite (fun _ => (State.flushAll_upholds _).after rfl) fun _ => .aside rfl

theorem State.doAckKeyHoldClear_safe : Safe s s.doAckKeyHoldClear := by
  unfold State.doAckKeyHoldClear
  split
  · exact .refl s
  · exact .when fun _ => .settle s.holdClear_upholds

theorem State.doAckKeyHoldFlush_safe : Safe s s.doAckKeyHoldFlush := by
  unfold State.doAckKeyHoldFlush
  split
  · exact .refl s
  · exact .when fun _ => .settle (s.holdClear_upholds.trans (State.holdFlush_upholds _))

theorem State.doAckKeyRelease_safe : Safe s s.doAckKeyRelease := by
  unfold State.doAckKeyRelease
  refine .when fun _ => ?_
  split
  · exact .quiet (.aside rfl) rfl rfl rfl
  · refine .settle ((s.holdClear_upholds.trans (State.holdFlush_upholds _)).trans (Upholds.after (.when fun _ => ?_) rfl))
    exact State.ackTop_upholds _

theorem State.doAttentionLampFlash_safe : Safe s s.doAttentionLampFlash := by
  unfold State.doAttentionLampFlash
  refine .when fun h => .quiet (.att _ fun hs => ?_) rfl rfl rfl
  refine ⟨hs.1, Lamp.ok_toggle hs.2 ?_⟩
  rw [show s.att.lamp.left = some 0 from by simpa [expired] using h]
  rfl

theorem State.doEstopOpen_safe : Safe s s.doEstopOpen := by
  unfold State.doEstopOpen
  exact .when fun _ => .settle (s.raiseStanding_upholds _ _)

theorem State.doEstopClose_safe : Safe s s.doEstopClose := by
  unfold State.doEstopClose
  exact .when fun _ => .settle (s.conditionEnd_upholds _)

/-! ### The hand-off engine -/

theorem State.onTake_upholds (x : Station) (m : Serial) : Upholds p q n s (s.onTake x m) := by
  unfold State.onTake
  split
  · exact s.release_upholds _ _ (fun _ => rfl) fun _ => rfl
  · exact .refl s

theorem State.onAnswer_upholds (x : Station) (m : Serial) : Upholds p q n s (s.onAnswer x m) := by
  unfold State.onAnswer
  split
  · rename_i r hr
    exact (s.updRec_upholds r.id (fun y => { y with answered := true }) (fun _ => rfl) (fun _ => rfl)
      fun _ => rfl).trans (.aside rfl)
  · exact .refl s

theorem State.answerLanded_upholds (x : Station) (d : DownPort) (r : Rec) (m : RackNo) (a : LandAnswer) :
    Upholds p q n s (s.answerLanded x d r m a) := by
  unfold State.answerLanded
  extract_lets b t u
  have e₁ : Upholds p q n s t := s.updRec_upholds _ _ (fun _ => rfl) (fun _ => rfl) fun _ => rfl
  have e₂ : Upholds p q n t u := .when fun _ => t.steeredAdd_upholds _ _ _
  exact (e₁.trans e₂).trans (.when fun _ => u.removeRec_upholds _)

theorem State.lateLanding_upholds (x : LostEntry) : Upholds p q n s (s.lateLanding x) := by
  unfold State.lateLanding
  extract_lets src t e u
  have e₁ : Upholds p q n s t := .aside rfl
  refine e₁.trans (.unless fun _ => ?_)
  have e₂ : Upholds p q n t u := t.setCause_upholds _ _ rfl
  exact e₂.trans (.when fun _ => u.absentAll_upholds _)

theorem State.onLanded_upholds (x : Station) (m : Serial) (k : RackNo) (a : LandAnswer) :
    Upholds p q n s (s.onLanded x m k a) := by
  unfold State.onLanded
  split
  · exact .refl s
  · split
    · exact s.answerLanded_upholds _ _ _ _ _
    · split
      · exact s.lateLanding_upholds _
      · exact .refl s

theorem State.passOn_upholds : Upholds p q n s s.passOn := by
  unfold State.passOn
  split
  · exact .refl s
  · exact (s.givePassage_upholds _).trans (State.updChan_upholds _ _ _)

theorem State.onSkipped_upholds (x : Station) (m : Serial) : Upholds p q n s (s.onSkipped x m) := by
  unfold State.onSkipped
  split
  · exact .refl s
  · split
    · exact .refl s
    · rename_i r hr
      extract_lets t
      have e : Upholds p q n s t := s.giveUp_upholds r
      exact e.trans (.when fun _ => t.passOn_upholds)

theorem State.noteOffer_upholds (x : UpPort) (m : Serial) (i : Image) (rt : Option Route) :
    Upholds p q n s (s.noteOffer x m i rt) :=
  (s.setNoted_upholds _ _).trans (State.sendPrompt_upholds _ _ _ rfl)

theorem State.offerRoute_upholds (o : Option Noted) (i : Image) : Upholds p q n s (s.offerRoute o i).1 := by
  unfold State.offerRoute
  split
  · split
    · exact .refl s
    · exact s.resolve_upholds _
  · exact .refl s

theorem State.refuseOffer_upholds (x : UpPort) (st : Station) (m : Serial) (c : RefuseReason) :
    Upholds p q n s (State.sendPrompt (s.setNoted x none) st (.refuse m c)) :=
  (s.setNoted_upholds _ _).trans (State.sendPrompt_upholds _ _ _ rfl)

theorem State.answerOffer_upholds (x : UpPort) (m : Serial) (i : Image) : Upholds p q n s (s.answerOffer x m i) := by
  unfold State.answerOffer
  split
  · exact (s.setSlot_upholds _ _).trans (State.sendPrompt_upholds _ _ _ rfl)
  · dsimp only
    split
    · exact .ite (fun _ => s.noteOffer_upholds _ _ _ _) fun _ => .ite (fun _ => s.refuseOffer_upholds _ _ _ _)
        fun _ => s.takeOffer_upholds _ _ _ _
    · refine .ite (fun _ => s.refuseOffer_upholds _ _ _ _) fun _ => (s.offerRoute_upholds none i).trans ?_
      exact .ite (fun _ => State.takeOffer_upholds _ _ _ _ _) fun _ => State.noteOffer_upholds _ _ _ _ _

theorem State.onOffer_upholds (x : Station) (m : Serial) (i : Image) : Upholds p q n s (s.onOffer x m i) := by
  unfold State.onOffer
  split
  · exact .refl s
  · exact .refl s
  · exact s.sendPrompt_upholds _ _ rfl
  · split
    · exact s.sendPrompt_upholds _ _ rfl
    · exact s.answerOffer_upholds _ _ _

theorem State.onWithdraw_upholds (x : Station) (m : Serial) : Upholds p q n s (s.onWithdraw x m) := by
  unfold State.onWithdraw
  split
  · exact .refl s
  · extract_lets t
    have e : Upholds p q n s t := .when fun _ => s.setNoted_upholds _ _
    exact e.trans (.aside rfl)

theorem State.onWhere_upholds (x : Station) (m : Serial) : Upholds p q n s (s.onWhere x m) := by
  unfold State.onWhere
  split
  · exact .refl s
  · refine .when fun _ => ?_
    split
    · exact s.sendPrompt_upholds _ _ rfl
    · split
      · exact .when fun _ => s.sendPrompt_upholds _ _ rfl
      · exact s.sendPrompt_upholds _ _ rfl

theorem State.updNeighs_upholds (f : Neigh → Neigh) : Upholds p q n s (s.updNeighs f) := .aside rfl

theorem State.onStall_upholds (x : Station) : Upholds p q n s (s.onStall x) := by
  unfold State.onStall
  split
  · exact .when fun _ => s.setSpan_upholds _ _
  · exact .refl s

theorem State.onGo_upholds (x : Station) (v : Fin 1000) : Upholds p q n s (s.onGo x v) := by
  unfold State.onGo
  extract_lets t
  have e : Upholds p q n s t := s.updNeighs_upholds _
  split
  · exact e.trans (t.setSpan_upholds _ _)
  · exact e

theorem State.doOfferResend_safe : Safe s s.doOfferResend := by
  unfold State.doOfferResend
  split
  · split
    · exact .settle ((State.sendPrompt_upholds _ _ _ rfl).after rfl)
    · exact .refl s
  · exact .refl s

theorem State.doWhereSent_safe : Safe s s.doWhereSent := by
  unfold State.doWhereSent
  split
  · exact .refl s
  · extract_lets t
    have e : Upholds s.DriveSound True True s t :=
      s.updRec_upholds _ _ (fun _ => rfl) (fun _ => rfl) fun _ => rfl
    split
    · exact .settle (e.trans (t.sendPrompt_upholds _ _ rfl))
    · exact .settle e

theorem State.doTransferExpiry_safe : Safe s s.doTransferExpiry := by
  unfold State.doTransferExpiry
  split
  · exact .settle (s.giveUp_upholds _)
  · exact .refl s

theorem State.doEntryReady_safe : Safe s s.doEntryReady := by
  unfold State.doEntryReady
  exact .when fun _ => .settle s.readyStep_upholds

theorem State.doSlotArrivalExpiry_safe : Safe s s.doSlotArrivalExpiry := by
  unfold State.doSlotArrivalExpiry
  split
  · exact .settle ((s.setSlot_upholds _ _).trans (State.raise_upholds _ _ _))
  · exact .refl s

theorem State.doGateSettle_safe : Safe s s.doGateSettle := by
  unfold State.doGateSettle
  exact .when fun _ => .settle (.aside rfl)

theorem State.reResolve_upholds (r : Rec) (rt : Route) : Upholds p q n s (s.reResolve r rt) := by
  unfold State.reResolve
  extract_lets t u
  have e : Upholds p q n s u := s.withdrawHead_upholds.trans (State.flagRec_upholds _ _ _)
  exact e.trans (.aside rfl)

theorem State.doPatienceExpiry_safe : Safe s s.doPatienceExpiry := by
  unfold State.doPatienceExpiry
  split
  · exact .ite (fun _ => .settle (s.reResolve_upholds _ _)) fun _ => .settle (.aside rfl)
  · exact .refl s

/-! ### The idle logic and the route unit -/

theorem State.doParkDelayExpiry_safe : Safe s s.doParkDelayExpiry := by
  unfold State.doParkDelayExpiry
  refine .when fun h => ?_
  split
  · exact .settle (s.enterPark_upholds fun hd => hd.held (.inl h.1))
  · extract_lets src t
    have e : Upholds s.DriveSound True True s t := .aside rfl
    exact .settle (e.trans (.foldl (fun u x => u.sendPrompt_upholds _ _ rfl) _ t))

theorem State.onDozeAsk_upholds (x : Station) : Upholds p q n s (s.onDozeAsk x) := by
  unfold State.onDozeAsk
  split
  · exact .refl s
  · refine .when fun _ => s.sendPrompt_upholds _ _ ?_
    split <;> rfl

theorem State.onDozeAllow_upholds (x : Station) (h : p → s.IdleHeld) : Upholds p q n s (s.onDozeAllow x) := by
  unfold State.onDozeAllow
  split
  · exact .refl s
  · rename_i y _
    refine .when fun hp => ?_
    extract_lets t
    have e : Upholds p q n s t := s.setReply_upholds _ _
    refine e.trans (.when fun _ => t.enterPark_upholds fun hpp => ?_)
    rw [show t.dr = s.dr from State.dr_setReply s _ _]
    exact h hpp (.inr hp)

theorem State.onDozeDeny_upholds (x : Station) : Upholds p q n s (s.onDozeDeny x) := by
  unfold State.onDozeDeny
  split
  · exact .refl s
  · exact .when fun _ => (s.setReply_upholds _ _).trans (State.startTiming_upholds _)

theorem State.doDozeReplyTimeout_safe : Safe s s.doDozeReplyTimeout := by
  unfold State.doDozeReplyTimeout
  exact .when fun _ => .settle s.startTiming_upholds

theorem State.doPoll_safe : Safe s s.doPoll := by
  unfold State.doPoll
  exact .when fun _ => .settle (Upholds.after (.when fun _ => State.wake_upholds _) rfl)

theorem State.onWant_upholds (x : Station) (w : Fin 16) : Upholds p q n s (s.onWant x w) := by
  unfold State.onWant
  exact .when fun _ => .aside rfl

theorem State.dropSteered_upholds {t : State} {d : DownPort} {f : Steered → Bool} (h : s.dropSteered d f = some t) :
    Upholds p q n s t := by
  unfold State.dropSteered at h
  obtain ⟨l, -, rfl⟩ := Option.map_eq_some_iff.1 h
  exact s.setSteered_upholds _ _

theorem State.rackInSteered_upholds (x : Station) (m : RackNo) : Upholds p q n s (s.rackInSteered x m) := by
  unfold State.rackInSteered
  extract_lets b first numbered
  have e : ∀ t, numbered = some t → Upholds p q n s t := by
    intro t ht
    simp only [numbered] at ht
    split at ht
    · cases ht
    · split at ht
      · rename_i hd; exact s.dropSteered_upholds (ht ▸ hd)
      · exact s.dropSteered_upholds ht
  clear_value numbered b
  cases numbered with
  | some t => exact e t rfl
  | none =>
    cases b with
    | none => exact .refl s
    | some d =>
      dsimp only
      cases hd : s.dropSteered d (fun x => x.number == notag) with
      | none => exact .refl s
      | some t => exact s.dropSteered_upholds hd

theorem State.onRackIn_upholds (x : Station) (m : RackNo) (st : Station) : Upholds p q n s (s.onRackIn x m st) := by
  unfold State.onRackIn
  exact .when fun _ => s.rackInSteered_upholds _ _

theorem State.doWantExpiry_safe (l : Station) : Safe s (s.doWantExpiry l) := by
  unfold State.doWantExpiry
  exact .when fun _ => .settle (.aside rfl)

theorem State.doSteerExpiry_safe (d : DownPort) : Safe s (s.doSteerExpiry d) := by
  unfold State.doSteerExpiry
  split
  · exact .refl s
  · exact .when fun _ => .settle (s.setSteered_upholds _ _)

/-! ### The line interface -/

theorem State.refresh_upholds (x : Station) : Upholds p q n s (s.refresh x) := by
  unfold State.refresh
  extract_lets b t
  have e : Upholds p q n s t := s.updNeighs_upholds _
  exact e.trans (.when fun _ => t.conditionEnd_upholds _)

theorem State.handOffFrame_upholds (h : Hdr) {f : State → State} (hf : Upholds p q n s (f s)) :
    Upholds p q n s (s.handOffFrame h f) := by
  unfold State.handOffFrame
  exact .when fun _ => hf.trans (State.wake_upholds _)

theorem State.deliverFrame_upholds (h : Hdr) (x : Payload) (hp : p → s.IdleHeld) :
    Upholds p q n s (s.deliverFrame h x) := by
  unfold State.deliverFrame
  split
  · exact s.handOffFrame_upholds h (s.onOffer_upholds _ _ _)
  · exact s.handOffFrame_upholds h (s.onTake_upholds _ _)
  · exact s.handOffFrame_upholds h (s.onAnswer_upholds _ _)
  · exact s.handOffFrame_upholds h (s.onAnswer_upholds _ _)
  · exact s.handOffFrame_upholds h (s.onWithdraw_upholds _ _)
  · refine s.handOffFrame_upholds h ?_
    split
    · exact s.onLanded_upholds _ _ _ _
    · exact s.onSkipped_upholds _ _
  · exact s.handOffFrame_upholds h (s.onWhere_upholds _ _)
  · exact s.handOffFrame_upholds h (.refl s)
  · exact .when fun _ => s.onStall_upholds _
  · exact .when fun _ => s.onGo_upholds _ _
  · exact .when fun _ => s.onDozeAsk_upholds _
  · exact .when fun _ => s.onDozeAllow_upholds _ hp
  · exact .when fun _ => s.onDozeDeny_upholds _
  · exact s.onWant_upholds _ _
  · exact s.onRackIn_upholds _ _ _
  · exact s.updNeighs_upholds _
  · exact .refl s
  · exact .when fun _ => s.onAsk_upholds _
  · exact .when fun _ => s.onAck_upholds _
  · exact .when fun _ => s.onClear_upholds _
  · exact .when fun _ => s.onFlush_upholds _

theorem State.receive_safe (h : Hdr) (x : Payload) : Safe s (s.receive h x) := by
  unfold State.receive
  refine .when fun _ => .settle ((s.refresh_upholds _).trans (State.deliverFrame_upholds _ h x fun hd => ?_))
  exact State.idleHeld_congr (get_refresh_of_ne (b := .idle) s h.src (by decide) (by decide))
    (get_refresh_of_ne (b := .dr) s h.src (by decide) (by decide)) hd.held

theorem State.receiveRun_safe (l : List RxChar) : Safe s (s.receiveRun l) := by
  unfold State.receiveRun
  split
  · exact s.receive_safe _ _
  · exact .refl s

theorem State.clearNoted_upholds (x : Port) : Upholds p q n s (s.clearNoted x) := by
  unfold State.clearNoted
  split
  · exact s.setNoted_upholds _ _
  · exact s.setNoted_upholds _ _
  · exact .refl s
  · exact .refl s

theorem State.doNeighbourSilent_safe (x : Port) : Safe s (s.doNeighbourSilent x) := by
  unfold State.doNeighbourSilent
  split
  · exact .refl s
  · exact .settle ((s.setNeigh_upholds _ _).trans ((State.clearNoted_upholds _ _).trans
      (State.raiseStanding_upholds _ _ _)))

theorem State.doStatusTimer_safe : Safe s s.doStatusTimer := by
  unfold State.doStatusTimer
  exact .when fun _ => .settle ((State.queueStatus_upholds _).after rfl)

/-- The frame in the register leaves it, and the head of the queue moves in. -/
theorem State.emptyReg_upholds : Upholds p q n s { s with line := Line.refill { s.line with reg := none } } :=
  .line' _ fun hs => by
    obtain ⟨hq, -, -⟩ := s.lineSound_iff.1 hs
    exact (State.lineSound_iff _).2 (Line.refill_ok (l := { s.line with reg := none }) hq .none)

/-- The register changed within its bounds. -/
theorem State.setReg_upholds (r : SendReg) (h : s.LineSound → r.attempts ≤ 15 ∧ r.backoff ≤ 16) :
    Upholds p q n s { s with line := { s.line with reg := some r } } :=
  .line' _ fun hs => by
    obtain ⟨hq, -, -⟩ := s.lineSound_iff.1 hs
    refine (State.lineSound_iff _).2 ⟨hq, fun h => absurd h (Option.some_ne_none _), fun x hx => ?_⟩
    rw [← Option.some.inj hx]
    exact h hs

theorem State.doSendStart_safe (m : Nat) : Safe s (s.doSendStart m) := by
  unfold State.doSendStart
  split
  · rename_i r hr
    exact .when fun _ => .quiet (s.setReg_upholds _ fun hs => (s.lineSound_iff.1 hs).2.2 r hr) rfl rfl rfl
  · exact .refl s

theorem State.doFrameSent_safe : Safe s s.doFrameSent := by
  unfold State.doFrameSent
  split
  · exact .when fun _ => .quiet s.emptyReg_upholds rfl rfl rfl
  · exact .refl s

theorem State.doCollision_safe : Safe s s.doCollision := by
  unfold State.doCollision
  split
  · exact .refl s
  · rename_i r hr
    refine .when fun _ => .ite (fun ha => .quiet (s.setReg_upholds _ fun _ => ⟨ha, ?_⟩) rfl rfl rfl) fun _ =>
      .settle (s.emptyReg_upholds.trans (State.raise_upholds _ _ _))
    show (_ + _) % 16 + 1 ≤ 16
    omega

/-! ### Start-up and the tag port -/

theorem State.lampSound_reset : State.reset.LampSound := ⟨rfl, fun _ => ⟨rfl, rfl⟩, (by decide), (by decide)⟩

theorem QueueOk.nil : QueueOk [] :=
  ⟨Nat.zero_le _, ⟨[], [], rfl, fun _ h => absurd h List.not_mem_nil, fun _ h => absurd h List.not_mem_nil⟩,
    Nat.zero_le _, Nat.zero_le _⟩

theorem State.lineSound_reset : State.reset.LineSound :=
  State.reset.lineSound_iff.2 ⟨QueueOk.nil, fun _ => rfl, .none⟩

theorem State.driveSound_reset : State.reset.DriveSound :=
  ⟨by decide, by decide, by decide, fun _ => rfl, by decide, fun h => h.elim (by decide) (by decide)⟩

theorem State.trackSound_reset : State.reset.TrackSound := ⟨by decide, by decide, fun _ => ⟨rfl, rfl⟩⟩

theorem State.numbersSound_reset : State.reset.NumbersSound :=
  State.numbersSound_iff.2 ⟨State.namesSound_of_empty rfl, State.numbersBut_of_empty rfl _⟩

theorem State.headSound_reset : State.reset.HeadSound := State.headSound_of_empty rfl

/-- The state after the reset is that of a fresh part in all that the invariants read. -/
theorem State.doPowerOnReset_safe : Safe s s.doPowerOnReset := by
  have h : Safe State.reset s.doPowerOnReset := .quiet (.aside rfl) rfl rfl rfl
  exact ⟨fun _ => h.lamp State.lampSound_reset, fun _ => h.line State.lineSound_reset,
    fun _ => h.drive State.driveSound_reset, fun _ => h.track State.trackSound_reset,
    fun _ => h.numbers State.numbersSound_reset, fun _ => h.head State.headSound_reset⟩

theorem State.doResetRelease_safe (a b e : Bool) : Safe s (s.doResetRelease a b e) := by
  unfold State.doResetRelease
  exact .when fun _ => .settle (Upholds.after (.unless fun _ => State.raiseStanding_upholds _ _ _) rfl)

theorem State.enterUnset_upholds (d : Nat) : Upholds p q n s (s.enterUnset d) := by
  unfold State.enterUnset
  exact ((Upholds.mode s .unset nofun).trans (State.queueStatus_upholds _)).trans
    ((State.raiseStanding_upholds _ _ _).after rfl)

theorem State.doStationNumberRead_safe : Safe s s.doStationNumberRead := by
  unfold State.doStationNumberRead
  split
  · exact .refl s
  · exact .when fun _ => .ite (fun _ => .settle ((State.enterUnset_upholds _ _).after rfl)) fun _ => .settle (.aside rfl)

theorem clampNat_bounds (x lo hi : Nat) (h : lo ≤ hi) : clampNat x lo hi ≤ hi :=
  max_le h (min_le_right _ _)

theorem profileOf_startLevel_le (img : List Byte) : (profileOf img).startLevel ≤ 1023 :=
  clampNat_bounds _ 0 1023 (by decide)

theorem profileOf_trackLimit_le (img : List Byte) : (profileOf img).trackLimit ≤ 12 := by
  show (if _ then 1 else clampNat _ 1 12) ≤ 12
  split
  · decide
  · exact clampNat_bounds _ 1 12 (by decide)

/-- The profile read in LOADING: the track is empty then. -/
theorem State.enterScanning_upholds (img : List Byte) (hm : s.boot.mode = .loading) :
    Upholds p q n s (s.enterScanning img) := by
  unfold State.enterScanning
  extract_lets pr x y t z u
  have e : Upholds p q n s t :=
    ⟨id, id, fun _ ⟨h₁, h₂, _, h₄⟩ => ⟨h₁, h₂, profileOf_startLevel_le img, h₄⟩,
      fun ⟨_, _, h₃⟩ => ⟨profileOf_trackLimit_le img, by
        show s.track.length ≤ _
        rw [(h₃ hm).2]; exact Nat.zero_le _, nofun⟩,
      id, fun _ _ _ => id, fun _ => id⟩
  have e' : Upholds p q n t u := .aside rfl
  exact (e.trans e').trans u.queueStatus_upholds

theorem State.doProfileRead_safe (img : List Byte) : Safe s (s.doProfileRead img) := by
  unfold State.doProfileRead
  split
  · exact .refl s
  · refine .when fun hc => ?_
    extract_lets x t
    have e : Upholds s.DriveSound True True s t := .aside rfl
    split
    · exact .settle (e.trans (t.enterUnset_upholds _))
    · exact .settle (e.trans (t.enterScanning_upholds _ hc.1))

theorem State.tagDeliver_upholds (o : Option Nat) (x : Option RackNo) : Upholds p q n s (s.tagDeliver o x) := by
  unfold State.tagDeliver
  split
  · exact s.tagResult_upholds _ _
  · exact .refl s

theorem State.tagReply_upholds (x : TagReply) : Upholds p q n s (s.tagReply x) := by
  unfold State.tagReply
  split
  · exact .refl s
  · exact .aside rfl
  · split <;> exact (State.tagDeliver_upholds _ _ _).after rfl

theorem State.doTagReplyComplete_safe (a b c : Byte) : Safe s (s.doTagReplyComplete a b c) := by
  unfold State.doTagReplyComplete
  exact .when fun _ => .settle (s.tagReply_upholds _)

theorem State.doTagReplyGap_safe (a : Byte) (b : Option Byte) : Safe s (s.doTagReplyGap a b) := by
  unfold State.doTagReplyGap
  exact .when fun _ => .settle (s.tagReply_upholds _)

theorem State.doReaderTimeout_safe : Safe s s.doReaderTimeout := by
  unfold State.doReaderTimeout
  refine .when fun _ => ?_
  split
  · exact .refl s
  · exact .settle (.aside rfl)
  · exact .settle ((State.tagDeliver_upholds _ _ _).after rfl)

end

end Sys2Proof.Machine

/-! Time, belt motion and a step keep the invariants. -/

namespace Sys2Proof.Machine

section
variable {p q n : Prop} (s : State)

/-! ### Time and belt motion -/

/-- Every event of a list is safe. -/
def SafeAll (l : List (State → State)) : Prop := ∀ f ∈ l, ∀ t : State, Safe t (f t)

theorem SafeAll.cons {f : State → State} {l : List (State → State)} (h : ∀ t, Safe t (f t)) (hl : SafeAll l) :
    SafeAll (f :: l) := List.forall_mem_cons.2 ⟨h, hl⟩

theorem SafeAll.nil : SafeAll [] := fun _ h => absurd h List.not_mem_nil

theorem SafeAll.append {l m : List (State → State)} (hl : SafeAll l) (hm : SafeAll m) : SafeAll (l ++ m) :=
  List.forall_mem_append.2 ⟨hl, hm⟩

theorem SafeAll.map {α : Type} {g : α → State → State} (h : ∀ x t, Safe t (g x t)) (l : List α) :
    SafeAll (l.map g) := List.forall_mem_map.2 fun x _ => h x

theorem SafeAll.replicate {f : State → State} (h : ∀ t, Safe t (f t)) (k : Nat) : SafeAll (List.replicate k f) :=
  fun _ hg => List.eq_of_mem_replicate hg ▸ h

theorem safeAll_dueEvents : SafeAll dueEvents := by
  unfold dueEvents
  refine .append (.append (.append (.append (.append (.append (.append (.append (.append (.append (.append (.append
    (.append (.append (.append (.append ?_ ?_) ?_) ?_) ?_) ?_) ?_) ?_) ?_) ?_) ?_) ?_) ?_) ?_) ?_) ?_) ?_
  · exact .cons State.doUnsteadyOver_safe .nil
  · exact .map (fun e t => t.doEyeEdgeConfirm_safe e) _
  · exact .map (fun e t => t.doEyeFirstState_safe e) _
  · intro f hf
    obtain ⟨e, -, he⟩ := List.mem_flatMap.1 hf
    exact SafeAll.replicate (fun t => t.doCheckMissed_safe e) 12 f he
  · exact .map (fun e t => t.doEyeJam_safe e) _
  · exact .map (fun e t => t.doEyeStuck_safe e) _
  · exact .cons State.doReaderTimeout_safe .nil
  · exact .replicate State.doRecordVanish_safe _
  · exact .cons State.doResidenceExposureMet_safe <| .cons State.doWindowEnd_safe <|
      .cons State.doBeltUnsteady_safe <| .cons State.doSpinUpExpiry_safe <| .cons State.doOfferResend_safe .nil
  · exact .replicate State.doWhereSent_safe _
  · exact .replicate State.doTransferExpiry_safe _
  · exact .cons State.doEntryReady_safe <| .cons State.doSlotArrivalExpiry_safe <|
      .cons State.doSlotArrivalExpiry_safe <| .cons State.doGateSettle_safe <| .cons State.doPatienceExpiry_safe .nil
  · exact .map (fun c t => t.doClassKeyPress_safe c) _
  · exact .cons State.doSendKeyPress_safe <| .cons State.doEmptyKeyPress_safe <| .cons State.doWantTimer_safe <|
      .cons State.doCallLampFlash_safe <| .cons (fun t => .foldl (fun u (w : HeardWant) => u.doWantExpiry_safe w.station) _ t) <|
      .cons (fun t => t.doSteerExpiry_safe .d0) <| .cons (fun t => t.doSteerExpiry_safe .d1) <|
      .cons State.doParkDelayExpiry_safe <| .cons State.doDozeReplyTimeout_safe <| .cons State.doPoll_safe .nil
  · exact .map (fun e t => t.doNeighbourSilent_safe e) _
  · exact .cons State.doStatusTimer_safe <| .cons State.doAckKeyPress_safe <| .cons State.doAckKeyRelease_safe <|
      .cons State.doAckKeyHoldClear_safe <| .cons State.doAckKeyHoldFlush_safe <|
      .cons State.doAttentionLampFlash_safe <| .cons State.doEstopOpen_safe <| .cons State.doEstopClose_safe <|
      .cons State.doStationNumberRead_safe <| .cons (fun t => t.doKeyRelease_safe .send) <|
      .cons (fun t => t.doKeyRelease_safe .empty) .nil
  · exact .map (fun c t => t.doKeyRelease_safe (.cls c)) _

theorem SafeAll.foldl {l : List (State → State)} (hl : SafeAll l) : ∀ s : State, Safe s (l.foldl (fun t f => f t) s) := by
  induction l with
  | nil => exact .refl
  | cons f l ih =>
    obtain ⟨hf, hl⟩ := List.forall_mem_cons.1 hl
    exact fun s => (hf s).trans (ih hl _)

/-- The tests of the last edge are over. -/
theorem State.found_safe (l : List BeltTest) : Safe s { s with found := l } := .quiet (.aside rfl) rfl rfl rfl

theorem State.takeDue_safe : Safe s s.takeDue := (safeAll_dueEvents.foldl s).trans (State.found_safe _ _)

theorem Boot.tick_core (b : Boot) (x : PinSample) :
    ((b.tick x).prof, (b.tick x).mode, (b.tick x).loaded) = (b.prof, b.mode, b.loaded) := by
  unfold Boot.tick
  split <;> rfl

theorem State.countTick_safe (x : PinSample) : Safe s (s.countTick x) := by
  refine .quiet ?_ rfl rfl rfl
  have e₁ : Upholds s.DriveSound True True s { s with track := s.track.map Rec.tick } :=
    .mapTrack _ (fun _ => rfl) (fun _ _ => rfl) fun _ _ _ _ => rfl
  have e₂ (t : State) : Upholds s.DriveSound True True t { t with att := t.att.tick x.estop } :=
    .att _ fun h => ⟨h.1, Lamp.ok_tick h.2⟩
  refine (e₁.trans (e₂ _)).trans (.aside ?_)
  have hb := s.boot.tick_core x
  simp only [Prod.mk.injEq] at hb
  simp only [State.core, State.countTick, hb]
  rfl

theorem State.doTick_safe (x : PinSample) : Safe s (s.doTick x) := s.takeDue_safe.trans (State.countTick_safe _ _)

theorem State.testMarks_upholds : Upholds p q n s s.testMarks := by
  unfold State.testMarks
  extract_lets m t
  have e : Upholds p q n s t := .sameOwner s rfl
  exact e.trans (.when fun _ => t.stopFired_upholds)

/-- A forward edge after what was due has been taken. -/
theorem State.forwardSettled_safe :
    Safe s (State.settleEdge (State.testMarks { s.countEdge s.cu.forward 1 with
      found := (s.countEdge s.cu.forward 1).beltTests })) :=
  .settleEdge ((State.testMarks_upholds _).after rfl)

theorem State.backwardSettled_safe : Safe s (s.countEdge s.cu.backward (-1)).settleEdge := .settleEdge (.aside rfl)

theorem State.forwardEdge_safe : Safe s s.forwardEdge := by
  unfold State.forwardEdge
  exact s.takeDue_safe.trans (State.forwardSettled_safe _)

theorem State.reverseEdge_safe : Safe s s.reverseEdge := by
  unfold State.reverseEdge
  exact s.takeDue_safe.trans (State.backwardSettled_safe _)

theorem State.doMarkFire_safe : Safe s s.doMarkFire := by
  unfold State.doMarkFire
  exact .when fun _ => s.forwardEdge_safe

theorem State.doEyeRawChange_safe (e : Eye) (b : Bool) : Safe s (s.doEyeRawChange e b) := by
  unfold State.doEyeRawChange
  extract_lets t
  have h : Safe s t := s.takeDue_safe
  refine h.trans (.quiet (t.setChan_upholds _ _) ?_ ?_ ?_) <;> simp

/-! ### A step -/

/-- A command that has its next state. -/
def Ends (o : Out) (f : State → Prop) : Prop := ∀ t, o = .next t → f t

theorem live_safe {t : State} (h : Safe s t) : Ends (live s t) (Safe s) := by
  rintro u hu
  cases hu
  exact .ite (fun _ => .refl s) fun _ => h

theorem State.exec_eyeRawChange_safe (e : Eye) (b : Bool) : Ends (exec (.eyeRawChange e b) s) (Safe s) := by
  rintro u hu; cases hu
  refine .ite (fun _ => .quiet (s.updChan_upholds _ _) ?_ ?_ ?_) fun _ => s.doEyeRawChange_safe e b
  all_goals simp [State.updChan]

theorem exec_safe : ∀ c : Instr, Ends (exec c s) (Safe s)
  | .powerOnReset => fun _ hu => Host.Outcome.next.inj hu ▸ s.doPowerOnReset_safe
  | .resetRelease a b e => fun _ hu => Host.Outcome.next.inj hu ▸ s.doResetRelease_safe a b e
  | .eyeRawChange e b => s.exec_eyeRawChange_safe e b
  | .tick x => live_safe s (s.doTick_safe x)
  | .forwardEdge => live_safe s s.forwardEdge_safe
  | .reverseEdge => live_safe s s.reverseEdge_safe
  | .doubleStep => live_safe s (.quiet (.aside rfl) rfl rfl rfl)
  | .markFire => live_safe s s.doMarkFire_safe
  | .eyeEdgeConfirm e => live_safe s (s.doEyeEdgeConfirm_safe e)
  | .eyeFirstState e => live_safe s (s.doEyeFirstState_safe e)
  | .checkMissed e => live_safe s (s.doCheckMissed_safe e)
  | .eyeJam e => live_safe s (s.doEyeJam_safe e)
  | .eyeStuck e => live_safe s (s.doEyeStuck_safe e)
  | .tagReplyComplete a b c => live_safe s (s.doTagReplyComplete_safe a b c)
  | .tagReplyGap a b => live_safe s (s.doTagReplyGap_safe a b)
  | .readerTimeout => live_safe s s.doReaderTimeout_safe
  | .recordVanish => live_safe s s.doRecordVanish_safe
  | .residenceExposureMet => live_safe s s.doResidenceExposureMet_safe
  | .windowEnd => live_safe s s.doWindowEnd_safe
  | .beltUnsteady => live_safe s s.doBeltUnsteady_safe
  | .spinUpExpiry => live_safe s s.doSpinUpExpiry_safe
  | .offerResend => live_safe s s.doOfferResend_safe
  | .whereSent => live_safe s s.doWhereSent_safe
  | .transferAllowanceExpiry => live_safe s s.doTransferExpiry_safe
  | .entryReady => live_safe s s.doEntryReady_safe
  | .slotArrivalExpiry => live_safe s s.doSlotArrivalExpiry_safe
  | .gateSettle => live_safe s s.doGateSettle_safe
  | .patienceExpiry => live_safe s s.doPatienceExpiry_safe
  | .classKeyPress k => live_safe s (s.doClassKeyPress_safe k)
  | .sendKeyPress => live_safe s s.doSendKeyPress_safe
  | .emptyKeyPress => live_safe s s.doEmptyKeyPress_safe
  | .wantTimer => live_safe s s.doWantTimer_safe
  | .callLampFlash => live_safe s s.doCallLampFlash_safe
  | .wantExpiry l => live_safe s (s.doWantExpiry_safe l)
  | .steerExpiry d => live_safe s (s.doSteerExpiry_safe d)
  | .parkDelayExpiry => live_safe s s.doParkDelayExpiry_safe
  | .dozeReplyTimeout => live_safe s s.doDozeReplyTimeout_safe
  | .poll => live_safe s s.doPoll_safe
  | .neighbourSilent x => live_safe s (s.doNeighbourSilent_safe x)
  | .statusTimer => live_safe s s.doStatusTimer_safe
  | .frameRejected l => live_safe s (s.receiveRun_safe l)
  | .sendStart m => live_safe s (s.doSendStart_safe m)
  | .frameSent => live_safe s s.doFrameSent_safe
  | .collision => live_safe s s.doCollision_safe
  | .ackKeyPress => live_safe s s.doAckKeyPress_safe
  | .ackKeyRelease => live_safe s s.doAckKeyRelease_safe
  | .ackKeyHoldClear => live_safe s s.doAckKeyHoldClear_safe
  | .ackKeyHoldFlush => live_safe s s.doAckKeyHoldFlush_safe
  | .attentionLampFlash => live_safe s s.doAttentionLampFlash_safe
  | .estopOpen => live_safe s s.doEstopOpen_safe
  | .estopClose => live_safe s s.doEstopClose_safe
  | .stationNumberRead => live_safe s s.doStationNumberRead_safe
  | .profileRead img => live_safe s (s.doProfileRead_safe img)
  | .keyRelease k => live_safe s (s.doKeyRelease_safe k)
  | .offer h .. | .take h .. | .wait h .. | .refuse h .. | .withdraw h .. | .landed h .. | .landedSkipped h ..
  | .whereIs h .. | .notSeen h .. | .stall h .. | .go h .. | .want h .. | .rackIn h .. | .dozeAsk h .. | .dozeAllow h ..
  | .dozeDeny h .. | .status h .. | .attention h .. | .frameForOther h .. | .ask h .. | .ack h .. | .clear h ..
  | .flush h .. => live_safe s (s.receive_safe h _)

/-- A step keeps every invariant. -/
theorem step_safe {s t : State} (h : step s = .next t) : Safe s t := by
  unfold step at h
  split at h
  · cases h; exact .refl s
  · rename_i c rest _
    have k : Safe s { s with pending := rest } := .quiet (.aside rfl) rfl rfl rfl
    exact k.trans (exec_safe _ _ _ h)

end

/-- Settles O55: the lamp is evaluated at every change of a cause's state, and no other operation writes it but its
flash. -/
theorem stepKeepsLampSound : Obligations.StepKeepsLampSound := fun _ _ hs h => (step_safe h).lamp hs

/-- Settles O56: within a step every operation keeps the level in its range; its end adds the links of level 3 and of
the idle phase. -/
theorem stepKeepsDriveSound : Obligations.StepKeepsDriveSound := fun _ _ hs h => (step_safe h).drive hs

/-- Settles O57: each way into the queue keeps its bounds and its order, and its head fills an empty register. -/
theorem stepKeepsLineSound : Obligations.StepKeepsLineSound := fun _ _ hs h => (step_safe h).line hs

/-- Settles O58: a record joins only a track with room, and only once a profile has been read. -/
theorem stepKeepsTrackSound : Obligations.StepKeepsTrackSound := fun _ _ hs h => (step_safe h).track hs

/-- Settles O59: a number is set only after the duplicate check, and every change of the head brings the mark group
with it. -/
theorem stepKeepsNumbersSound : Obligations.StepKeepsNumbersSound :=
  ⟨fun _ _ hs h => (step_safe h).numbers hs, fun _ _ hs h => (step_safe h).head hs⟩

/-- Settles O60: the reset state has no causes, no frames, no records and a belt at rest. -/
theorem resetMeetsTheInvariants : Obligations.ResetMeetsTheInvariants :=
  ⟨State.lampSound_reset, State.driveSound_reset, State.lineSound_reset, State.trackSound_reset,
    State.numbersSound_reset, State.headSound_reset, rfl⟩

end Sys2Proof.Machine


/-! The step, the reset values and the periodic timers: one command at a time, from its own definition. -/

namespace Sys2Proof.Machine

/-- Settles O1. -/
theorem stepRunsFrontCommand : Obligations.StepRunsFrontCommand := by
  refine ⟨fun c s => rfl, fun s h => ?_⟩
  unfold step
  rw [h]

theorem exec_powerOnReset_eq (s : State) : exec .powerOnReset s = .next s.doPowerOnReset := rfl

/-- A channel after power-on reset keeps its pin alone (log 23). -/
theorem State.chan_doPowerOnReset (s : State) (e : Eye) : s.doPowerOnReset.chan e = (s.chan e).poweredOn := by
  cases e <;> rfl

/-- No key has a recognised state after power-on reset. -/
theorem State.key_doPowerOnReset (s : State) {k : KeySt}
    (h : k = s.doPowerOnReset.bay.sendKey ∨ k = s.doPowerOnReset.bay.emptyKey ∨ k = s.doPowerOnReset.bay.ackKey
      ∨ k ∈ s.doPowerOnReset.bay.classKeys) : k = {} := by
  rcases h with h | h | h | h
  · exact h
  · exact h
  · exact h
  · exact List.eq_of_mem_replicate (n := 16) h

/-- Settles O3: each clause reads a field of the power-on state; channels and keys by the two lemmas above. -/
theorem powerOnResetValues : Obligations.PowerOnResetValues := by
  intro s
  refine ⟨s.doPowerOnReset, exec_powerOnReset_eq s, ?_⟩
  and_intros
  any_goals rfl
  · intro e
    rw [State.chan_doPowerOnReset]
    exact ⟨rfl, rfl, rfl, rfl, rfl, rfl, rfl, rfl⟩
  · intro k hk
    rw [s.key_doPowerOnReset hk]
    exact ⟨rfl, rfl, rfl⟩
  · intro p
    cases p <;> rfl
  · intro c
    cases c <;> exact ⟨rfl, rfl, rfl, rfl⟩

/-! ### Periodic timers and lamps -/

theorem exec_wantTimer_eq (s : State) : exec .wantTimer s = live s s.doWantTimer := rfl
theorem exec_statusTimer_eq (s : State) : exec .statusTimer s = live s s.doStatusTimer := rfl
theorem exec_callLampFlash_eq (s : State) : exec .callLampFlash s = live s s.doCallLampFlash := rfl
theorem exec_attentionLampFlash_eq (s : State) :
    exec .attentionLampFlash s = live s s.doAttentionLampFlash := rfl

theorem expired_some_zero : expired (some 0) = true := rfl

/-- Settles O38: each row is due, and its own definition says what it does. -/
theorem timersRestartAndLampsToggle : Obligations.TimersRestartAndLampsToggle := by
  intro s hr
  refine ⟨fun h => ?_, fun h => ?_, fun h => ?_, fun h => ?_⟩
  · rw [exec_wantTimer_eq, live_of_runs hr, State.doWantTimer, h, if_pos expired_some_zero]; rfl
  · rw [exec_statusTimer_eq, live_of_runs hr, State.doStatusTimer, h, if_pos expired_some_zero]; rfl
  · rw [exec_callLampFlash_eq, live_of_runs hr, State.doCallLampFlash, h, if_pos expired_some_zero]; rfl
  · rw [exec_attentionLampFlash_eq, live_of_runs hr, State.doAttentionLampFlash, h, if_pos expired_some_zero]; rfl

/-! ### Every command -/

section
variable (s : State)

/-- A command that acts only while RESET is released leaves the queue where its meaning does. -/
theorem live_keeps_pending {t : State} (h : t.get .pending = s.get .pending) :
    ∃ u, live s t = .next u ∧ u.pending = s.pending := by
  refine ⟨_, rfl, ?_⟩
  split
  · rfl
  · exact h

theorem State.still_countTick (pins : PinSample) {b : Block} (h : b.still = true) :
    (s.countTick pins).get b = s.get b := by
  rcases Block.still_cases h with rfl | rfl <;> rfl

theorem State.still_doTick (pins : PinSample) {b : Block} (h : b.still = true) :
    (s.doTick pins).get b = s.get b :=
  (s.takeDue.still_countTick pins h).trans (s.still_takeDue h)

/-- The waiting queue read from its block, for a state whose operation is not to be unfolded. -/
theorem State.pending_of_get {t : State} (h : t.get .pending = s.get .pending) : t.pending = s.pending := h
theorem State.pending_takeDue : s.takeDue.pending = s.pending := s.pending_of_get (s.still_takeDue rfl)
theorem State.pending_countEdge (u : CountUnit) (n : Int) : (s.countEdge u n).pending = s.pending := rfl

theorem State.pending_testMarks : s.testMarks.pending = s.pending := by
  have key (t : State) (h : t.pending = s.pending) : t.stopFired.pending = s.pending :=
    (t.get_stopFired (b := .pending) (by decide) (by decide) (by decide)).trans h
  unfold State.testMarks
  dsimp only
  split
  · exact key _ rfl
  · rfl

theorem State.pending_settleEdge_testMarks (l : List BeltTest) :
    (State.testMarks { s with found := l }).settleEdge.pending = s.pending :=
  (State.settleEdge_pending _).trans (State.pending_testMarks _)

theorem State.pending_forwardEdge : s.forwardEdge.pending = s.pending :=
  (State.pending_settleEdge_testMarks _ _).trans <| (s.takeDue.pending_countEdge _ _).trans s.pending_takeDue

theorem State.pending_reverseEdge : s.reverseEdge.pending = s.pending := by
  unfold State.reverseEdge
  rw [State.settleEdge_pending]
  exact (s.takeDue.pending_countEdge _ _).trans s.pending_takeDue

theorem State.pending_doMarkFire : s.doMarkFire.pending = s.pending := by
  unfold State.doMarkFire
  split
  · exact s.pending_forwardEdge
  · rfl

theorem State.pending_doResetRelease (a b e : Bool) : (s.doResetRelease a b e).pending = s.pending := by
  unfold State.doResetRelease
  split
  · rw [State.settle_pending]
    cases e
    · exact State.get_raiseStanding (b := .pending) _ _ _ (by decide) (by decide)
    · rfl
  · rfl

theorem State.pending_doEyeRawChange (e : Eye) (b : Bool) : (s.doEyeRawChange e b).pending = s.pending :=
  (State.pending_setChan _ _ _).trans (s.still_takeDue (b := .pending) rfl)

/-- Every command ends in a next state and leaves the commands that wait. -/
theorem State.exec_eyeRawChange_keeps_pending (e : Eye) (b : Bool) :
    ∃ t, exec (.eyeRawChange e b) s = .next t ∧ t.pending = s.pending := by
  refine ⟨_, rfl, ?_⟩
  split
  · exact State.pending_updChan _ _ _
  · exact s.pending_doEyeRawChange e b

theorem exec_keeps_pending : ∀ c : Instr, ∃ t, exec c s = .next t ∧ t.pending = s.pending
  | .powerOnReset => ⟨_, rfl, rfl⟩
  | .resetRelease a b e => ⟨_, rfl, s.pending_doResetRelease a b e⟩
  | .eyeRawChange e b => s.exec_eyeRawChange_keeps_pending e b
  | .tick x => live_keeps_pending s (s.still_doTick x rfl)
  | .forwardEdge => live_keeps_pending s s.pending_forwardEdge
  | .reverseEdge => live_keeps_pending s s.pending_reverseEdge
  | .doubleStep => live_keeps_pending s rfl
  | .markFire => live_keeps_pending s s.pending_doMarkFire
  | .eyeEdgeConfirm e => live_keeps_pending s (s.still_doEyeEdgeConfirm e rfl)
  | .eyeFirstState e => live_keeps_pending s (s.still_doEyeFirstState e rfl)
  | .checkMissed e => live_keeps_pending s (s.still_doCheckMissed e rfl)
  | .eyeJam e => live_keeps_pending s (s.still_doEyeJam e rfl)
  | .eyeStuck e => live_keeps_pending s (s.still_doEyeStuck e rfl)
  | .tagReplyComplete a b c => live_keeps_pending s (s.still_doTagReplyComplete a b c rfl)
  | .tagReplyGap a b => live_keeps_pending s (s.still_doTagReplyGap a b rfl)
  | .readerTimeout => live_keeps_pending s (s.still_doReaderTimeout rfl)
  | .recordVanish => live_keeps_pending s (s.still_doRecordVanish rfl)
  | .residenceExposureMet => live_keeps_pending s (s.still_doResidenceExposureMet rfl)
  | .windowEnd => live_keeps_pending s (s.still_doWindowEnd rfl)
  | .beltUnsteady => live_keeps_pending s (s.still_doBeltUnsteady rfl)
  | .spinUpExpiry => live_keeps_pending s (s.still_doSpinUpExpiry rfl)
  | .offerResend => live_keeps_pending s (s.still_doOfferResend rfl)
  | .whereSent => live_keeps_pending s (s.still_doWhereSent rfl)
  | .transferAllowanceExpiry => live_keeps_pending s (s.still_doTransferExpiry rfl)
  | .entryReady => live_keeps_pending s (s.still_doEntryReady rfl)
  | .slotArrivalExpiry => live_keeps_pending s (s.still_doSlotArrivalExpiry rfl)
  | .gateSettle => live_keeps_pending s (s.still_doGateSettle rfl)
  | .patienceExpiry => live_keeps_pending s (s.still_doPatienceExpiry rfl)
  | .classKeyPress k => live_keeps_pending s (s.still_doClassKeyPress k rfl)
  | .sendKeyPress => live_keeps_pending s (s.still_doSendKeyPress rfl)
  | .emptyKeyPress => live_keeps_pending s (s.still_doEmptyKeyPress rfl)
  | .wantTimer => live_keeps_pending s (s.still_doWantTimer rfl)
  | .callLampFlash => live_keeps_pending s (s.still_doCallLampFlash rfl)
  | .wantExpiry l => live_keeps_pending s (s.still_doWantExpiry l rfl)
  | .steerExpiry d => live_keeps_pending s (s.still_doSteerExpiry d rfl)
  | .parkDelayExpiry => live_keeps_pending s (s.still_doParkDelayExpiry rfl)
  | .dozeReplyTimeout => live_keeps_pending s (s.still_doDozeReplyTimeout rfl)
  | .poll => live_keeps_pending s (s.still_doPoll rfl)
  | .neighbourSilent x => live_keeps_pending s (s.still_doNeighbourSilent x rfl)
  | .statusTimer => live_keeps_pending s (s.still_doStatusTimer rfl)
  | .frameRejected l => live_keeps_pending s (s.still_receiveRun l rfl)
  | .sendStart m => live_keeps_pending s (s.still_doSendStart m rfl)
  | .frameSent => live_keeps_pending s (s.still_doFrameSent rfl)
  | .collision => live_keeps_pending s (s.still_doCollision rfl)
  | .ackKeyPress => live_keeps_pending s (s.still_doAckKeyPress rfl)
  | .ackKeyRelease => live_keeps_pending s (s.still_doAckKeyRelease rfl)
  | .ackKeyHoldClear => live_keeps_pending s (s.still_doAckKeyHoldClear rfl)
  | .ackKeyHoldFlush => live_keeps_pending s (s.still_doAckKeyHoldFlush rfl)
  | .attentionLampFlash => live_keeps_pending s (s.still_doAttentionLampFlash rfl)
  | .estopOpen => live_keeps_pending s (s.still_doEstopOpen rfl)
  | .estopClose => live_keeps_pending s (s.still_doEstopClose rfl)
  | .stationNumberRead => live_keeps_pending s (s.still_doStationNumberRead rfl)
  | .profileRead img => live_keeps_pending s (s.still_doProfileRead img rfl)
  | .keyRelease k => live_keeps_pending s (s.still_doKeyRelease k rfl)
  | .offer h .. | .take h .. | .wait h .. | .refuse h .. | .withdraw h .. | .landed h .. | .landedSkipped h ..
  | .whereIs h .. | .notSeen h .. | .stall h .. | .go h .. | .want h .. | .rackIn h .. | .dozeAsk h .. | .dozeAllow h ..
  | .dozeDeny h .. | .status h .. | .attention h .. | .frameForOther h .. | .ask h .. | .ack h .. | .clear h ..
  | .flush h .. => live_keeps_pending s (s.still_receive h _ rfl)

/-- Every command but the reset, its release and the pins of the eyes acts only while RESET is released. -/
theorem exec_live_of_not_underReset {c : Instr} (h : underReset c = false) : ∃ t, exec c s = live s t := by
  cases c with
  | powerOnReset | resetRelease | eyeRawChange => exact absurd h.symm Bool.false_ne_true
  | _ => exact ⟨_, rfl⟩

end

/-- Settles O2: the queue is a block that no command writes; under RESET every output reads its safe level. -/
theorem commandsCompleteAndResetHoldsThem : Obligations.CommandsCompleteAndResetHoldsThem := by
  refine ⟨fun c s => exec_keeps_pending s c, fun c s hr => ⟨fun hc => ?_, ?_⟩⟩
  · obtain ⟨t, ht⟩ := exec_live_of_not_underReset s hc
    rw [ht, live, if_pos hr]
  · simp [State.drvPin, State.brkPin, State.gatePin, State.lattPin, State.lcallPin, State.zdePin, hr]

/-! ### The derived actions -/

section
variable (s : State)

@[simp] theorem State.kept_pass (e : Bool) : (s.pass e).kept = s.kept := by
  cases e <;> simp [State.pass]

@[simp] theorem State.kept_restrict3 : s.restrict3.kept = s.kept := by
  unfold State.restrict3
  dsimp only
  split
  · split <;> simp
  · rfl

@[simp] theorem State.kept_finish : s.finish.kept = s.kept := by simp [State.finish]
@[simp] theorem State.kept_settle : s.settle.kept = s.kept := by simp [State.settle]
@[simp] theorem State.kept_settleEdge : s.settleEdge.kept = s.kept := by simp [State.settleEdge]

end

/-- Settles O52: each operation of a pass, and of its end, leaves the kept part alone. -/
theorem derivedActionsKeepTheRest : Obligations.DerivedActionsKeepTheRest :=
  fun s => ⟨s.kept_settle, s.kept_settleEdge⟩

end Sys2Proof.Machine


/-! What the derived actions lose nothing of (log 10): one relation between the state before an operation of
settling and the state after it, for the frames on their way, the causes, the released records, the span words, the
level and the call lamp. -/

namespace Sys2Proof.Machine

/-- A call lamp that is in FLASH is in the first half of it. -/
def Lamp.Fresh (l : Lamp) : Prop := l.st = .flash → l.high = true ∧ l.left = some 50

/-- A frame that coalescing never replaces. -/
def Frame.plain (f : Frame) : Prop := Payload.isStatus f.payload = false ∧ Payload.isWant f.payload = false

/-- A WANT of this station is on its way out. -/
def State.SendsWant (s : State) : Prop := ∃ n, s.Sends ⟨0, .want n⟩

/-- The level is 3 on account of a cause that is PENDING. -/
def State.Stopped3 (s : State) : Prop := s.att.level = 3 ∧ ∃ c, (s.cause c).st = .pending ∧ s.severity c = 3

/-- What a derived action from s to t keeps. -/
structure Derives (s t : State) : Prop where
  boot : t.boot = s.boot
  names : s.NamesSound → t.NamesSound
  sends : ∀ f : Frame, f.plain → s.Sends f → t.Sends f
  want : s.SendsWant → t.SendsWant
  pending : ∀ c, (s.cause c).st = .pending → (t.cause c).st = .pending
  level : s.Stopped3 → t.Stopped3
  released : s.NamesSound → ∀ r ∈ s.track, r.handed = true → r ∈ t.track
  span : ∀ p, s.span p = .free → t.span p = .free
  flash : s.bay.lamp.Fresh → t.bay.lamp.Fresh

section
variable {s t u : State}

theorem Derives.refl (s : State) : Derives s s :=
  ⟨rfl, id, fun _ _ => id, id, fun _ => id, id, fun _ _ hr _ => hr, fun _ => id, id⟩

theorem Derives.trans (h : Derives s t) (k : Derives t u) : Derives s u where
  boot := k.boot.trans h.boot
  names := k.names ∘ h.names
  sends f hf := k.sends f hf ∘ h.sends f hf
  want := k.want ∘ h.want
  pending c := k.pending c ∘ h.pending c
  level := k.level ∘ h.level
  released hs r hr hh := k.released (h.names hs) r (h.released hs r hr hh) hh
  span p := k.span p ∘ h.span p
  flash := k.flash ∘ h.flash

theorem Derives.ite {c : Prop} [Decidable c] (h : c → Derives s t) (k : ¬ c → Derives s u) :
    Derives s (if c then t else u) := by
  split
  · exact h ‹_›
  · exact k ‹_›

theorem Derives.when {c : Prop} [Decidable c] (h : c → Derives s t) : Derives s (if c then t else s) :=
  .ite h fun _ => .refl s

theorem Derives.unless {c : Prop} [Decidable c] (h : ¬ c → Derives s t) : Derives s (if c then s else t) :=
  .ite (fun _ => .refl s) h

theorem Derives.foldl {α : Type} {f : State → α → State} (hf : ∀ t x, Derives t (f t x)) (l : List α) :
    ∀ s, Derives s (l.foldl f s) := by
  induction l with
  | nil => exact .refl
  | cons x l ih => exact fun s => (hf s x).trans (ih _)

/-- The parts of a state that the relation reads. -/
def State.seen (s : State) :=
  (s.boot, s.track, s.nextId, (s.line.queue, s.line.reg), (s.att.causes, s.att.level), (s.dr.span0, s.dr.span1),
    s.bay.lamp)

/-- A change beside all that the relation reads. -/
theorem Derives.aside (h : t.seen = s.seen) : Derives s t := by
  simp only [State.seen, Prod.mk.injEq] at h
  obtain ⟨hb, ht, hi, ⟨hq, hr⟩, ⟨hc, hl⟩, ⟨h0, h1⟩, hp⟩ := h
  have hcause (c : Cause) : t.cause c = s.cause c := by unfold State.cause; rw [hc]
  have hsends (f : Frame) : s.Sends f → t.Sends f := by unfold State.Sends; rw [hq, hr]; exact id
  refine ⟨hb, ?_, fun f _ => hsends f, fun ⟨n, hn⟩ => ⟨n, hsends _ hn⟩, fun c h => ?_, ?_, fun _ r hm _ => ?_, ?_, ?_⟩
  · unfold State.NamesSound; rw [ht, hi]; exact id
  · rw [hcause]; exact h
  · rintro ⟨h3, c, hp, hs⟩
    exact ⟨hl.trans h3, c, by rw [hcause]; exact hp, by rw [State.severity_congr hb]; exact hs⟩
  · rw [ht]; exact hm
  · rintro (_ | _)
    · exact fun h => h0.trans h
    · exact fun h => h1.trans h
  · rw [hp]; exact id

theorem Derives.after (k : Derives t u) (h : t.seen = s.seen) : Derives s u := (Derives.aside h).trans k

/-! ### Frames -/

/-- A queue put in place of one whose frames it keeps. -/
theorem State.setQueue_derives (s : State) (q : List Frame) (hq : ∀ f ∈ s.line.queue, f.plain → f ∈ q)
    (hw : (∃ n, ⟨0, .want n⟩ ∈ s.line.queue) → ∃ n, (⟨0, .want n⟩ : Frame) ∈ q) : Derives s (s.setQueue q) := by
  have hreg (f : Frame) (h : ∃ r, s.line.reg = some r ∧ r.frame = f) : (s.setQueue q).Sends f := by
    obtain ⟨r, hr, hf⟩ := h
    refine .inr ⟨r, ?_, hf⟩
    unfold State.setQueue Line.refill
    dsimp only
    rw [hr]
  have hspan (p : DownPort) : (s.setQueue q).span p = s.span p := by cases p <;> rfl
  refine ⟨rfl, id, fun f hf h => ?_, fun ⟨n, h⟩ => ?_, fun _ => id, id, fun _ _ hr _ => hr, fun p h => ?_, id⟩
  · exact h.elim (fun h => s.sends_setQueue q f (hq f h hf)) (hreg f)
  · rcases h with h | h
    · obtain ⟨m, hm⟩ := hw ⟨n, h⟩
      exact ⟨m, s.sends_setQueue q _ hm⟩
    · exact ⟨n, hreg _ h⟩
  · rw [hspan]; exact h

variable (s)

theorem State.offerRoutine_derives (f : Frame) : Derives s (s.offerRoutine f) := by
  unfold State.offerRoutine
  refine .when fun _ => s.setQueue_derives _ (fun g hg _ => List.mem_append_left _ hg) ?_
  exact fun ⟨n, hn⟩ => ⟨n, List.mem_append_left _ hn⟩

/-- Frames that one of their kind may replace, replaced. -/
theorem State.offerCoalesced_derives (same : Payload → Bool) (f : Frame)
    (hs : ∀ g : Frame, g.plain → same g.payload = false)
    (hw : (∃ n, same (.want n) = true) → ∃ n, f = ⟨0, .want n⟩) : Derives s (s.offerCoalesced same f) := by
  unfold State.offerCoalesced
  refine .ite (fun _ => s.setQueue_derives _ (fun g hg hp => ?_) ?_) fun _ => s.offerRoutine_derives f
  · exact List.mem_map.2 ⟨g, hg, by rw [hs g hp]; rfl⟩
  · rintro ⟨n, hn⟩
    by_cases h : same (.want n) = true
    · obtain ⟨m, rfl⟩ := hw ⟨n, h⟩
      exact ⟨m, List.mem_map.2 ⟨_, hn, if_pos h⟩⟩
    · exact ⟨n, List.mem_map.2 ⟨_, hn, if_neg h⟩⟩

theorem State.queueStatus_derives : Derives s s.queueStatus :=
  s.offerCoalesced_derives _ _ (fun _ h => h.1) fun ⟨_, h⟩ => absurd h Bool.false_ne_true

theorem State.queueWant_derives : Derives s s.queueWant :=
  s.offerCoalesced_derives _ _ (fun _ h => h.2) fun _ => ⟨_, rfl⟩

/-! ### Causes -/

/-- A cause's entry changed, one that is PENDING to stay so, and the level as it is. -/
theorem State.changeCause_derives (c : Cause) (e : CauseEntry) (h : (s.cause c).st = .pending → e.st = .pending) :
    Derives s (s.changeCause c e) := by
  have hp (k : Cause) (hk : (s.cause k).st = .pending) : ((s.changeCause c e).cause k).st = .pending := by
    rw [State.cause_changeCause]
    split
    · rename_i heq; exact h (heq ▸ hk)
    · exact hk
  refine ⟨rfl, id, fun _ _ => id, id, hp, ?_, fun _ _ hr _ => hr, fun p => ?_, id⟩
  · rintro ⟨h3, k, hk, hs⟩
    exact ⟨h3, k, hp k hk, hs⟩
  · cases p <;> exact id

theorem State.setCause_derives (c : Cause) (e : CauseEntry) (h : (s.cause c).st = .pending → e.st = .pending) :
    Derives s (s.setCause c e) :=
  (s.changeCause_derives c e h).trans <| by
    exact ⟨rfl, id, fun _ _ => id, id, fun _ => id, id, fun _ _ hr _ => hr, fun _ => id, id⟩

/-- A cause of severity 3 that is PENDING makes the level 3. -/
theorem State.levelNow_of_pending3 {c : Cause} (hp : (s.cause c).st = .pending) (hs : s.severity c = 3) :
    s.levelNow = 3 := by
  obtain ⟨k, hk, -, htop⟩ :=
    State.topCause_of_some (s := s) (p := (· != .absent)) (c := c) (by rw [hp]; rfl)
  have hle : (3 : Fin 4) ≤ s.severity k := hs ▸ (htop c (by rw [hp]; rfl)).severity_le
  unfold State.levelNow
  rw [hk]
  exact le_antisymm (Fin.le_last _) hle

theorem State.recomputeLevel_derives : Derives s s.recomputeLevel := by
  unfold State.recomputeLevel
  refine .unless fun _ => Derives.trans ?_ (State.queueStatus_derives _)
  refine ⟨rfl, id, fun _ _ => id, id, fun _ => id, ?_, fun _ _ hr _ => hr, fun p => ?_, id⟩
  · rintro ⟨-, c, hp, hs⟩
    exact ⟨s.levelNow_of_pending3 hp hs, c, hp, hs⟩
  · cases p <;> exact id

theorem State.raise_derives (c : Cause) (d : Nat) : Derives s (s.raise c d) := by
  unfold State.raise
  extract_lets e d t u
  have ht : Derives s t := s.changeCause_derives c _ fun _ => rfl
  have hu : Derives t u := .when fun _ => t.offerRoutine_derives _
  exact .ite (fun _ => (ht.trans hu).trans u.recomputeLevel_derives) fun _ =>
    s.changeCause_derives c _ fun _ => rfl

theorem State.sendPrompt_derives (d : Station) (x : Payload) : Derives s (s.sendPrompt d x) := by
  unfold State.sendPrompt
  refine .when fun _ => .ite (fun _ => s.setQueue_derives _ (fun g hg _ => ?_) ?_) fun _ => s.raise_derives _ _
  · exact (mem_insertPrompt _ _ _).2 (.inl hg)
  · exact fun ⟨n, hn⟩ => ⟨n, (mem_insertPrompt _ _ _).2 (.inl hn)⟩

theorem State.endUnsteady_derives : Derives s (s.conditionEnd .beltUnsteady) := by
  unfold State.conditionEnd
  extract_lets e t
  have ht : Derives s t := s.setCause_derives _ _ id
  refine .ite (fun h => ht.trans (Derives.trans ?_ (State.recomputeLevel_derives _))) fun _ => ht
  show Derives t (t.absentOne .beltUnsteady)
  unfold State.absentOne
  refine .unless fun _ => t.changeCause_derives _ _ fun hp => ?_
  rw [State.cause_setCause, if_pos rfl] at hp
  exact absurd (h.symm.trans hp) (by decide)

/-! ### The track -/

/-- Records changed in place, no released one among them. -/
theorem State.updRec_derives (i : Nat) (f : Rec → Rec) (hid : ∀ r, (f r).id = r.id)
    (hh : s.NamesSound → ∀ r ∈ s.track, r.id = i → r.handed = true → f r = r) : Derives s (s.updRec i f) := by
  refine ⟨rfl, ?_, fun _ _ => id, id, fun _ => id, id, fun hs r hr hd => List.mem_map.2 ⟨r, hr, ?_⟩,
    fun p => ?_, id⟩
  · exact (State.updRec_upholds_if (p := True) (q := False) (n := False) i f hid nofun nofun).names
  · split
    · exact hh hs r hr ‹_› hd
    · rfl
  · cases p <;> exact id

/-- The head is no released record, so it may be changed. -/
theorem State.updHead_derives {r : Rec} (hr : s.head = some r) (f : Rec → Rec) (hid : ∀ r, (f r).id = r.id) :
    Derives s (s.updRec r.id f) :=
  s.updRec_derives _ f hid fun hs x hx he hd => by
    obtain ⟨hm, hh⟩ := State.mem_of_head hr
    rw [hs.unique hx hm he, hh] at hd
    exact absurd hd Bool.false_ne_true

theorem State.bumpSerial_derives (x : DownPort) : Derives s (s.bumpSerial x) := .aside (by cases x <;> rfl)
theorem State.setStallMark_derives (x : UpPort) (m : Bool) : Derives s (s.setStallMark x m) :=
  .aside (by cases x <;> rfl)
theorem State.setSlot_derives (m : SlotName) (x : Option Slot) : Derives s (s.setSlot m x) :=
  .aside (by cases m <;> rfl)
theorem State.setNoted_derives (x : UpPort) (m : Option Noted) : Derives s (s.setNoted x m) :=
  .aside (by cases x <;> rfl)
theorem State.updChan_derives (e : Eye) (f : EyeChan → EyeChan) : Derives s (s.updChan e f) :=
  .aside (by cases e <;> rfl)
theorem State.steeredAdd_derives (x : DownPort) (m : RackNo) (st : Station) : Derives s (s.steeredAdd x m st) :=
  .aside (by cases x <;> rfl)

theorem Lamp.fresh_to {l : Lamp} (h : l.Fresh) (x : LampState) : (l.to x Config.callFlash).Fresh := by
  cases x with
  | off => exact nofun
  | steady => exact nofun
  | flash =>
    unfold Lamp.to
    dsimp only
    split
    · exact h
    · exact fun _ => ⟨rfl, rfl⟩

theorem State.callLampStep_derives : Derives s s.callLampStep :=
  ⟨rfl, id, fun _ _ => id, id, fun _ => id, id, fun _ _ hr _ => hr, fun p => by cases p <;> exact id,
    fun h => Lamp.fresh_to h _⟩

theorem State.wantStep_derives : Derives s s.wantStep := by
  unfold State.wantStep
  exact .when fun _ => Derives.trans (t := { s with bay := { s.bay with want := s.wantNow } }) (.aside rfl)
    (.when fun _ => State.queueWant_derives _)

theorem State.bayFollows_derives : Derives s s.bayFollows :=
  s.wantStep_derives.trans (State.callLampStep_derives _)

theorem State.stopFired_derives : Derives s s.stopFired := by
  unfold State.stopFired
  split
  · exact .refl s
  · rename_i r hr
    refine .when fun _ => (s.updHead_derives hr (fun r => { r with state := .atBay }) fun _ => rfl).trans
      (.when fun _ => Derives.trans ?_ (State.raise_derives _ _ _))
    refine State.updRec_derives _ _ _ (fun _ => rfl) fun hs x hx he hd => ?_
    obtain ⟨hm, hh⟩ := State.mem_of_head hr
    have hmem : ({ r with state := .atBay } : Rec) ∈ (s.updRec r.id fun r => { r with state := .atBay }).track :=
      s.mem_updRec (fun r => { r with state := .atBay }) hm
    rw [hs.unique hx hmem he] at hd
    exact absurd hd Bool.false_ne_true

theorem State.loadGroup_derives (r : Rec) : Derives s (s.loadGroup r) := by
  unfold State.loadGroup
  extract_lets c k g t
  have ht : Derives s t := .aside rfl
  exact ht.trans (.when fun _ => t.stopFired_derives)

theorem State.rehead_derives : Derives s s.rehead := by
  unfold State.rehead
  split
  · rename_i r hr
    refine .unless fun _ => Derives.trans (t := { s with bay := { s.bay with released := false } }) (.aside rfl)
      (Derives.trans (.when fun _ => ?_) (State.loadGroup_derives _ _))
    refine State.updHead_derives _ ?_ (fun r => { r with state := .head }) fun _ => rfl
    exact hr
  · split
    · exact .refl s
    · exact .unless fun _ => .aside rfl

theorem State.sendWithdraw_derives (r : Rec) : Derives s (s.sendWithdraw r) := by
  unfold State.sendWithdraw
  have h : Derives s { s with ex := { s.ex with resend := none, patience := none } } := .aside rfl
  split
  · exact h.trans (State.sendPrompt_derives _ _ _)
  · exact h

theorem State.withdrawHead_derives : Derives s s.withdrawHead := by
  unfold State.withdrawHead
  split
  · rename_i r hr
    exact .when fun _ => (s.sendWithdraw_derives r).trans (State.updHead_derives _
      ((State.head_congr (s.track_sendWithdraw r)).trans hr) _ fun _ => rfl)
  · exact .refl s

theorem State.release_derives {r : Rec} (hr : s.head = some r) (f : Rec → Rec) (hid : ∀ x, (f x).id = x.id) :
    Derives s (s.release r f) := by
  unfold State.release
  extract_lets s₁ s₂ x s₃
  have e₁ : Derives s s₁ := s.updHead_derives hr _ fun x => hid _
  have e₂ : Derives s₁ s₂ := .when fun _ => .aside rfl
  have e₃ : Derives s₂ s₃ := .aside rfl
  exact (((e₁.trans e₂).trans e₃).trans s₃.callLampStep_derives).trans (State.rehead_derives _)

/-! ### The drive -/

theorem State.sendStalls_derives : Derives s s.sendStalls :=
  .foldl (fun t _ => .when fun _ => (t.setStallMark_derives _ _).trans (State.sendPrompt_derives _ _ _)) _ s

theorem State.sendGos_derives : Derives s s.sendGos :=
  .foldl (fun t _ => .when fun _ => (t.setStallMark_derives _ _).trans (State.sendPrompt_derives _ _ _)) _ s

theorem State.leaveRun_derives : Derives s s.leaveRun := by
  unfold State.leaveRun
  extract_lets src t
  have ht : Derives s t := .aside rfl
  exact ht.trans (.when fun _ => t.endUnsteady_derives)

theorem State.enterHold_derives : Derives s s.enterHold := by
  unfold State.enterHold
  extract_lets d reg s₁ src s₂
  have e₁ : Derives s s₁ := .when fun _ => s.leaveRun_derives
  have e₂ : Derives s₁ s₂ := .aside rfl
  exact ((e₁.trans e₂).trans s₂.queueStatus_derives).trans (State.sendStalls_derives _)

theorem State.enterSpinUp_derives (f : Bool) : Derives s (s.enterSpinUp f) := by
  unfold State.enterSpinUp
  extract_lets src t
  have e : Derives s t := .aside rfl
  exact (e.trans t.queueStatus_derives).trans (State.sendGos_derives _)

theorem State.enterRegulated_derives (b : BeltState) (l : Nat) : Derives s (s.enterRegulated b l) := by
  unfold State.enterRegulated
  exact (State.queueStatus_derives _).after rfl

theorem State.switchRegulated_derives (b : BeltState) : Derives s (s.switchRegulated b) := by
  unfold State.switchRegulated
  extract_lets t
  have e : Derives s t := .when fun _ => s.leaveRun_derives
  exact e.trans ((State.queueStatus_derives _).after rfl)

theorem State.followBelt_derives : Derives s s.followBelt := by
  unfold State.followBelt
  split
  · exact .refl s
  · exact .ite (fun _ => (s.enterRegulated_derives _ _).trans (State.sendGos_derives _)) fun _ =>
      s.enterSpinUp_derives _
  · exact .when fun _ => s.enterHold_derives
  · exact .aside rfl
  · exact .refl s
  · exact s.switchRegulated_derives _
  · exact s.enterHold_derives
  · exact .refl s
  · exact s.switchRegulated_derives _
  · exact s.enterHold_derives
  · exact .refl s

theorem State.updateTarget_derives : Derives s s.updateTarget := by
  unfold State.updateTarget
  exact .unless fun _ => .ite (fun _ => .aside rfl) fun _ => .aside rfl

/-- The drive unit replaced, its FREE span words FREE. -/
theorem Derives.dr (d : Drive) (h : ∀ p, s.span p = .free → State.span { s with dr := d } p = .free) :
    Derives s { s with dr := d } :=
  ⟨rfl, id, fun _ _ => id, id, fun _ => id, id, fun _ _ hr _ => hr, h, id⟩

/-- A span word set FREE. -/
theorem State.setSpanFree_derives (x : DownPort) : Derives s (s.setSpan x .free) := by
  cases x with
  | d0 => exact Derives.dr s _ fun p h => by cases p; exacts [rfl, h]
  | d1 => exact Derives.dr s _ fun p h => by cases p; exacts [h, rfl]

theorem State.freeSpans_derives : Derives s s.freeSpans := by
  unfold State.freeSpans
  extract_lets t
  have e : Derives s t := .unless fun _ => s.setSpanFree_derives _
  exact e.trans (.unless fun _ => t.setSpanFree_derives _)

theorem State.leavePark_derives : Derives s s.leavePark :=
  Derives.trans (t := { s with idle := { s.idle.awake with wakePending := false } }) (.aside rfl)
    (State.enterSpinUp_derives _ _)

theorem State.pendingWake_derives : Derives s s.pendingWake := by
  unfold State.pendingWake
  exact .when fun _ => s.leavePark_derives

theorem State.followIdle_derives : Derives s s.followIdle := by
  unfold State.followIdle
  split
  · exact .when fun _ => .aside rfl
  · exact .unless fun _ => .aside rfl
  · exact .unless fun _ => .aside rfl
  · exact .refl s

/-! ### The passes -/

theorem State.discardReused_derives (x : DownPort) (m : Serial) : Derives s (s.discardReused x m) := by
  unfold State.discardReused
  exact .when fun _ => .aside rfl

theorem State.sendOffer_derives {r : Rec} (x : DownPort) (hr : s.head = some r) : Derives s (s.sendOffer r x) := by
  unfold State.sendOffer
  extract_lets m s₁ s₂ s₃ src s₄
  have e₁ : Derives s s₁ := s.bumpSerial_derives x
  have e₂ : Derives s₁ s₂ :=
    State.updHead_derives _ ((State.head_congr (by cases x <;> rfl)).trans hr) _ fun _ => rfl
  have e₃ : Derives s₂ s₃ := s₂.discardReused_derives _ _
  have e₄ : Derives s₃ s₄ := .aside rfl
  exact (((e₁.trans e₂).trans e₃).trans e₄).trans (s₄.sendPrompt_derives _ _)

theorem State.releaseFree_derives {r : Rec} (x : DownPort) (hr : s.head = some r) :
    Derives s (s.releaseFree r x) := by
  unfold State.releaseFree
  extract_lets b t
  have e : Derives s t := s.release_derives hr _ fun _ => rfl
  exact e.trans (.when fun _ => t.steeredAdd_derives _ _ _)

theorem State.offerLoop_derives : ∀ (k : Nat) (s : State), Derives s (s.offerLoop k)
  | 0, s => .refl s
  | k + 1, s => by
    unfold State.offerLoop
    split
    · exact .refl s
    · rename_i r hr
      have hh := s.head_of_offerable hr
      exact Derives.trans (.ite (fun _ => s.releaseFree_derives _ hh) fun _ => s.sendOffer_derives _ hh)
        (State.offerLoop_derives k _)

theorem State.offerStep_derives : Derives s s.offerStep := State.offerLoop_derives 13 s

theorem State.withdrawAtLevel3_derives : Derives s s.withdrawAtLevel3 := by
  unfold State.withdrawAtLevel3
  exact .when fun _ => s.withdrawHead_derives

theorem State.gateStep_derives : Derives s s.gateStep := by
  unfold State.gateStep
  refine .when fun _ => ?_
  split
  · exact .unless fun _ => .aside rfl
  · exact .ite (fun _ => .unless fun _ => .aside rfl) fun _ => .ite (fun _ => .aside rfl) fun _ =>
      .ite (fun _ => .aside rfl) fun _ => .aside rfl

theorem State.takeOffer_derives (x : UpPort) (m : Serial) (i : Image) (rt : Option Route) :
    Derives s (s.takeOffer x m i rt) := by
  unfold State.takeOffer
  split
  · exact .refl s
  · extract_lets s₁ src s₂ s₃ src' s₄
    have e₁ : Derives s s₁ := s.setSlot_derives _ _
    have e₂ : Derives s₁ s₂ := .aside rfl
    have e₃ : Derives s₂ s₃ := s₂.setNoted_derives _ _
    have e₄ : Derives s₃ s₄ := .when fun _ => .aside rfl
    exact (((e₁.trans e₂).trans e₃).trans e₄).trans (s₄.sendPrompt_derives _ _)

theorem State.takeNoted_derives (x : UpPort) : Derives s (s.takeNoted x) := by
  unfold State.takeNoted
  split
  · exact .refl s
  · exact s.takeOffer_derives _ _ _ _

theorem State.readyStep_derives : Derives s s.readyStep :=
  (s.takeNoted_derives _).trans (State.takeNoted_derives _ _)

theorem State.unaccountedStep_derives : Derives s s.unaccountedStep :=
  .foldl (fun t _ => t.updChan_derives _ _) _ s

/-- A pass after the bay unit has acted on what has just changed. -/
def State.passOn' (entry : Bool) (s : State) : State :=
  let s := s.freeSpans.pendingWake.gateStep.offerStep.followBelt.updateTarget
  let s := if entry then s.readyStep else s
  s.followIdle.bayFollows.unaccountedStep

theorem State.pass_eq (entry : Bool) : s.pass entry = s.bayFollows.withdrawAtLevel3.passOn' entry := rfl

theorem State.passOn'_derives (b : Bool) : Derives s.freeSpans (s.passOn' b) := by
  unfold State.passOn'
  extract_lets t u
  have et : Derives s.freeSpans t :=
    (State.pendingWake_derives _).trans <| (State.gateStep_derives _).trans <| (State.offerStep_derives _).trans <|
      (State.followBelt_derives _).trans (State.updateTarget_derives _)
  have eu : Derives t u := .when fun _ => t.readyStep_derives
  exact et.trans <| eu.trans <| u.followIdle_derives.trans <| (State.bayFollows_derives _).trans
    (State.unaccountedStep_derives _)

theorem State.pass_derives (b : Bool) : Derives s (s.pass b) := by
  rw [State.pass_eq]
  exact s.bayFollows_derives.trans <| (State.withdrawAtLevel3_derives _).trans <| (State.freeSpans_derives _).trans
    (State.passOn'_derives _ _)

theorem State.restrict3_derives : Derives s s.restrict3 := by
  unfold State.restrict3
  exact .when fun _ => s.withdrawHead_derives.trans (.unless fun _ =>
    (State.enterHold_derives _).trans (State.updateTarget_derives _))

theorem State.attLampStep_derives : Derives s s.attLampStep := .aside rfl

theorem State.finish_derives : Derives s s.finish :=
  (s.restrict3_derives.trans (State.callLampStep_derives _)).trans (State.attLampStep_derives _)

/-- What follows the first pass of settling. -/
theorem State.afterPass_derives (b : Bool) : Derives s (State.finish (State.pass b (State.pass b s))) :=
  ((State.pass_derives _ _).trans (State.pass_derives _ _)).trans (State.finish_derives _)

theorem State.settle_derives : Derives s s.settle := (s.pass_derives true).trans (State.afterPass_derives _ true)
theorem State.settleEdge_derives : Derives s s.settleEdge :=
  (s.pass_derives false).trans (State.afterPass_derives _ false)

end

/-- Settles O53: every operation of settling keeps the frames, the pending causes and the released records. -/
theorem derivedActionsLoseNothing : Obligations.DerivedActionsLoseNothing := by
  intro s
  have h := s.settle_derives
  have k := s.settleEdge_derives
  exact ⟨fun f hs hw hf => ⟨h.sends f ⟨hs, hw⟩ hf, k.sends f ⟨hs, hw⟩ hf⟩,
    fun c hc => ⟨h.pending c hc, k.pending c hc⟩,
    fun hs r hr hd => ⟨h.released hs r hr hd, k.released hs r hr hd⟩⟩

end Sys2Proof.Machine


/-! What every derived round ends with (log 10): the belt and the offers at level 3, the span words, the two lamps and
the mark group. -/

namespace Sys2Proof.Machine

section
variable (s : State)

/-! ### No offer at level 3 (R89) -/

theorem Rec.state_withdrawn (r : Rec) : r.withdrawn.state ≠ .offered := by
  unfold Rec.withdrawn
  dsimp only
  split <;> exact (by decide)

/-- The first record that is not released, after the one before has been withdrawn, is one that was. -/
theorem find_withdrawn {r q : Rec} : ∀ {l : List Rec}, l.find? (fun x => !x.handed) = some r →
    (l.map fun x => if x.id = r.id then x.withdrawn else x).find? (fun x => !x.handed) = some q →
    ∃ x : Rec, q = x.withdrawn
  | a :: l, hr, hq => by
    rw [List.map_cons, List.find?_cons] at hq
    rw [List.find?_cons] at hr
    by_cases ha : a.id = r.id
    · rw [if_pos ha, a.handed_withdrawn] at hq
      exact ⟨a, (Option.some.inj hq).symm⟩
    · rw [if_neg ha] at hq
      cases hd : a.handed with
      | true => rw [hd] at hr hq; exact find_withdrawn hr hq
      | false => rw [hd] at hr; exact absurd (congrArg Rec.id (Option.some.inj hr)) ha

theorem State.head_withdrawHead {q : Rec} (h : s.withdrawHead.head = some q) : q.state ≠ .offered := by
  unfold State.withdrawHead at h
  cases hr : s.head with
  | none =>
    simp only [hr] at h
    exact absurd h nofun
  | some r =>
    simp only [hr] at h
    split at h
    · have ht : (s.sendWithdraw r).track = s.track := s.track_sendWithdraw r
      obtain ⟨x, rfl⟩ := find_withdrawn (l := s.track) hr (by
        rw [← ht]; exact h)
      exact x.state_withdrawn
    · rename_i hs
      rw [hr] at h
      exact Option.some.inj h ▸ hs

theorem State.track_enterHold : s.enterHold.track = s.track :=
  s.get_enterHold (b := .track) (by decide) (by decide) (by decide) (by decide) (by decide)

theorem State.track_updateTarget : s.updateTarget.track = s.track := s.get_updateTarget (b := .track) (by decide)

theorem State.head_restrict3 (hl : s.restrict3.att.level = 3) {q : Rec} (h : s.restrict3.head = some q) :
    q.state ≠ .offered := by
  unfold State.restrict3 at h hl
  dsimp only at h hl
  split at h
  · split at h
    · exact s.head_withdrawHead h
    · refine s.head_withdrawHead ?_
      rw [← h]
      exact (State.head_congr ((State.track_updateTarget _).trans (State.track_enterHold _))).symm
  · rename_i hn
    rw [if_neg hn] at hl
    exact absurd hl hn

/-! ### Span words (R69) -/

/-- A withdrawal releases no record. -/
theorem State.handing_withdrawHead (p : DownPort) (h : s.handing p = false) : s.withdrawHead.handing p = false := by
  unfold State.withdrawHead
  split
  · rename_i r hr
    split
    · have ht : (State.updRec (s.sendWithdraw r) r.id Rec.withdrawn).track
          = s.track.map fun x => if x.id = r.id then x.withdrawn else x :=
        congrArg _ (s.track_sendWithdraw r)
      simp only [State.handing, List.any_eq_false, ht, List.mem_map, forall_exists_index, and_imp,
        forall_apply_eq_imp_iff₂] at h ⊢
      intro x hx
      split
      · simp [x.handed_withdrawn]
      · exact h x hx
    · exact h
  · exact h

theorem State.handing_congr {s t : State} (h : t.track = s.track) (p : DownPort) : t.handing p = s.handing p := by
  unfold State.handing; rw [h]

/-- A port to which no record goes has a FREE span word once the span words are brought up to date. -/
theorem State.span_freeSpans {p : DownPort} (h : s.handing p = false) : s.freeSpans.span p = .free := by
  unfold State.freeSpans
  extract_lets t
  cases p with
  | d0 =>
    have h0 : t.span .d0 = .free := by simp only [t, h]; rfl
    exact (Derives.unless fun _ => t.setSpanFree_derives .d1).span .d0 h0
  | d1 =>
    have h1 : t.handing .d1 = false := by
      refine (State.handing_congr ?_ _).trans h
      simp only [t]; split <;> rfl
    rw [if_neg (by rw [h1]; exact Bool.false_ne_true)]
    rfl

theorem State.span_pass {p : DownPort} (b : Bool) (h : s.handing p = false) : (s.pass b).span p = .free := by
  rw [State.pass_eq]
  refine (State.passOn'_derives _ b).span p (State.span_freeSpans _ ?_)
  have h' : s.bayFollows.handing p = false :=
    (State.handing_congr (s.get_bayFollows (b := .track) (by decide) (by decide)) p).trans h
  unfold State.withdrawAtLevel3
  split
  · exact State.handing_withdrawHead _ p h'
  · exact h'

/-! ### The call lamp (R134) -/

/-- The call lamp in each of its three states. -/
theorem State.lamp_callLampStep_eq : s.callLampStep.bay.lamp =
    if s.callState = .flash then
      if s.bay.lamp.st = .flash then s.bay.lamp else { st := .flash, high := true, left := some 50 }
    else { st := s.callState, high := decide (s.callState = .steady), left := none } := by
  show s.bay.lamp.to s.callState Config.callFlash = _
  cases s.callState <;> rfl

/-- After an evaluation the lamp is in a FLASH only if its table says so, and then in a first half unless it was in
FLASH before. -/
theorem State.fresh_callLampStep (h : s.callState ≠ .flash) : s.callLampStep.bay.lamp.Fresh :=
  fun hf => absurd (s.lamp_callLampStep.symm.trans hf) h

theorem State.flash_pass (b : Bool) (h : s.wantStep.callState ≠ .flash) : (s.pass b).bay.lamp.Fresh := by
  rw [State.pass_eq]
  exact ((State.withdrawAtLevel3_derives _).trans <| (State.freeSpans_derives _).trans
    (State.passOn'_derives _ b)).flash (s.wantStep.fresh_callLampStep h)

/-- The table of the call lamp (R134). -/
theorem State.callState_table :
    let bay := s.boot.mode = .active ∧ (s.hasRole .load = true ∨ s.hasRole .unload = true)
    let first := s.track.find? fun r => r.state == .atBay
    (¬ bay → s.callState = .off)
    ∧ (bay → ∀ r, first = some r → s.bay.released = false →
        s.callState = if s.hasRole .unload = true ∧ r.flags.misrouted = true then .flash else .steady)
    ∧ (bay → ∀ r, first = some r → s.bay.released = true → s.callState = .off)
    ∧ (bay → first = none → s.callState =
        if s.hasRole .load = true ∧ 0 < s.boot.prof.wantTarget ∧ s.bay.want = s.boot.prof.wantTarget then .flash
        else .off) := by
  intro bay first
  have hbay : (s.boot.mode == .active && s.bayRole) = true ↔ bay := by simp [bay, State.bayRole]
  unfold State.callState
  refine ⟨fun h => if_neg (mt hbay.1 h), fun h r hr hn => ?_, fun h r hr hy => ?_, fun h hr => ?_⟩
  · rw [if_pos (hbay.2 h)]
    simp only [first] at hr
    simp [hr, hn]
  · rw [if_pos (hbay.2 h)]
    simp only [first] at hr
    simp [hr, hy]
  · rw [if_pos (hbay.2 h)]
    simp only [first] at hr
    simp [hr, and_assoc]

/-! ### The end of a round -/

theorem State.belt_finish_of_level3 (h : s.finish.att.level = 3) : s.finish.dr.belt = .hold ∨ s.finish.dr.belt = .park :=
  s.stopped_restrict3 h

theorem State.head_finish_of_level3 (h : s.finish.att.level = 3) (r : Rec) (hr : s.finish.head = some r) :
    r.state ≠ .offered := s.head_restrict3 h hr

theorem State.lamp_finish : s.finish.bay.lamp.st = s.finish.callState := s.restrict3.lamp_callLampStep

theorem State.attLamp_finish : s.finish.att.lamp.st = s.finish.attState :=
  Lamp.st_to _ _ _

/-- The lamp's pin is its level while RESET is released. -/
theorem State.lcallPin_finish : (s.finish.bay.lamp.st = .off → s.finish.lcallPin = false)
    ∧ (s.finish.bay.lamp.st = .steady → s.finish.boot.resetHeld = false → s.finish.lcallPin = true) := by
  have hl : s.finish.bay.lamp = s.restrict3.callLampStep.bay.lamp := rfl
  have key := s.restrict3.lamp_callLampStep_eq
  have hst := s.restrict3.lamp_callLampStep
  rw [← hl] at key hst
  unfold State.lcallPin
  refine ⟨fun h => ?_, fun h hr => ?_⟩
  · rw [hst] at h
    rw [key]
    simp [h]
  · rw [hst] at h
    rw [key]
    simp [h, hr]

/-- A derived round, of a command or of a belt edge. -/
def State.round (b : Bool) (s : State) : State := State.finish (State.pass b (State.pass b (State.pass b s)))

theorem State.eq_round {s t : State} (h : t = s.settle ∨ t = s.settleEdge) : ∃ b, t = s.round b :=
  h.elim (fun h => ⟨true, h⟩) fun h => ⟨false, h⟩

theorem State.head_round (b : Bool) (hs : s.HeadSound) : (s.round b).HeadSound :=
  ((((s.pass_upholds b).trans (State.pass_upholds _ b)).trans (State.pass_upholds _ b)).trans
    (State.finish_upholds _) : Upholds True True True s _).head trivial hs

end

/-- Settles O54: the order of a round's operations brings each block up to date after those that it reads. -/
theorem derivedActionsBringTheBlocksTogether : Obligations.DerivedActionsBringTheBlocksTogether := by
  refine ⟨fun s t ht => ?_, fun s t ht => ?_, fun s => s.lamp_callLampStep_eq⟩
  · obtain ⟨b, rfl⟩ := State.eq_round ht
    have hspan (p : DownPort) (hp : s.handing p = false) : (s.round b).span p = .free :=
      (State.afterPass_derives _ b).span p (s.span_pass b hp)
    exact ⟨State.belt_finish_of_level3 _, State.head_finish_of_level3 _, fun p _ hp => hspan p hp,
      State.attLamp_finish _, s.head_round b⟩
  · obtain ⟨b, rfl⟩ := State.eq_round ht
    obtain ⟨h₁, h₂, h₃, h₄⟩ := (s.round b).callState_table
    obtain ⟨h₅, h₆⟩ := State.lcallPin_finish (State.pass b (State.pass b (State.pass b s)))
    have hst : (s.round b).bay.lamp.st = (s.round b).callState := State.lamp_finish _
    rw [← hst] at h₁ h₂ h₃ h₄
    exact ⟨h₁, h₂, h₃, h₄, h₅, h₆, fun hw => (State.afterPass_derives _ b).flash (s.flash_pass b hw)⟩

end Sys2Proof.Machine


/-! Belt edges, ticks and raw eye changes (R1 to R4, R10, R13, R14, R19, R170): what they write before the derived
actions, and what the tests of belt travel find. -/

namespace Sys2Proof.Machine

section
variable (s : State)

/-! ### Reading a state after the derived actions -/

theorem State.cause_settle {c : Cause} (hc : derivedCause c = false) : s.settle.cause c = s.cause c :=
  State.kept_cause_eq _ _ s.kept_settle c hc

theorem State.track_settle : s.settle.track.map Rec.kept = s.track.map Rec.kept :=
  State.kept_track_eq _ _ s.kept_settle

theorem State.neigh_settle (p : Port) : s.settle.neigh p = s.neigh p := State.kept_neigh_eq _ _ s.kept_settle p

theorem State.tick_settle : s.settle.line.tick = s.line.tick := State.kept_tick_eq _ _ s.kept_settle

/-! ### The edges -/

theorem exec_forwardEdge_eq : exec .forwardEdge s = live s s.forwardEdge := rfl
theorem exec_reverseEdge_eq : exec .reverseEdge s = live s s.reverseEdge := rfl
theorem exec_doubleStep_eq : exec .doubleStep s = live s s.doubleStep := rfl
theorem exec_markFire_eq : exec .markFire s = live s s.doMarkFire := rfl
theorem exec_tick_eq (pins : PinSample) : exec (.tick pins) s = live s (s.doTick pins) := rfl

theorem exec_eyeRawChange_of_runs {s : State} (hr : s.Runs) (e : Eye) (high : Bool) :
    exec (.eyeRawChange e high) s = .next (s.doEyeRawChange e high) :=
  congrArg Host.Outcome.next (if_neg (by rw [show s.boot.resetHeld = false from hr]; exact Bool.false_ne_true))

/-- The count read from its block, for a state whose operation is not to be unfolded. -/
theorem State.cu_of_get {t : State} (h : t.get .cu = s.get .cu) : t.cu = s.cu := h
theorem State.cu_takeDue : s.takeDue.cu = s.cu := s.cu_of_get (s.still_takeDue rfl)
theorem State.found_takeDue : s.takeDue.found = [] := rfl

/-- The bay unit's part in the firing of a mark writes the track, the causes and the queue alone. -/
theorem State.get_testMarks {b : Block} (h : b ≠ .marks) (h₁ : b ≠ .track) (h₂ : b ≠ .att) (h₃ : b ≠ .line) :
    s.testMarks.get b = s.get b := by
  unfold State.testMarks
  dsimp only
  split <;> simp [h, h₁, h₂, h₃]

theorem State.marks_testMarks : s.testMarks.marks = s.marks.map fun m => m.hit s.cu.count := by
  unfold State.testMarks
  dsimp only
  split
  · exact State.get_stopFired (b := .marks) _ (by decide) (by decide) (by decide)
  · rfl

/-- A mark after its test: its place stays, and it is FIRED where it was ARMED at the count. -/
theorem Mark.hit_pos_st (m : Mark) (c : Count) :
    (m.hit c).pos = m.pos ∧ (m.hit c).st = if m.st = .armed ∧ m.pos = c then .fired else m.st := by
  unfold Mark.hit
  split <;> exact ⟨rfl, rfl⟩

/-- Where the stop mark does not fire, the test of the marks writes them alone. -/
theorem State.testMarks_of_no_stop (h : ¬(s.marks.stop.st = .armed ∧ s.marks.stop.pos = s.cu.count)) :
    s.testMarks = { s with marks := s.marks.map fun m => m.hit s.cu.count } := by
  unfold State.testMarks
  refine if_neg ?_
  rintro ⟨ha, hf : (s.marks.stop.hit s.cu.count).st = .fired⟩
  rw [(Mark.hit_pos_st _ _).2, if_neg h, ha] at hf
  exact absurd hf (by decide)

/-- The state in which a forward edge has been counted and the tests of belt travel made. -/
def State.edged (s : State) : State :=
  { s.countEdge s.cu.forward 1 with found := (s.countEdge s.cu.forward 1).beltTests }

theorem State.forwardEdge_eq : s.forwardEdge = s.takeDue.edged.testMarks.settleEdge := rfl

theorem State.cu_edged : s.edged.cu = s.cu.forward := rfl
theorem State.cu_testMarks : s.testMarks.cu = s.cu :=
  s.cu_of_get (s.get_testMarks (by decide) (by decide) (by decide) (by decide))
theorem State.cu_settleEdge_testMarks (t : State) : t.testMarks.settleEdge.cu = t.cu :=
  (State.settleEdge_cu _).trans t.cu_testMarks

theorem State.cu_forwardEdge : s.forwardEdge.cu = s.cu.forward :=
  (State.cu_settleEdge_testMarks _).trans <| (State.cu_edged _).trans (congrArg CountUnit.forward s.cu_takeDue)

theorem State.reverseEdge_eq : s.reverseEdge = (s.takeDue.countEdge s.takeDue.cu.backward (-1)).settleEdge := rfl

theorem State.cu_reverseEdge : s.reverseEdge.cu = s.cu.backward := by
  rw [State.reverseEdge_eq, State.settleEdge_cu]
  exact congrArg CountUnit.backward s.cu_takeDue

/-- The tests of belt travel that an edge with nothing due before it leaves behind. -/
theorem State.found_forwardEdge (h : s.NothingDue) :
    s.forwardEdge.found = (s.countEdge s.cu.forward 1).beltTests := by
  rw [State.forwardEdge_eq, State.settleEdge_found, show s.takeDue = s from h]
  exact State.get_testMarks (b := .found) _ (by decide) (by decide) (by decide) (by decide)

/-! ### What the tests find -/

theorem Eye.mem_all (e : Eye) : e ∈ Eye.all := by cases e <;> decide

theorem State.missed_mem_beltTests (e : Eye) (i : Nat) : .missed e i ∈ s.beltTests ↔ .missed e i ∈ s.findMissed e := by
  simp [State.beltTests, State.findMissed, Eye.mem_all]
theorem State.jam_mem_beltTests (e : Eye) : .jam e ∈ s.beltTests ↔ s.jamPast e = true := by
  simp [State.beltTests, State.findMissed, Eye.mem_all]
theorem State.stuck_mem_beltTests (e : Eye) : .stuck e ∈ s.beltTests ↔ s.stuckPast e = true := by
  simp [State.beltTests, State.findMissed, Eye.mem_all]
theorem State.vanish_mem_beltTests (i : Nat) :
    .vanish i ∈ s.beltTests ↔ ∃ r ∈ s.track, s.vanishPast r = true ∧ r.id = i := by
  simp [State.beltTests, State.findMissed, and_assoc]
theorem State.whereSent_mem_beltTests (i : Nat) :
    .whereSent i ∈ s.beltTests ↔ ∃ r ∈ s.track, s.wherePast r = true ∧ r.id = i := by
  simp [State.beltTests, State.findMissed, and_assoc]
theorem State.transfer_mem_beltTests (i : Nat) :
    .transfer i ∈ s.beltTests ↔ ∃ r ∈ s.track, s.transferPast r = true ∧ r.id = i := by
  simp [State.beltTests, State.findMissed, and_assoc]
theorem State.arrival_mem_beltTests (n : SlotName) :
    .arrival n ∈ s.beltTests ↔ (s.arrivalPast n).isSome = true := by
  have hslot : n = .a ∨ n = .b := by cases n <;> simp
  simp [State.beltTests, State.findMissed, hslot]

/-- The first awaited record of an eye is found exactly when it is late. -/
theorem State.missed_first_mem {e : Eye} {i : Nat} {rest : List Nat} {r : Rec} (ha : (s.chan e).awaited = i :: rest)
    (hr : s.recOf i = some r) : .missed e i ∈ s.findMissed e ↔ s.latePast e r = true := by
  have hi : r.id = i := (State.mem_of_recOf hr).2
  unfold State.findMissed
  rw [ha, List.filterMap_cons_some hr, List.takeWhile_cons]
  split
  · rename_i hl
    simp [hl, hi]
  · rename_i hl
    simp [hl]

theorem State.latePast_iff (e : Eye) (r : Rec) : s.latePast e r = true ↔ s.isCheck e = true
    ∧ (s.chan e).pendingLead = false ∧ s.boot.cts.tol < travel (r.crossing (s.offset e)) s.cu.count := by
  simp [State.latePast, and_assoc]

theorem State.jamPast_iff (e : Eye) : s.jamPast e = true ↔ (e = .entry ∨ e = .exit) ∧ s.fitted e = true
    ∧ EyeState.isBlocked (s.chan e).st = true ∧ (s.chan e).jam = false
    ∧ (if e = .exit then (s.chan e).jamDist else s.boot.cts.rackMax + s.boot.cts.jam)
        < travel (s.chan e).blockedFrom s.cu.count := by
  by_cases he : e = .exit <;> simp [State.jamPast, State.jamDistOf, State.jamOfMax, and_assoc, he]

theorem State.stuckPast_iff (e : Eye) : s.stuckPast e = true ↔ s.watches e = true ∧ (s.chan e).stuck = false
    ∧ ∃ x, (s.chan e).unaccounted = some x ∧ s.boot.cts.jam < travel x s.cu.count := by
  unfold State.stuckPast
  cases h : (s.chan e).unaccounted <;> simp [h, and_assoc]

theorem State.vanishPast_iff (r : Rec) : s.vanishPast r = true ↔ s.eyes.exit.pendingLead = false ∧ r.exitPass = .none
    ∧ s.boot.cts.jam < travel (r.crossing s.boot.cts.exit) s.cu.count := by
  simp [State.vanishPast, and_assoc]

/-- The travel of a record that awaits its landing answer. -/
theorem State.awaitTravel_eq_some (r : Rec) (n : Nat) : s.awaitTravel r = some n ↔ r.handed = true
    ∧ r.exitSerial ≠ none ∧ r.landing = none ∧ ∃ x, r.takenAt = some x ∧ travel x s.cu.count = n := by
  unfold State.awaitTravel
  split <;> simp_all [Option.isSome_iff_ne_none]

theorem State.transferPast_iff (r : Rec) : s.transferPast r = true ↔ r.handed = true ∧ r.exitSerial ≠ none
    ∧ r.landing = none ∧ ∃ x, r.takenAt = some x ∧ s.boot.cts.transfer < travel x s.cu.count := by
  have key : s.transferPast r = true ↔ ∃ n, s.awaitTravel r = some n ∧ s.boot.cts.transfer < n := by
    unfold State.transferPast
    cases s.awaitTravel r <;> simp
  rw [key]
  simp only [State.awaitTravel_eq_some]
  exact ⟨fun ⟨_, ⟨hh, hs, hl, x, hx, hn⟩, ht⟩ => ⟨hh, hs, hl, x, hx, hn.symm ▸ ht⟩,
    fun ⟨hh, hs, hl, x, hx, ht⟩ => ⟨_, ⟨hh, hs, hl, x, hx, rfl⟩, ht⟩⟩

theorem State.wherePast_iff (r : Rec) : s.wherePast r = true ↔ r.whereSent = false ∧ r.handed = true
    ∧ r.exitSerial ≠ none ∧ r.landing = none
    ∧ ∃ x, r.takenAt = some x ∧ s.boot.cts.transfer / 2 < travel x s.cu.count := by
  have key : s.wherePast r = true
      ↔ r.whereSent = false ∧ ∃ n, s.awaitTravel r = some n ∧ s.boot.cts.transfer / 2 < n := by
    unfold State.wherePast
    cases s.awaitTravel r <;> simp
  rw [key]
  simp only [State.awaitTravel_eq_some]
  exact ⟨fun ⟨hw, _, ⟨hh, hs, hl, x, hx, hn⟩, ht⟩ => ⟨hw, hh, hs, hl, x, hx, hn.symm ▸ ht⟩,
    fun ⟨hw, hh, hs, hl, x, hx, ht⟩ => ⟨hw, _, ⟨hh, hs, hl, x, hx, rfl⟩, ht⟩⟩

theorem State.arrivalPast_eq_some (n : SlotName) (x : Slot) : s.arrivalPast n = some x ↔ s.slot n = some x
    ∧ s.eyes.entry.pendingLead = false ∧ x.landing = none ∧ s.boot.cts.arrival < travel x.takenAt s.cu.count := by
  unfold State.arrivalPast
  cases h : s.slot n with
  | none => simp
  | some y =>
    dsimp only
    split
    · rename_i hc
      simp only [Slot.reserved, Bool.and_eq_true, Bool.not_eq_true', Option.isNone_iff_eq_none, decide_eq_true_eq] at hc
      constructor
      · rintro ⟨⟩
        exact ⟨rfl, hc.1.1, hc.1.2, hc.2⟩
      · exact fun hx => hx.1
    · rename_i hc
      simp only [Slot.reserved, Bool.and_eq_true, Bool.not_eq_true', Option.isNone_iff_eq_none, decide_eq_true_eq] at hc
      constructor
      · exact fun hx => absurd hx.symm (Option.some_ne_none _)
      · rintro ⟨⟨⟩, h₁, h₂, h₃⟩
        exact absurd ⟨⟨h₁, h₂⟩, h₃⟩ hc

/-! ### With nothing found the rows of the tests change nothing -/

section
variable {s}

theorem State.doCheckMissed_of_none (h : s.found = []) (e : Eye) : s.doCheckMissed e = s := by
  have hd : s.missedDue e = none := by
    unfold State.missedDue
    split
    · rfl
    · split
      · rfl
      · simp [h]
  unfold State.doCheckMissed
  rw [hd]

theorem State.doEyeJam_of_none (h : s.found = []) (e : Eye) : s.doEyeJam e = s := by
  unfold State.doEyeJam State.jamDue
  simp [h]

theorem State.doEyeStuck_of_none (h : s.found = []) (e : Eye) : s.doEyeStuck e = s := by
  unfold State.doEyeStuck State.stuckDue
  simp [h]

theorem State.doRecordVanish_of_none (h : s.found = []) : s.doRecordVanish = s := by
  have hd : s.vanishDue = none := by simp [State.vanishDue, h]
  unfold State.doRecordVanish
  rw [hd]

theorem State.doWhereSent_of_none (h : s.found = []) : s.doWhereSent = s := by
  have hd : s.whereDue = none := by simp [State.whereDue, h]
  unfold State.doWhereSent
  rw [hd]

theorem State.doTransferExpiry_of_none (h : s.found = []) : s.doTransferExpiry = s := by
  have hd : s.transferDue = none := by simp [State.transferDue, h]
  unfold State.doTransferExpiry
  rw [hd]

theorem State.doSlotArrivalExpiry_of_none (h : s.found = []) : s.doSlotArrivalExpiry = s := by
  have hd : s.arrivalDue = none := by simp [State.arrivalDue, h]
  unfold State.doSlotArrivalExpiry
  rw [hd]

end

end

theorem exec_checkMissed_eq (s : State) (e : Eye) : exec (.checkMissed e) s = live s (s.doCheckMissed e) := rfl
theorem exec_eyeJam_eq (s : State) (e : Eye) : exec (.eyeJam e) s = live s (s.doEyeJam e) := rfl
theorem exec_eyeStuck_eq (s : State) (e : Eye) : exec (.eyeStuck e) s = live s (s.doEyeStuck e) := rfl
theorem exec_recordVanish_eq (s : State) : exec .recordVanish s = live s s.doRecordVanish := rfl
theorem exec_whereSent_eq (s : State) : exec .whereSent s = live s s.doWhereSent := rfl
theorem exec_transferAllowanceExpiry_eq (s : State) :
    exec .transferAllowanceExpiry s = live s s.doTransferExpiry := rfl
theorem exec_slotArrivalExpiry_eq (s : State) : exec .slotArrivalExpiry s = live s s.doSlotArrivalExpiry := rfl

/-- A command whose meaning leaves the state as it is. -/
theorem live_self {s t : State} (h : t = s) : live s t = .next s := by
  unfold live; rw [h, ite_self]

/-- An edge in which nothing was due before it. -/
theorem State.forwardEdge_of_nothingDue {s : State} (h : s.NothingDue) : s.forwardEdge = s.edged.testMarks.settleEdge := by
  rw [State.forwardEdge_eq, show s.takeDue = s from h]

/-- What a forward edge with nothing due writes before the derived actions. -/
theorem State.edged_testMarks_spec (s : State) : let u := s.edged.testMarks
    u.dr = { s.dr with winEdges := s.dr.winEdges + 1 }
    ∧ (∀ m ∈ [MarkGroup.offer, MarkGroup.approach, MarkGroup.stop, MarkGroup.gateClear],
        (m u.marks).pos = (m s.marks).pos ∧
        (m u.marks).st = if (m s.marks).st = .armed ∧ (m s.marks).pos = s.cu.count + 1 then .fired
          else (m s.marks).st)
    ∧ u.marks.owner = s.marks.owner
    ∧ u.eyes = s.eyes ∧ u.tag = s.tag ∧ u.ex = s.ex ∧ u.en = s.en ∧ u.gate = s.gate ∧ u.rt = s.rt
    ∧ u.bay = s.bay ∧ u.idle = s.idle ∧ u.boot = s.boot
    ∧ (¬(s.marks.stop.st = .armed ∧ s.marks.stop.pos = s.cu.count + 1) →
        u.track = s.track ∧ u.line = s.line ∧ u.att = s.att) := by
  intro u
  have key {b : Block} (h : ¬(b = .marks ∨ b = .track ∨ b = .att ∨ b = .line)) : u.get b = s.edged.get b := by
    obtain ⟨h₀, h⟩ := not_or.1 h
    obtain ⟨h₁, h⟩ := not_or.1 h
    obtain ⟨h₂, h₃⟩ := not_or.1 h
    exact s.edged.get_testMarks h₀ h₁ h₂ h₃
  have hm : u.marks = s.marks.map fun m => m.hit (s.cu.count + 1) := s.edged.marks_testMarks
  refine ⟨key (b := .dr) (by decide), fun m hmem => ?_, by rw [hm]; rfl,
    key (b := .eyes) (by decide), key (b := .tag) (by decide),
    key (b := .ex) (by decide), key (b := .en) (by decide),
    key (b := .gate) (by decide), key (b := .rt) (by decide),
    key (b := .bay) (by decide), key (b := .idle) (by decide),
    key (b := .boot) (by decide), fun hn => ?_⟩
  · rw [hm]
    simp only [List.mem_cons, List.not_mem_nil, or_false] at hmem
    rcases hmem with rfl | rfl | rfl | rfl <;> exact Mark.hit_pos_st _ _
  · rw [show u = _ from s.edged.testMarks_of_no_stop hn]
    exact ⟨rfl, rfl, rfl⟩

/-- Settles O8: the count unit and the marks by their own lemmas, and each test of belt travel by what it asks. -/
theorem beltEdgesCountAndFireMarks : Obligations.BeltEdgesCountAndFireMarks := by
  refine ⟨fun s hr => ⟨⟨s.forwardEdge, ?_, s.cu_forwardEdge⟩, fun hd => ⟨s.edged.testMarks, ?_, s.edged_testMarks_spec⟩⟩,
    fun s hr => ⟨⟨s.reverseEdge, ?_, s.cu_reverseEdge⟩, fun hd => ?_⟩, fun s hr => ?_,
    fun s hr hd => ⟨s.forwardEdge, ?_, ?_⟩, fun s pins e high hr => ⟨⟨s.doTick pins, ?_, rfl⟩,
      ⟨s.reverseEdge, ?_, ?_⟩, ⟨s.doEyeRawChange e high, exec_eyeRawChange_of_runs hr e high, ?_⟩⟩,
    fun s e hr hf => ?_⟩
  · rw [exec_forwardEdge_eq, live_of_runs hr]
  · rw [exec_forwardEdge_eq, live_of_runs hr, State.forwardEdge_of_nothingDue hd]
  · rw [exec_reverseEdge_eq, live_of_runs hr]
  · rw [exec_reverseEdge_eq, live_of_runs hr, State.reverseEdge_eq, show s.takeDue = s from hd]
    rfl
  · rw [exec_doubleStep_eq, live_of_runs hr]
    rfl
  · rw [exec_forwardEdge_eq, live_of_runs hr]
  · rw [s.found_forwardEdge hd]
    refine ⟨fun e i rest r ha hi => ?_, fun e => ?_, fun e => ?_, fun i => ?_, fun i => ?_, fun i => ?_, fun n => ?_⟩
    · rw [State.missed_mem_beltTests, State.missed_first_mem (s.countEdge s.cu.forward 1) ha hi]
      exact State.latePast_iff _ _ _
    · rw [State.jam_mem_beltTests]
      exact State.jamPast_iff _ _
    · rw [State.stuck_mem_beltTests]
      exact State.stuckPast_iff _ _
    · rw [State.vanish_mem_beltTests]
      simp only [State.vanishPast_iff]
      exact ⟨fun ⟨r, hm, ⟨hl, hp, ht⟩, hi⟩ => ⟨hl, r, hm, hi, hp, ht⟩,
        fun ⟨hl, r, hm, hi, hp, ht⟩ => ⟨r, hm, ⟨hl, hp, ht⟩, hi⟩⟩
    · rw [State.whereSent_mem_beltTests]
      simp only [State.wherePast_iff]
      exact exists_congr fun r => and_congr_right' and_comm
    · rw [State.transfer_mem_beltTests]
      simp only [State.transferPast_iff]
      exact exists_congr fun r => and_congr_right' and_comm
    · rw [State.arrival_mem_beltTests]
      simp only [Option.isSome_iff_exists, State.arrivalPast_eq_some]
      exact ⟨fun ⟨x, hx, hl, hn, ht⟩ => ⟨hl, x, hx, hn, ht⟩, fun ⟨hl, x, hx, hn, ht⟩ => ⟨x, hx, hl, hn, ht⟩⟩
  · rw [exec_tick_eq, live_of_runs hr]
  · rw [exec_reverseEdge_eq, live_of_runs hr]
  · rw [State.reverseEdge_eq, State.settleEdge_found]
    exact s.found_takeDue
  · exact (State.found_setChan _ _ _).trans s.found_takeDue
  · rw [exec_checkMissed_eq, exec_eyeJam_eq, exec_eyeStuck_eq, exec_recordVanish_eq, exec_whereSent_eq,
      exec_transferAllowanceExpiry_eq, exec_slotArrivalExpiry_eq]
    exact ⟨live_self (s.doCheckMissed_of_none hf e), live_self (s.doEyeJam_of_none hf e),
      live_self (s.doEyeStuck_of_none hf e), live_self (s.doRecordVanish_of_none hf), live_self (s.doWhereSent_of_none hf),
      live_self (s.doTransferExpiry_of_none hf), live_self (s.doSlotArrivalExpiry_of_none hf)⟩

end Sys2Proof.Machine

/-! Time, the gate, the stop chain and the release of RESET: O10, O33, O51, O4. -/

namespace Sys2Proof.Machine

section Tick
variable (s : State) (pins : PinSample)

/-- A tick samples and counts for each fitted channel alone. -/
theorem State.chan_countTick (e : Eye) : (s.countTick pins).chan e
    = if s.fitted e then (s.chan e).tick (s.boot.mode == .scanning) (s.dr.belt == .park) else s.chan e := by
  cases e <;> rfl

theorem KeySt.sample_eq (k : KeySt) (low : Bool) :
    let run := if 0 < k.run ∧ k.cand = low then min (k.run + 1) 3 else 1
    k.sample low = ⟨if k.pressed = none ∧ run = 3 then some low else k.pressed, low, run⟩ := by
  obtain ⟨pressed, cand, run⟩ := k
  cases pressed <;> simp [KeySt.sample, Config.sampleRun]

theorem PinSample.position_eq (i : Nat) : PinSample.position pins i = !pins.matrix.getLsbD i := by
  have h : 4 * (i / 4) + i % 4 = i := by omega
  simp only [PinSample.position, PinSample.krPin, h]

end Tick

/-- Settles O10: with nothing due the tick is its block by block count, and a key's sample is the rule of R124. -/
theorem tickAdvancesTime : Obligations.TickAdvancesTime := by
  intro s pins hr hd run key
  have hkey (k : KeySt) (low : Bool) : k.sample low = key k low := k.sample_eq low
  refine ⟨s.countTick pins, ?_, rfl, rfl, rfl, rfl, rfl, rfl, rfl, fun e hf => ?_, fun e hf => ?_, ?_, rfl, rfl, rfl,
    rfl, rfl, rfl, rfl, rfl, rfl⟩
  · rw [exec_tick_eq, live_of_runs hr]
    exact congrArg (fun u : State => Host.Outcome.next (u.countTick pins)) hd
  · rw [State.chan_countTick, hf, if_neg Bool.false_ne_true]
  · rw [State.chan_countTick, hf, if_pos rfl]
    simp only [EyeChan.tick, beq_iff_eq]
  · simp only [State.countTick, Bay.tick, hkey, PinSample.position_eq]
    rfl

section Gate
variable {s : State}

theorem exec_gateSettle_eq (s : State) : exec .gateSettle s = live s s.doGateSettle := rfl

theorem DownPort.gatePos_eq (p : DownPort) : DownPort.gatePos p = if p = .d0 then .straight else .branch := by
  cases p <;> rfl

/-- The three outcomes of the gate law with the gate at rest (R116, R117). -/
theorem State.gate_gateStep {rt : Route} (hr : s.hasRole .divert = true) (hm : s.gate.pos ≠ .moving)
    (hc : s.claimantRoute = some rt) : s.gateStep.gate =
      if s.gate.setFor rt.port then { s.gate with held := none }
      else if s.gateHeldByLaw then { s.gate with held := some rt.port }
      else { s.gate with pos := .moving, commanded := rt.port, held := none, settle := some s.boot.prof.gateSettle } := by
  unfold State.gateStep
  rw [if_pos hr, hc]
  dsimp only
  rw [if_neg hm]
  split
  · rfl
  · split <;> rfl

theorem State.gateHeldByLaw_of_reached (h : ∃ r ∈ s.track, r.handed = true ∨ s.gateOffset ≤ travel r.front s.cu.count) :
    s.gateHeldByLaw = true := by
  obtain ⟨r, hr, h⟩ := h
  simp only [State.gateHeldByLaw, List.any_eq_true, Bool.or_eq_true, State.atGate, decide_eq_true_eq]
  exact ⟨r, hr, h.elim (fun a => .inl (.inl a)) .inr⟩

theorem State.gateHeldByLaw_of_short (h : ∀ r ∈ s.track, r.handed = false ∧ travel r.front s.cu.count < s.gateOffset) :
    s.gateHeldByLaw = false := by
  simp only [State.gateHeldByLaw, List.any_eq_false]
  intro r hr
  obtain ⟨hh, ht⟩ := h r hr
  have hg : s.atGate r = false := decide_eq_false (Nat.not_le.2 ht)
  simp [State.inGate, hh, hg]

end Gate

/-- Settles O33: the settle expiry as its row says, and the gate law by its three outcomes. -/
theorem gateMovesByItsLaw : Obligations.GateMovesByItsLaw := by
  refine ⟨fun s hr hm he => ?_, fun s rt hr hm hc => ⟨fun hs => ?_, fun hs => ⟨fun h => ?_, fun h => ?_⟩⟩⟩
  · rw [exec_gateSettle_eq, live_of_runs hr, State.doGateSettle, if_pos ⟨hm, he ▸ expired_some_zero⟩,
      DownPort.gatePos_eq]
  · rw [State.gate_gateStep hr hm hc, if_pos hs]
  · rw [State.gate_gateStep hr hm hc, if_neg (by simp [hs]), if_pos (State.gateHeldByLaw_of_reached h)]
  · rw [State.gate_gateStep hr hm hc, if_neg (by simp [hs]), if_neg (by simp [State.gateHeldByLaw_of_short h])]

/-- What the end of a condition leaves of the causes: its own mark is down, and PENDING-ACK becomes ABSENT (R176). -/
theorem State.cause_conditionEnd (s : State) (c k : Cause) : (s.conditionEnd c).cause k =
    if k = c then { s.cause c with
      present := false, st := if (s.cause c).st = .pendingAck then .absent else (s.cause c).st }
    else s.cause k := by
  unfold State.conditionEnd
  dsimp only
  have hself : (s.setCause c { s.cause c with present := false }).cause c = { s.cause c with present := false } :=
    s.cause_setCause_self c _
  by_cases hp : (s.cause c).st = .pendingAck
  · rw [if_pos hp, State.cause_absentAll_singleton (by rw [hself]; simp [hp]), hself]
    by_cases hk : k = c <;> simp [hk, hp]
  · rw [if_neg hp, State.cause_setCause]
    by_cases hk : k = c <;> simp [hk, hp]

section Estop

theorem exec_estopOpen_eq (s : State) : exec .estopOpen s = live s s.doEstopOpen := rfl
theorem exec_estopClose_eq (s : State) : exec .estopClose s = live s s.doEstopClose := rfl




end Estop

/-- Settles O51: the raise and the end of the condition, which the derived actions keep. -/
theorem stopChainOpensAndCloses : Obligations.StopChainOpensAndCloses := by
  have hd : derivedCause .estop = false := rfl
  refine ⟨fun s hr hh hp => ?_, fun s hr hh hp => ?_⟩
  · have he : s.doEstopOpen = (s.raiseStanding .estop 0).settle := if_pos ⟨hh, hp⟩
    have hcause : s.doEstopOpen.cause .estop = _ :=
      (congrArg (fun t : State => t.cause .estop) he).trans (State.cause_settle _ hd)
    rw [State.cause_raiseStanding, if_pos rfl] at hcause
    refine ⟨s.doEstopOpen, by rw [exec_estopOpen_eq, live_of_runs hr], by rw [hcause], by rw [hcause], by rw [hcause]; rfl,
      ?_, ?_⟩
    · rw [he, State.settle_cu]
      exact s.get_raiseStanding (b := .cu) _ _ (by decide) (by decide)
    · rw [he, State.track_settle]
      exact congrArg (List.map Rec.kept) (s.get_raiseStanding (b := .track) _ _ (by decide) (by decide))
  · have he : s.doEstopClose = (s.conditionEnd .estop).settle := if_pos ⟨hh, hp⟩
    have hcause : s.doEstopClose.cause .estop = _ :=
      (congrArg (fun t : State => t.cause .estop) he).trans (State.cause_settle _ hd)
    rw [State.cause_conditionEnd, if_pos rfl] at hcause
    refine ⟨s.doEstopClose, by rw [exec_estopClose_eq, live_of_runs hr], by rw [hcause], by rw [hcause], ?_, ?_⟩
    · rw [he, State.settle_cu]
      exact s.get_conditionEnd (b := .cu) _ (by decide) (by decide) (by decide) (by decide)
    · rw [he, State.track_settle]
      exact congrArg (List.map Rec.kept) (s.get_conditionEnd (b := .track) _ (by decide) (by decide)
          (by decide) (by decide))

/-- What RESET_RELEASE writes before E-STOP is tested (R2, R70, R170). -/
def State.released (s : State) (ena enb estop : Bool) : State :=
  { s with
    boot := { s.boot with resetHeld := false }
    cu := { s.cu with ena := ena, enb := enb }
    dr := { s.dr with winLeft := some Config.windowTicks }
    line := { s.line with tick := 0 }
    att := { s.att with estopHigh := estop, estopRun := 0 } }

theorem exec_resetRelease_of_held {s : State} (ena enb estop : Bool) (h : s.boot.resetHeld = true) :
    exec (.resetRelease ena enb estop) s = .next (State.settle (if estop then s.released ena enb estop
      else (s.released ena enb estop).raiseStanding .estop 0)) :=
  congrArg Host.Outcome.next (if_pos h)

/-- Settles O4: the values of the release, and E-STOP raised on an open chain. -/
theorem resetReleaseStarts : Obligations.ResetReleaseStarts := by
  intro s ena enb estop hh
  refine ⟨_, exec_resetRelease_of_held ena enb estop hh, ?_⟩
  cases estop with
  | true => exact ⟨rfl, rfl, rfl, rfl, nofun, fun _ => ⟨rfl, rfl⟩, rfl, rfl, rfl, rfl, rfl, rfl⟩
  | false =>
    have key {b : Block} (h : b ≠ .att) (h' : b ≠ .line) :
        ((s.released ena enb false).raiseStanding .estop 0).get b = (s.released ena enb false).get b :=
      State.get_raiseStanding _ _ _ h h'
    have hkeep : LineKeeps (s.released ena enb false) ((s.released ena enb false).raiseStanding .estop 0) :=
      (State.setCause_keeps _ _ _).trans (State.raise_keeps _ _ _)
    refine ⟨key (b := .boot) (by decide) (by decide), key (b := .cu) (by decide) (by decide),
        key (b := .dr) (by decide) (by decide), hkeep.tick,
      fun _ => ?_, nofun, key (b := .eyes) (by decide) (by decide), key (b := .track) (by decide) (by decide),
          key (b := .ex) (by decide) (by decide),
      key (b := .en) (by decide) (by decide), key (b := .gate) (by decide) (by decide), key (b := .bay)
          (by decide) (by decide)⟩
    rw [if_neg Bool.false_ne_true, State.cause_raiseStanding, if_pos rfl]
    exact ⟨rfl, rfl⟩

end Sys2Proof.Machine

/-! What is known of the neighbours (R168, R171): no operation but a frame's own writes it. One relation between the
state before and after an operation, for everything a received frame can do, and with it O41. -/

namespace Sys2Proof.Machine

/-- An operation from s to t leaves the loader, the current tick and the neighbour records. -/
structure Grounded (s t : State) : Prop where
  boot : t.boot = s.boot
  tick : t.line.tick = s.line.tick
  neigh : ∀ p, t.neigh p = s.neigh p

section
variable {s t u : State}

theorem Grounded.refl (s : State) : Grounded s s := ⟨rfl, rfl, fun _ => rfl⟩

theorem Grounded.trans (h : Grounded s t) (k : Grounded t u) : Grounded s u :=
  ⟨k.boot.trans h.boot, k.tick.trans h.tick, fun p => (k.neigh p).trans (h.neigh p)⟩

theorem Grounded.ite {c : Prop} [Decidable c] (h : c → Grounded s t) (k : ¬ c → Grounded s u) :
    Grounded s (if c then t else u) := by
  split
  · exact h ‹_›
  · exact k ‹_›

/-- A change that is made or not. -/
theorem Grounded.when {c : Prop} [Decidable c] (h : c → Grounded s t) : Grounded s (if c then t else s) :=
  .ite h fun _ => .refl s

theorem Grounded.foldl {α : Type} {f : State → α → State} (hf : ∀ t x, Grounded t (f t x)) (l : List α) :
    ∀ s, Grounded s (l.foldl f s) := by
  induction l with
  | nil => exact .refl
  | cons x l ih => exact fun s => (hf s x).trans (ih _)

/-- A change beside the loader and the line. -/
theorem Grounded.aside (hb : t.boot = s.boot) (hl : t.line = s.line) : Grounded s t := by
  refine ⟨hb, by rw [hl], fun p => ?_⟩
  cases p <;> simp only [State.neigh, hl]

/-- A change that touches of the line the queue and the register alone. -/
theorem Grounded.of_keeps (hb : t.boot = s.boot) (h : LineKeeps s t) : Grounded s t := ⟨hb, h.tick, h.neigh⟩

/-- What a derived action may write. -/
theorem Grounded.of_kept (h : t.kept = s.kept) : Grounded s t :=
  ⟨State.kept_boot_eq _ _ h, State.kept_tick_eq _ _ h, State.kept_neigh_eq _ _ h⟩

end

section
variable (s : State)

/-! ### Causes and records -/

theorem State.updRec_grounded (i : Nat) (f : Rec → Rec) : Grounded s (s.updRec i f) := .aside rfl rfl

theorem State.updChan_grounded (e : Eye) (f : EyeChan → EyeChan) : Grounded s (s.updChan e f) :=
  .aside (State.boot_updChan _ _ _) (State.line_updChan _ _ _)

theorem State.setSlot_grounded (n : SlotName) (x : Option Slot) : Grounded s (s.setSlot n x) := .of_kept (by simp)

theorem State.setNoted_grounded (p : UpPort) (x : Option Noted) : Grounded s (s.setNoted p x) := .of_kept (by simp)

theorem State.setReply_grounded (p : UpPort) (m : ReplyMark) : Grounded s (s.setReply p m) :=
  .aside (State.boot_setReply _ _ _) (State.line_setReply _ _ _)

theorem State.sendPrompt_grounded (d : Station) (p : Payload) : Grounded s (s.sendPrompt d p) := .of_kept (by simp)

theorem State.raise_grounded (c : Cause) (d : Nat) : Grounded s (s.raise c d) :=
  .of_keeps (s.get_raise (b := .boot) _ _ (by decide) (by decide)) (s.raise_keeps _ _)

theorem State.queueStatus_grounded : Grounded s s.queueStatus := .of_kept (by simp)

theorem State.recomputeLevel_grounded : Grounded s s.recomputeLevel := .of_kept (by simp)

theorem State.changeCause_grounded (c : Cause) (e : CauseEntry) : Grounded s (s.changeCause c e) := .aside rfl rfl

theorem State.absentOne_grounded (c : Cause) : Grounded s (s.absentOne c) := by
  unfold State.absentOne
  refine .ite (fun _ => .refl s) fun _ => (s.changeCause_grounded c { s.cause c with st := .absent }).trans ?_
  generalize s.changeCause c { s.cause c with st := .absent } = t
  cases c <;> first
    | exact .aside rfl rfl
    | exact .when fun _ => .aside rfl rfl

theorem State.absentAll_grounded (cs : List Cause) : Grounded s (s.absentAll cs) :=
  (Grounded.foldl State.absentOne_grounded cs s).trans (State.recomputeLevel_grounded _)

theorem State.conditionEnd_grounded (c : Cause) : Grounded s (s.conditionEnd c) := by
  unfold State.conditionEnd
  have e : Grounded s (s.setCause c { s.cause c with present := false }) := .aside rfl rfl
  exact .ite (fun _ => e.trans (State.absentAll_grounded _ _)) fun _ => e

theorem State.ackTop_grounded : Grounded s s.ackTop := by
  unfold State.ackTop
  split
  · exact .refl s
  · exact .ite (fun _ => s.changeCause_grounded _ _) fun _ => s.absentAll_grounded _

theorem State.clearAll_grounded : Grounded s s.clearAll := s.absentAll_grounded _

theorem State.resolve_grounded (c : RackClass) : Grounded s (s.resolve c).1 := by
  unfold State.resolve
  split
  · exact .refl s
  · exact .aside rfl rfl
  · exact s.raise_grounded _ _

theorem State.steeredAdd_grounded (p : DownPort) (n : RackNo) (x : Station) : Grounded s (s.steeredAdd p n x) :=
  .of_kept (by simp)

theorem State.flagRec_grounded (i : Nat) (f : Flags) : Grounded s (s.flagRec i f) := s.updRec_grounded _ _

theorem State.rehead_grounded : Grounded s s.rehead := .of_kept (by simp)

theorem State.wantStep_grounded : Grounded s s.wantStep := .of_kept (by simp)

theorem State.bayFollows_grounded : Grounded s s.bayFollows := .of_kept (by simp)

theorem State.wake_grounded : Grounded s s.wake := .of_kept (by simp)

/-! ### Landings -/

theorem State.sendLanded_grounded (p : UpPort) (n : Serial) (k : RackNo) (st : LandStatus)
    (y : Option (RackNo × Station)) : Grounded s (s.sendLanded p n k st y) := by
  unfold State.sendLanded
  extract_lets log t u
  have hu : Grounded s u :=
    (Grounded.aside (State.boot_setLandLog _ _ _) (State.line_setLandLog _ _ _)).trans (t.sendPrompt_grounded _ _)
  split
  · exact hu
  · exact hu.trans (u.sendPrompt_grounded _ _)

theorem State.endLanding_grounded (i : Nat) (st : LandStatus) (x : Option RackNo) :
    Grounded s (s.endLanding i st x) := by
  unfold State.endLanding
  split
  · exact (s.setSlot_grounded _ _).trans (State.sendLanded_grounded _ _ _ _ _ _)
  · exact .refl s

theorem State.abandonLanding_grounded (i : Nat) : Grounded s (s.abandonLanding i) := by
  unfold State.abandonLanding
  split
  · exact .refl s
  · exact (s.setSlot_grounded _ _).trans (State.sendLanded_grounded _ _ _ _ _ _)

theorem State.setNumber_grounded (i : Nat) (n : RackNo) : Grounded s (s.setNumber i n) := by
  unfold State.setNumber
  exact .ite (fun _ => (s.updRec_grounded _ _).trans <| (State.flagRec_grounded _ _ _).trans (State.raise_grounded _ _ _))
    fun _ => s.updRec_grounded _ _

theorem State.hopTest_grounded (i : Nat) : Grounded s (s.hopTest i) := by
  unfold State.hopTest
  split
  · exact .refl s
  · exact .when fun _ => s.raise_grounded _ _

theorem State.skipTo_grounded (i : Nat) (o : SlotName) (x : Slot) (w : SlotName) (y : Slot) (n : RackNo) :
    Grounded s (s.skipTo i o x w y n) := by
  unfold State.skipTo
  extract_lets s₁ s₂ s₃ s₄ s₅ s₆ s₇ s₈
  have e₁ : Grounded s s₁ := s.setSlot_grounded _ _
  have e₂ : Grounded s₁ s₂ := s₁.sendLanded_grounded _ _ _ _ _
  have e₃ : Grounded s₂ s₃ := s₂.raise_grounded _ _
  have e₄ : Grounded s₃ s₄ := s₃.setSlot_grounded _ _
  have e₅ : Grounded s₄ s₅ := s₄.updRec_grounded _ _
  have e₆ : Grounded s₅ s₆ := s₅.wantStep_grounded
  have e₇ : Grounded s₆ s₇ := s₆.setNumber_grounded _ _
  have e₈ : Grounded s₇ s₈ := s₇.hopTest_grounded _
  exact (e₁.trans <| e₂.trans <| e₃.trans <| e₄.trans <| e₅.trans <| e₆.trans <| e₇.trans e₈).trans
    (s₈.endLanding_grounded _ _ _)

theorem State.tagResult_grounded (i : Nat) (x : Option RackNo) : Grounded s (s.tagResult i x) := by
  unfold State.tagResult
  split
  · exact .refl s
  · split
    · exact .refl s
    · exact s.setNumber_grounded _ _
    · exact s.endLanding_grounded _ _ _
    · refine .ite (fun _ => s.endLanding_grounded _ _ _) fun _ => .ite (fun _ => ?_) fun _ => ?_
      · exact (s.setNumber_grounded _ _).trans (State.endLanding_grounded _ _ _ _)
      · split
        · exact s.skipTo_grounded _ _ _ _ _ _
        · exact (s.setNumber_grounded _ _).trans <| (State.flagRec_grounded _ _ _).trans <|
            (State.raise_grounded _ _ _).trans (State.endLanding_grounded _ _ _ _)

theorem State.readDue_grounded (i : Nat) : Grounded s (s.readDue i) := by
  unfold State.readDue
  exact .when fun _ => .ite (fun _ => .aside rfl rfl) fun _ => s.tagResult_grounded _ _

/-! ### Removals and releases -/

theorem State.sendWithdraw_grounded (r : Rec) : Grounded s (s.sendWithdraw r) := .of_kept (by simp)

theorem State.removeRec_grounded (r : Rec) : Grounded s (s.removeRec r) := by
  unfold State.removeRec
  extract_lets w s₁ s₂ s₃ c₁ s₄ c₂ s₅ c₃ s₆ s₇
  have e₁ : Grounded s s₁ := .when fun _ => s.sendWithdraw_grounded r
  have e₂ : Grounded s₁ s₂ := .aside rfl rfl
  have e₃ : Grounded s₂ s₃ := .aside rfl rfl
  have e₄ : Grounded s₃ s₄ := .when fun _ => .aside rfl rfl
  have e₅ : Grounded s₄ s₅ := .when fun _ => .aside rfl rfl
  have e₆ : Grounded s₅ s₆ := .when fun _ => .aside rfl rfl
  have e₇ : Grounded s₆ s₇ := s₆.abandonLanding_grounded _
  exact ((((((e₁.trans e₂).trans e₃).trans e₄).trans e₅).trans e₆).trans e₇).trans
    (s₇.bayFollows_grounded.trans (State.rehead_grounded _))

theorem State.pushLost_grounded (x : LostEntry) : Grounded s (s.pushLost x) := by
  unfold State.pushLost
  exact .ite (fun _ => .aside rfl rfl) fun _ => .aside rfl rfl

theorem State.raiseLost_grounded (r : Rec) (b : Bool) : Grounded s (s.raiseLost r b) := by
  cases b with
  | true => exact s.raise_grounded _ _
  | false =>
    have e : Grounded s { s with ex := { s.ex with plainLoss := true } } := .aside rfl rfl
    exact e.trans (State.raise_grounded _ _ _)

theorem State.toLost_grounded (r : Rec) : Grounded s (s.toLost r) := by
  unfold State.toLost
  split
  · exact (s.pushLost_grounded _).trans (State.raiseLost_grounded _ _ _)
  · exact s.raiseLost_grounded _ _

theorem State.giveUp_grounded (r : Rec) : Grounded s (s.giveUp r) :=
  (s.removeRec_grounded r).trans (State.toLost_grounded _ _)

theorem State.release_grounded (r : Rec) (f : Rec → Rec) : Grounded s (s.release r f) := by
  unfold State.release
  extract_lets s₁ s₂ x s₃
  have e₁ : Grounded s s₁ := s.updRec_grounded _ _
  have e₂ : Grounded s₁ s₂ := .when fun _ => .aside rfl rfl
  have e₃ : Grounded s₂ s₃ := .aside rfl rfl
  have e₄ : Grounded s₃ s₃.callLampStep := .aside rfl rfl
  exact ((e₁.trans e₂).trans e₃).trans (e₄.trans (State.rehead_grounded _))

/-! ### FLUSH and the start-up scan -/

theorem State.strayAt_grounded (e : Eye) : Grounded s (s.strayAt e) := s.raise_grounded _ _

theorem State.startRoute_grounded (r : Rec) : Grounded s (s.startRoute r) := by
  unfold State.startRoute
  exact .when fun _ => .ite (fun _ => .aside rfl rfl) fun _ => (s.resolve_grounded _).trans (.aside rfl rfl)

theorem State.joinAwaited_grounded (i : Nat) (f : Eye → Bool) : Grounded s (s.joinAwaited i f) :=
  .foldl (fun t e => .when fun _ => t.updChan_grounded _ _) _ _

theorem State.createStart_grounded (o : Nat) (a b : Bool) : Grounded s (s.createStart o a b) := by
  have e : Grounded s (s.appendRec (s.startRec o a b)) := .aside rfl rfl
  exact e.trans (State.joinAwaited_grounded _ _ _)

theorem State.scanAt_grounded (a : ScanAt) (o : Nat) : Grounded a.s (State.scanAt a o).s := by
  unfold State.scanAt
  split
  · exact .refl _
  · split
    · exact .refl _
    · split
      · exact .refl _
      · exact a.s.createStart_grounded _ _ _

theorem State.foldl_scanAt_grounded (l : List Nat) : ∀ a : ScanAt, Grounded a.s (l.foldl State.scanAt a).s := by
  induction l with
  | nil => exact fun a => .refl _
  | cons o l ih => exact fun a => (State.scanAt_grounded a o).trans (ih _)

theorem State.startRead_grounded : Grounded s s.startRead := by
  unfold State.startRead
  split
  · exact s.readDue_grounded _
  · exact .refl s

theorem State.scan_grounded : Grounded s s.scan := by
  unfold State.scan
  extract_lets a t
  have e₁ : Grounded s a.s := State.foldl_scanAt_grounded _ { s := s }
  have e₂ : Grounded a.s t := .foldl (fun u r => u.startRoute_grounded r) _ _
  exact ((e₁.trans e₂).trans (t.rehead_grounded.trans (State.startRead_grounded _))).trans
    (.foldl (fun u e => u.strayAt_grounded e) _ _)

theorem State.flushDrive_grounded : Grounded s s.flushDrive := by
  unfold State.flushDrive
  extract_lets w d t
  have e : Grounded s t := .aside rfl rfl
  exact .ite (fun _ => e) fun _ => e.trans t.queueStatus_grounded

theorem State.flushAll_grounded : Grounded s s.flushAll := by
  unfold State.flushAll
  have e₁ : Grounded s s.flushExit.flushEntry.flushEyes.flushTag.flushTrack := .aside rfl rfl
  have e₂ (t : State) : Grounded t t.flushBay.flushIdle := .aside rfl rfl
  exact e₁.trans <| (State.flushDrive_grounded _).trans <| (e₂ _).trans (State.scan_grounded _)

/-! ### Frames -/

theorem State.onAsk_grounded (x : Station) : Grounded s (s.onAsk x) := by
  unfold State.onAsk
  exact .ite (fun _ => .refl s) fun _ => s.sendPrompt_grounded _ _

theorem State.onTake_grounded (x : Station) (n : Serial) : Grounded s (s.onTake x n) := by
  unfold State.onTake
  split
  · exact s.release_grounded _ _
  · exact .refl s

theorem State.onAnswer_grounded (x : Station) (n : Serial) : Grounded s (s.onAnswer x n) := by
  unfold State.onAnswer
  split
  · exact .aside rfl rfl
  · exact .refl s

theorem State.answerLanded_grounded (x : Station) (d : DownPort) (r : Rec) (n : RackNo) (a : LandAnswer) :
    Grounded s (s.answerLanded x d r n a) := by
  unfold State.answerLanded
  extract_lets b t u
  have e₁ : Grounded s t := s.updRec_grounded _ _
  have e₂ : Grounded t u := .when fun _ => t.steeredAdd_grounded _ _ _
  exact (e₁.trans e₂).trans (.when fun _ => u.removeRec_grounded _)

theorem State.lateLanding_grounded (x : LostEntry) : Grounded s (s.lateLanding x) := by
  unfold State.lateLanding
  extract_lets src t e u
  have e₁ : Grounded s t := .aside rfl rfl
  have e₂ : Grounded t u := .aside rfl rfl
  exact e₁.trans (.ite (fun _ => .refl t) fun _ => e₂.trans (.when fun _ => u.absentAll_grounded _))

theorem State.onLanded_grounded (x : Station) (n : Serial) (k : RackNo) (a : LandAnswer) :
    Grounded s (s.onLanded x n k a) := by
  unfold State.onLanded
  split
  · exact .refl s
  · split
    · exact s.answerLanded_grounded _ _ _ _ _
    · split
      · exact s.lateLanding_grounded _
      · exact .refl s

theorem State.passOn_grounded : Grounded s s.passOn := by
  unfold State.passOn
  split
  · exact .refl s
  · exact (s.updRec_grounded _ _).trans (State.updChan_grounded _ _ _)

theorem State.onSkipped_grounded (x : Station) (n : Serial) : Grounded s (s.onSkipped x n) := by
  unfold State.onSkipped
  split
  · exact .refl s
  · split
    · exact .refl s
    · exact (s.giveUp_grounded _).trans (.when fun _ => State.passOn_grounded _)

theorem State.noteOffer_grounded (p : UpPort) (n : Serial) (i : Image) (rt : Option Route) :
    Grounded s (s.noteOffer p n i rt) := (s.setNoted_grounded _ _).trans (State.sendPrompt_grounded _ _ _)

theorem State.takeOffer_grounded (p : UpPort) (n : Serial) (i : Image) (rt : Option Route) :
    Grounded s (s.takeOffer p n i rt) := .of_kept (by simp)

theorem State.offerRoute_grounded (o : Option Noted) (i : Image) : Grounded s (s.offerRoute o i).1 := by
  unfold State.offerRoute
  split
  · split
    · exact .refl s
    · exact s.resolve_grounded _
  · exact .refl s

theorem State.answerOffer_grounded (p : UpPort) (n : Serial) (i : Image) : Grounded s (s.answerOffer p n i) := by
  have refuse : Grounded s (State.sendPrompt (s.setNoted p none) (s.upStation p) (.refuse n .restricted)) :=
    (s.setNoted_grounded _ _).trans (State.sendPrompt_grounded _ _ _)
  unfold State.answerOffer
  split
  · exact (s.setSlot_grounded _ _).trans (State.sendPrompt_grounded _ _ _)
  · dsimp only
    split
    · exact .ite (fun _ => s.noteOffer_grounded _ _ _ _) fun _ => .ite (fun _ => refuse)
        fun _ => s.takeOffer_grounded _ _ _ _
    · refine .ite (fun _ => refuse) fun _ => (s.offerRoute_grounded none i).trans ?_
      exact .ite (fun _ => State.takeOffer_grounded _ _ _ _ _) fun _ => State.noteOffer_grounded _ _ _ _ _

theorem State.onOffer_grounded (x : Station) (n : Serial) (i : Image) : Grounded s (s.onOffer x n i) := by
  unfold State.onOffer
  split
  · exact .refl s
  · exact .refl s
  · exact s.sendPrompt_grounded _ _
  · split
    · exact s.sendPrompt_grounded _ _
    · exact s.answerOffer_grounded _ _ _

theorem State.onWithdraw_grounded (x : Station) (n : Serial) : Grounded s (s.onWithdraw x n) := by
  unfold State.onWithdraw
  split
  · exact .refl s
  · extract_lets t
    have e : Grounded s t := .when fun _ => s.setNoted_grounded _ _
    exact e.trans (.aside rfl rfl)

theorem State.onWhere_grounded (x : Station) (n : Serial) : Grounded s (s.onWhere x n) := by
  unfold State.onWhere
  split
  · exact .refl s
  · refine .when fun _ => ?_
    split
    · exact s.sendPrompt_grounded _ _
    · split
      · exact .when fun _ => s.sendPrompt_grounded _ _
      · exact s.sendPrompt_grounded _ _

theorem State.setSpan_grounded (p : DownPort) (w : SpanWord) : Grounded s (s.setSpan p w) := .of_kept (by simp)

theorem State.onStall_grounded (x : Station) : Grounded s (s.onStall x) := by
  unfold State.onStall
  split
  · exact .when fun _ => s.setSpan_grounded _ _
  · exact .refl s

theorem State.onDozeAsk_grounded (x : Station) : Grounded s (s.onDozeAsk x) := by
  unfold State.onDozeAsk
  split
  · exact .refl s
  · exact .when fun _ => s.sendPrompt_grounded _ _

theorem State.enterPark_grounded : Grounded s s.enterPark := by
  unfold State.enterPark
  extract_lets src src' t u
  have e : Grounded s t := .aside rfl rfl
  have e' : Grounded s u := e.trans t.queueStatus_grounded
  exact e'.trans (.when fun _ => u.wake_grounded)

theorem State.onDozeAllow_grounded (x : Station) : Grounded s (s.onDozeAllow x) := by
  unfold State.onDozeAllow
  split
  · exact .refl s
  · refine .when fun _ => ?_
    extract_lets t
    have e : Grounded s t := s.setReply_grounded _ _
    exact .ite (fun _ => e.trans t.enterPark_grounded) fun _ => e

theorem State.onDozeDeny_grounded (x : Station) : Grounded s (s.onDozeDeny x) := by
  unfold State.onDozeDeny
  split
  · exact .refl s
  · exact .when fun _ => (s.setReply_grounded _ _).trans (.aside rfl rfl)

theorem State.onWant_grounded (x : Station) (n : Fin 16) : Grounded s (s.onWant x n) := by
  unfold State.onWant
  exact .when fun _ => .aside rfl rfl

theorem State.rackInSteered_grounded (x : Station) (n : RackNo) : Grounded s (s.rackInSteered x n) := by
  have drop {b : DownPort} {f : Steered → Bool} {t : State} (h : s.dropSteered b f = some t) : Grounded s t := by
    obtain ⟨l, -, rfl⟩ := Option.map_eq_some_iff.1 h
    exact .of_kept (State.kept_setSteered _ _ _)
  unfold State.rackInSteered
  extract_lets b first numbered
  have hn : ∀ t, numbered = some t → Grounded s t := by
    intro t h
    simp only [numbered] at h
    split at h
    · exact absurd h.symm (Option.some_ne_none _)
    · split at h
      · rename_i hd
        exact drop (hd.trans h)
      · exact drop h
  clear_value numbered b
  cases numbered with
  | some t => exact hn t rfl
  | none =>
    cases b with
    | none => exact .refl s
    | some d =>
      dsimp only
      cases hd : s.dropSteered d (fun x => x.number == notag) with
      | none => exact .refl s
      | some t => exact drop hd

theorem State.onRackIn_grounded (x : Station) (n : RackNo) (st : Station) : Grounded s (s.onRackIn x n st) := by
  unfold State.onRackIn
  exact .when fun _ => s.rackInSteered_grounded _ _

end

end Sys2Proof.Machine

/-! Received frames: O41, O42 and O25. -/

namespace Sys2Proof.Machine

/-! ### Frames as commands -/

/-- A command that is a received frame is that frame at the receive filter. -/
theorem exec_of_frame {c : Instr} {f : RxFrame} (h : Frame.ofInstr c = some f) (s : State) :
    exec c s = live s (s.receive f.hdr f.payload) := by
  cases c <;> first
    | exact Option.some.inj h ▸ rfl
    | exact absurd h.symm (Option.some_ne_none _)

theorem State.hears_of_passes {s : State} {h : Hdr} (hr : s.Runs) (hp : (s.receives && s.fromOk h.src) = true) :
    s.Hears h := by
  simp only [State.receives, State.fromOk, Bool.and_eq_true, bne_iff_ne, ne_eq] at hp
  obtain ⟨⟨⟨hm, hn⟩, hreg⟩, hs, hne⟩ := hp
  refine ⟨hr, hm, ?_, hs, fun r hl => ?_⟩
  · cases hst : s.boot.station with
    | none => rw [hst] at hn; exact absurd hn Bool.false_ne_true
    | some n =>
      rw [hst] at hn hne
      exact ⟨n, rfl, by simpa using hn, fun e => hne (congrArg some e.symm)⟩
  · rw [hl] at hreg
    simpa using hreg

/-- A frame that is not heard changes nothing (R162, R168, R169). -/
theorem State.receive_of_unheard {s : State} {h : Hdr} (hr : s.Runs) (hh : ¬s.Hears h) (p : Payload) :
    live s (s.receive h p) = .next s := by
  rw [live_of_runs hr, State.receive, if_neg fun hp => hh (State.hears_of_passes hr hp)]

/-! ### The neighbour records -/

/-- What delivering a frame from station x leaves: the loader, the tick, and of the neighbour records all but what the
sender says of itself. -/
structure HeardFrom (x : Station) (s t : State) : Prop where
  boot : t.boot = s.boot
  tick : t.line.tick = s.line.tick
  neigh : ∀ p n, s.neigh p = some n → ∃ m, t.neigh p = some m ∧ m.station = n.station ∧ m.lastHeard = n.lastHeard
    ∧ m.heard = n.heard ∧ (n.station ≠ x → m = n)

theorem Grounded.heardFrom {s t : State} (h : Grounded s t) (x : Station) : HeardFrom x s t :=
  ⟨h.boot, h.tick, fun p n hn => ⟨n, (h.neigh p).trans hn, rfl, rfl, rfl, fun _ => rfl⟩⟩

theorem HeardFrom.trans_grounded {x : Station} {s t u : State} (h : HeardFrom x s t) (k : Grounded t u) :
    HeardFrom x s u :=
  ⟨k.boot.trans h.boot, k.tick.trans h.tick, fun p n hn =>
    let ⟨m, hm, rest⟩ := h.neigh p n hn
    ⟨m, (k.neigh p).trans hm, rest⟩⟩

/-- A field of the sender's records is written. -/
theorem HeardFrom.updNeighs {x : Station} (s : State) (f : Neigh → Neigh)
    (hf : ∀ n, (f n).station = n.station ∧ (f n).lastHeard = n.lastHeard ∧ (f n).heard = n.heard) :
    HeardFrom x s (s.updNeighs fun n => if n.station = x then f n else n) := by
  refine ⟨rfl, rfl, fun p n hn => ⟨if n.station = x then f n else n, ?_, ?_⟩⟩
  · rw [State.neigh_updNeighs, hn]
    rfl
  · by_cases hx : n.station = x
    · rw [if_pos hx]
      obtain ⟨h₁, h₂, h₃⟩ := hf n
      exact ⟨h₁, h₂, h₃, fun h => absurd hx h⟩
    · rw [if_neg hx]
      exact ⟨rfl, rfl, rfl, fun _ => rfl⟩

section
variable (s : State) (h : Hdr)

theorem State.onGo_heardFrom (x : Station) (v : Fin 1000) : HeardFrom x s (s.onGo x v) := by
  have e := HeardFrom.updNeighs (x := x) s (fun n => { n with go := some v }) fun _ => ⟨rfl, rfl, rfl⟩
  unfold State.onGo
  dsimp only
  split
  · exact e.trans_grounded (State.setSpan_grounded _ _ _)
  · exact e

theorem State.onStatus_heardFrom (x : Station) (i : StatusInfo) : HeardFrom x s (s.onStatus x i) :=
  HeardFrom.updNeighs (x := x) s (fun n => { n with belt := some i.belt }) fun _ => ⟨rfl, rfl, rfl⟩

theorem State.handOffFrame_grounded (f : State → State) (hf : ∀ t, Grounded t (f t)) :
    Grounded s (s.handOffFrame h f) := by
  unfold State.handOffFrame
  exact .when fun _ => (hf s).trans (State.wake_grounded _)

/-- Whatever a frame does, it writes no loader, no tick, and no neighbour record but its sender's. -/
theorem State.deliverFrame_heardFrom (p : Payload) : HeardFrom h.src s (s.deliverFrame h p) := by
  cases p with
  | offer n i l => exact (s.handOffFrame_grounded h _ fun t => t.onOffer_grounded _ _ _).heardFrom _
  | take n => exact (s.handOffFrame_grounded h _ fun t => t.onTake_grounded _ _).heardFrom _
  | wait n => exact (s.handOffFrame_grounded h _ fun t => t.onAnswer_grounded _ _).heardFrom _
  | refuse n r => exact (s.handOffFrame_grounded h _ fun t => t.onAnswer_grounded _ _).heardFrom _
  | withdraw n => exact (s.handOffFrame_grounded h _ fun t => t.onWithdraw_grounded _ _).heardFrom _
  | landed n k st =>
    have hf (t : State) : Grounded t (match LandStatus.answer st with
        | some a => t.onLanded h.src n k a
        | none => t.onSkipped h.src n) := by
      split
      · exact t.onLanded_grounded _ _ _ _
      · exact t.onSkipped_grounded _ _
    exact (s.handOffFrame_grounded h _ hf).heardFrom _
  | whereIs n => exact (s.handOffFrame_grounded h _ fun t => t.onWhere_grounded _ _).heardFrom _
  | notSeen n => exact (s.handOffFrame_grounded h id .refl).heardFrom _
  | stall => exact (Grounded.when fun _ => s.onStall_grounded _).heardFrom _
  | go v =>
    simp only [State.deliverFrame]
    split
    · exact s.onGo_heardFrom _ _
    · exact (Grounded.refl s).heardFrom _
  | dozeAsk => exact (Grounded.when fun _ => s.onDozeAsk_grounded _).heardFrom _
  | dozeAllow => exact (Grounded.when fun _ => s.onDozeAllow_grounded _).heardFrom _
  | dozeDeny => exact (Grounded.when fun _ => s.onDozeDeny_grounded _).heardFrom _
  | want n => exact (s.onWant_grounded _ _).heardFrom _
  | rackIn k st => exact (s.onRackIn_grounded _ _ _).heardFrom _
  | status i => exact s.onStatus_heardFrom _ _
  | attention i => exact (Grounded.refl s).heardFrom _
  | ask => exact (Grounded.when fun _ => s.onAsk_grounded _).heardFrom _
  | ack => exact (Grounded.when fun _ => .when fun _ => s.ackTop_grounded).heardFrom _
  | clear => exact (Grounded.when fun _ => .when fun _ => s.clearAll_grounded).heardFrom _
  | flush => exact (Grounded.when fun _ => .when fun _ => s.flushAll_grounded).heardFrom _

/-- The refresh of a sender: its records are heard now (R171). -/
theorem State.neigh_refresh (x : Station) (p : Port) : (s.refresh x).neigh p
    = (s.neigh p).map fun n => if n.station = x then { n with lastHeard := s.line.tick, heard := true } else n := by
  rw [← State.neigh_updNeighs]
  unfold State.refresh
  dsimp only
  split
  · exact (State.conditionEnd_grounded _ _).neigh p
  · rfl

theorem State.tick_refresh (x : Station) : (s.refresh x).line.tick = s.line.tick := by
  unfold State.refresh
  dsimp only
  split
  · exact (State.conditionEnd_grounded _ _).tick
  · rfl

end

/-- Settles O41: the refresh hears the sender, and neither the frame's own rule nor the derived actions take that back. -/
theorem everyHeardFrameRefreshes : Obligations.EveryHeardFrameRefreshes := by
  intro c f s hc
  refine ⟨fun hh => ?_, fun hr hh => by rw [exec_of_frame hc, State.receive_of_unheard hr hh]⟩
  have d := (s.refresh f.hdr.src).deliverFrame_heardFrom f.hdr f.payload
  have after (p : Port) (n : Neigh) (hn : (s.refresh f.hdr.src).neigh p = some n) := d.neigh p n hn
  refine ⟨_, (exec_of_frame hc s).trans (State.receive_of_hears hh f.payload), fun p x hx hs => ?_,
    fun p x hx hs => ?_, ?_, ?_, ?_⟩
  · have hn : (s.refresh f.hdr.src).neigh p = some { x with lastHeard := s.line.tick, heard := true } := by
      rw [State.neigh_refresh, hx]
      exact congrArg some (if_pos hs)
    obtain ⟨m, hm, hst, hl, hheard, -⟩ := after p _ hn
    exact ⟨m, (State.neigh_settle _ p).trans hm, hst, hheard, hl⟩
  · have hn : (s.refresh f.hdr.src).neigh p = some x := by
      rw [State.neigh_refresh, hx]
      exact congrArg some (if_neg hs)
    obtain ⟨m, hm, -, -, -, hother⟩ := after p _ hn
    rw [State.neigh_settle, hm, hother hs]
  · rw [State.tick_settle, d.tick, State.tick_refresh]
  · rw [State.settle_cu]
    refine (State.still_deliverFrame (b := .cu) _ _ _ rfl).trans ?_
    exact s.get_refresh_of_ne (b := .cu) _ (by decide) (by decide)
  · rw [State.settle_boot, d.boot, State.boot_refresh]

/-! ### STATUS, ATTENTION, frames for others, and silence -/

theorem exec_status_eq (s : State) (h : Hdr) (i : StatusInfo) : exec (.status h i) s = live s (s.receive h (.status i)) := rfl
theorem exec_attention_eq (s : State) (h : Hdr) (i : AttentionInfo) :
    exec (.attention h i) s = live s (s.receive h (.attention i)) := rfl
theorem exec_frameForOther_eq (s : State) (h : Hdr) (p : Payload) :
    exec (.frameForOther h p) s = live s (s.receive h p) := rfl
theorem exec_neighbourSilent_eq (s : State) (p : Port) : exec (.neighbourSilent p) s = live s (s.doNeighbourSilent p) := rfl

/-- A frame for another station does nothing more, but for the three kinds that act whatever their TO (R169, R171). -/
theorem State.deliverFrame_of_other {s : State} {h : Hdr} {p : Payload} (h₀ : h.dst ≠ 0) (hn : s.boot.station ≠ some h.dst)
    (hs : ∀ i, p ≠ .status i) (hw : ∀ n, p ≠ .want n) (hr : ∀ k st, p ≠ .rackIn k st) : s.deliverFrame h p = s := by
  have hme : s.toMe h.dst = false := by simp [State.toMe, h₀, hn]
  have halone : s.toMeAlone h.dst = false := by simp [State.toMeAlone, hn]
  cases p with
  | status i => exact absurd rfl (hs i)
  | want n => exact absurd rfl (hw n)
  | rackIn k st => exact absurd rfl (hr k st)
  | _ => simp [State.deliverFrame, State.handOffFrame, hme, halone]

/-- The state from which a silence is reported (R99, R172). -/
def State.silenced (s : State) (p : Port) (x : Neigh) : State := (s.setNeigh p (some { x with heard := false })).clearNoted p

section
variable (s : State) (p : Port) (x : Neigh)

theorem State.get_clearNoted {b : Block} (h : b ≠ .en) : (s.clearNoted p).get b = s.get b := by
  cases p <;> simp [State.clearNoted, h]

theorem State.get_silenced {b : Block} (h : b ≠ .en) (h' : b ≠ .line) : (s.silenced p x).get b = s.get b :=
  (State.get_clearNoted _ _ h).trans (State.get_setNeigh _ _ _ h')

theorem State.neigh_silenced (q : Port) :
    (s.silenced p x).neigh q = if q = p then some { x with heard := false } else s.neigh q := by
  have hl : (s.silenced p x).line = (s.setNeigh p (some { x with heard := false })).line :=
    State.get_clearNoted (b := .line) _ _ (by decide)
  have : (s.silenced p x).neigh q = (s.setNeigh p (some { x with heard := false })).neigh q := by
    cases q <;> simp only [State.neigh, hl]
  rw [this]
  by_cases hq : q = p
  · rw [if_pos hq, hq, State.neigh_setNeigh_self]
  · rw [if_neg hq, State.neigh_setNeigh_other _ _ hq]

theorem State.en_silenced : (s.silenced p x).en = match p with
    | .u0 => { s.en with noted0 := none }
    | .u1 => { s.en with noted1 := none }
    | .d0 => s.en
    | .d1 => s.en := by cases p <;> rfl

theorem State.doNeighbourSilent_of_due {s : State} {p : Port} {x : Neigh} (hm : s.boot.mode ≠ .loading)
    (hn : s.neigh p = some x) (hh : x.heard = true) (ht : 200 ≤ (s.line.tick - x.lastHeard).toNat) :
    s.doNeighbourSilent p = ((s.silenced p x).raiseStanding .neighbourSilent x.detail).settle := by
  have hd : s.silentDue p = some x := by
    unfold State.silentDue
    rw [hn]
    exact if_pos (by simp only [bne_iff_ne.2 hm, hh, Bool.and_true, Bool.true_and, State.since]; exact decide_eq_true ht)
  unfold State.doNeighbourSilent
  rw [hd]
  rfl

end

theorem Neigh.detail_eq (n : Neigh) : n.detail = n.station.val * 256 + (n.belt.map BeltState.code).getD 7 := by
  unfold Neigh.detail
  cases n.belt <;> rfl

/-- Settles O42: STATUS writes what it says, other frames are dropped, and a silence is its own raise. -/
theorem statusAndSilenceOfNeighbours : Obligations.StatusAndSilenceOfNeighbours := by
  refine ⟨⟨fun s h i hh => ?_, fun s h i hh => ?_, fun s h p hh h₀ hn hs hw hr => ?_⟩, fun s p x hr hm hn hh ht => ?_⟩
  · refine ⟨_, (exec_status_eq s h i).trans (State.receive_of_hears hh _), fun p x hx hs => ?_, ?_⟩
    · rw [State.neigh_settle]
      refine (State.neigh_updNeighs _ _ _).trans ?_
      rw [State.neigh_refresh, hx]
      simp [hs]
    · rw [State.track_settle]
      exact congrArg (List.map Rec.kept) (s.track_refresh h.src)
  · exact (exec_attention_eq s h i).trans (State.receive_of_hears hh _)
  · rw [exec_frameForOther_eq, State.receive_of_hears hh,
      State.deliverFrame_of_other h₀ (by rwa [State.boot_refresh]) hs hw hr]
  · have key {b : Block} (h : b ≠ .att) (h₁ : b ≠ .line) (h₂ : b ≠ .en) :
        ((s.silenced p x).raiseStanding .neighbourSilent x.detail).get b = s.get b :=
      (State.get_raiseStanding _ _ _ h h₁).trans (s.get_silenced p x h₂ h₁)
    have hkeep : LineKeeps (s.silenced p x) ((s.silenced p x).raiseStanding .neighbourSilent x.detail) :=
      (State.setCause_keeps _ _ _).trans (State.raise_keeps _ _ _)
    have hen : ((s.silenced p x).raiseStanding .neighbourSilent x.detail).en = (s.silenced p x).en :=
      State.get_raiseStanding (b := .en) _ _ _ (by decide) (by decide)
    refine ⟨_, by rw [exec_neighbourSilent_eq, live_of_runs hr, State.doNeighbourSilent_of_due hm hn hh ht], ?_,
      fun q hq => ?_, ?_, ?_, ?_, ?_, ?_, ?_, key (b := .track) (by decide) (by decide) (by decide),
          key (b := .dr) (by decide) (by decide) (by decide),
      key (b := .ex) (by decide) (by decide) (by decide), key (b := .eyes) (by decide) (by decide) (by decide),
          key (b := .cu) (by decide) (by decide) (by decide)⟩
    · rw [hkeep.neigh, State.neigh_silenced, if_pos rfl]
    · rw [hkeep.neigh, State.neigh_silenced, if_neg hq]
    · rw [State.cause_raiseStanding, if_pos rfl]
    · rw [State.cause_raiseStanding, if_pos rfl]
    · rw [State.cause_raiseStanding, if_pos rfl, Neigh.detail_eq]
    · rintro rfl
      rw [hen, State.en_silenced]
    · rintro rfl
      rw [hen, State.en_silenced]
    · rintro (rfl | rfl) <;> rw [hen, State.en_silenced]

/-! ### Answers to an offer -/

theorem exec_wait_eq (s : State) (h : Hdr) (n : Serial) : exec (.wait h n) s = live s (s.receive h (.wait n)) := rfl
theorem exec_refuse_eq (s : State) (h : Hdr) (n : Serial) (r : RefuseReason) :
    exec (.refuse h n r) s = live s (s.receive h (.refuse n r)) := rfl
theorem exec_take_eq (s : State) (h : Hdr) (n : Serial) : exec (.take h n) s = live s (s.receive h (.take n)) := rfl
theorem exec_notSeen_eq (s : State) (h : Hdr) (n : Serial) : exec (.notSeen h n) s = live s (s.receive h (.notSeen n)) := rfl

section
variable {s : State} {h : Hdr} (n : Serial)

theorem exec_take (hh : s.HearsAlone h) :
    exec (.take h n) s = .next (State.settle (State.wake ((s.refresh h.src).onTake h.src n))) :=
  (exec_take_eq s h n).trans (State.receive_handOff (fun t => t.onTake h.src n) hh fun _ => rfl)

theorem exec_wait (hh : s.HearsAlone h) :
    exec (.wait h n) s = .next (State.settle (State.wake ((s.refresh h.src).onAnswer h.src n))) :=
  (exec_wait_eq s h n).trans (State.receive_handOff (fun t => t.onAnswer h.src n) hh fun _ => rfl)

theorem exec_refuse (r : RefuseReason) (hh : s.HearsAlone h) :
    exec (.refuse h n r) s = .next (State.settle (State.wake ((s.refresh h.src).onAnswer h.src n))) :=
  (exec_refuse_eq s h n r).trans (State.receive_handOff (fun t => t.onAnswer h.src n) hh fun _ => rfl)

theorem exec_notSeen (hh : s.HearsAlone h) :
    exec (.notSeen h n) s = .next (State.settle (State.wake (s.refresh h.src))) :=
  (exec_notSeen_eq s h n).trans (State.receive_handOff id hh fun _ => rfl)

end

section
variable (s : State)

theorem State.get_onAnswer {b : Block} (x : Station) (n : Serial) (h : b ≠ .track) (h' : b ≠ .ex) :
    (s.onAnswer x n).get b = s.get b := by
  unfold State.onAnswer
  split
  · cases b <;> first | rfl | exact absurd rfl h | exact absurd rfl h'
  · rfl

theorem State.head_refresh (x : Station) : (s.refresh x).head = s.head := State.head_congr (s.track_refresh x)

@[simp] theorem State.downPortOf_refresh (x y : Station) : (s.refresh x).downPortOf y = s.downPortOf y := by
  unfold State.downPortOf
  rw [State.boot_refresh]

theorem State.offeredTo_refresh (x y : Station) (n : Serial) : (s.refresh x).offeredTo y n = s.offeredTo y n := by
  unfold State.offeredTo
  rw [State.head_refresh, State.downPortOf_refresh]

theorem State.offeredTo_of_head {s : State} {x : Station} {n : Serial} {p : DownPort} {r : Rec} (hr : s.head = some r)
    (ho : r.state = .offered) (hp : s.downPortOf x = some p) (he : r.exitPort = some p) (hn : r.exitSerial = some n) :
    s.offeredTo x n = some r := by
  unfold State.offeredTo
  rw [hr, hp]
  simp [ho, he, hn]

theorem State.onTake_of_none {s : State} {x : Station} {n : Serial} (h : s.offeredTo x n = none) : s.onTake x n = s := by
  unfold State.onTake
  rw [h]

theorem State.onAnswer_of_none {s : State} {x : Station} {n : Serial} (h : s.offeredTo x n = none) : s.onAnswer x n = s := by
  unfold State.onAnswer
  rw [h]

end

/-- Settles O25: an answer to the outstanding offer marks it, and any other is only heard. -/
theorem answersMatchTheOutstandingOffer : Obligations.AnswersMatchTheOutstandingOffer := by
  have wk (s : State) (x : Station) {b : Block} (h₀ : b ≠ .dr) (h₁ : b ≠ .att) (h₂ : b ≠ .line) (h₃ : b ≠ .en)
      (h₄ : b ≠ .idle) : (s.refresh x).wake.get b = s.get b :=
    (State.get_wake _ h₀ h₁ h₂ h₃ h₄).trans (s.get_refresh_of_ne x h₁ h₂)
  refine ⟨fun s h n p r c hh hc hr ho hp he hn => ?_, fun s h n hh => ⟨exec_notSeen n hh, fun hof => ?_,
    wk s h.src (b := .track) (by decide) (by decide) (by decide) (by decide) (by decide),
        wk s h.src (b := .ex) (by decide) (by decide) (by decide) (by decide) (by decide),
    wk s h.src (b := .cu) (by decide) (by decide) (by decide) (by decide) (by decide),
        wk s h.src (b := .eyes) (by decide) (by decide) (by decide) (by decide) (by decide)⟩⟩
  · have hexec : exec c s = .next (State.settle (State.wake ((s.refresh h.src).onAnswer h.src n))) := by
      obtain rfl | ⟨x, rfl⟩ := hc
      · exact exec_wait n hh
      · exact exec_refuse n x hh
    have hv : (s.refresh h.src).offeredTo h.src n = some r :=
      (s.offeredTo_refresh _ _ _).trans (State.offeredTo_of_head hr ho hp he hn)
    have key {b : Block} (h₀ : b ≠ .dr) (h₁ : b ≠ .att) (h₂ : b ≠ .line) (h₃ : b ≠ .en) (h₄ : b ≠ .idle) :
        ((s.refresh h.src).onAnswer h.src n).wake.get b = ((s.refresh h.src).onAnswer h.src n).get b :=
      State.get_wake _ h₀ h₁ h₂ h₃ h₄
    have rest {b : Block} (h₀ : b ≠ .dr) (h₁ : b ≠ .att) (h₂ : b ≠ .line) (h₃ : b ≠ .en) (h₄ : b ≠ .idle)
        (h₅ : b ≠ .track) (h₆ : b ≠ .ex) : ((s.refresh h.src).onAnswer h.src n).wake.get b = s.get b :=
      ((key h₀ h₁ h₂ h₃ h₄).trans (State.get_onAnswer _ _ _ h₅ h₆)).trans (s.get_refresh_of_ne _ h₁ h₂)
    refine ⟨_, hexec, ?_, ?_, rest (b := .marks) (by decide) (by decide) (by decide) (by decide)
        (by decide) (by decide) (by decide),
      rest (b := .cu) (by decide) (by decide) (by decide) (by decide) (by decide) (by decide) (by decide),
      rest (b := .eyes) (by decide) (by decide) (by decide) (by decide) (by decide) (by decide) (by decide),
      rest (b := .gate) (by decide) (by decide) (by decide) (by decide) (by decide) (by decide) (by decide),
      rest (b := .rt) (by decide) (by decide) (by decide) (by decide) (by decide) (by decide) (by decide),
      rest (b := .boot) (by decide) (by decide) (by decide) (by decide) (by decide) (by decide) (by decide)⟩
    · refine (key (b := .track) (by decide) (by decide) (by decide) (by decide) (by decide)).trans ?_
      unfold State.onAnswer
      rw [hv, ← s.track_refresh h.src]
      rfl
    · refine (key (b := .ex) (by decide) (by decide) (by decide) (by decide) (by decide)).trans ?_
      unfold State.onAnswer
      rw [hv, ← s.ex_refresh h.src]
      rfl
  · have hv : (s.refresh h.src).offeredTo h.src n = none := (s.offeredTo_refresh _ _ _).trans hof
    exact ⟨by rw [exec_take n hh, State.onTake_of_none hv], by rw [exec_wait n hh, State.onAnswer_of_none hv],
      fun x => by rw [exec_refuse n x hh, State.onAnswer_of_none hv]⟩

end Sys2Proof.Machine

/-! The rules of promotion (R12, R38), whatever the names of the records. -/

namespace Sys2Proof.Machine

/-! ### PROMPT frames with room -/

section
variable {s : State} (d : Station) (p : Payload)

theorem State.sends_sendPrompt (h : s.HasRoom) : (s.sendPrompt d p).Sends ⟨d, p⟩ := by
  rw [State.sendPrompt_of_room s d p h]
  exact State.sends_setQueue _ _ _ ((mem_insertPrompt _ _ _).2 (.inr rfl))

theorem State.att_sendPrompt_of_room (h : s.HasRoom) : (s.sendPrompt d p).att = s.att := by
  rw [State.sendPrompt_of_room s d p h, State.att_setQueue]

end

/-! ### Promotion -/

section
variable {s : State} {i : Nat}

/-- The head has a name. -/
def State.HeadIs (s : State) (i : Nat) : Prop := ∃ q, s.head = some q ∧ q.id = i

theorem State.HeadIs.congr {t : State} (h : s.HeadIs i) (ht : t.track = s.track) : t.HeadIs i := by
  obtain ⟨q, hq, hi⟩ := h
  exact ⟨q, (State.head_congr ht).trans hq, hi⟩

/-- Of a list of records whose first unreleased one has name i, the ones of name i are written without being released:
the first unreleased one still has it. -/
theorem find?_unreleased_map {f : Rec → Rec} (hid : ∀ x, (f x).id = x.id) (hf : ∀ x, x.handed = false → (f x).handed = false)
    {q : Rec} : ∀ {l : List Rec}, l.find? (fun x => !x.handed) = some q → q.id = i →
      ∃ x, (l.map fun x => if x.id = i then f x else x).find? (fun x => !x.handed) = some x ∧ x.id = i
  | [], h, _ => absurd h.symm (Option.some_ne_none q)
  | y :: l, h, hi => by
    rw [List.map_cons]
    cases hy : y.handed with
    | false =>
      have hyi : y.id = i := by
        rw [List.find?_cons_of_pos (by simp [hy])] at h
        rw [Option.some.inj h, hi]
      refine ⟨f y, ?_, (hid y).trans hyi⟩
      rw [if_pos hyi, List.find?_cons_of_pos (by simp [hf y hy])]
    | true =>
      rw [List.find?_cons_of_neg (by simp [hy])] at h
      have ih := find?_unreleased_map hid hf h hi
      by_cases hyi : y.id = i
      · rw [if_pos hyi]
        cases hz : (f y).handed with
        | false => exact ⟨f y, List.find?_cons_of_pos (by simp [hz]), (hid y).trans hyi⟩
        | true => rwa [List.find?_cons_of_neg (by simp [hz])]
      · rwa [if_neg hyi, List.find?_cons_of_neg (by simp [hy])]

/-- The head stays the head, by name, where its records are written without being released. -/
theorem State.HeadIs.updRec (h : s.HeadIs i) (f : Rec → Rec) (hid : ∀ x, (f x).id = x.id)
    (hf : ∀ x, x.handed = false → (f x).handed = false) : (s.updRec i f).HeadIs i := by
  obtain ⟨q, hq, hi⟩ := h
  exact find?_unreleased_map hid hf hq hi

theorem State.HeadIs.flagRec (h : s.HeadIs i) (f : Flags) : (s.flagRec i f).HeadIs i := h.updRec _ (fun _ => rfl) fun _ hx => hx

theorem State.HeadIs.stopFired (h : s.HeadIs i) : s.stopFired.HeadIs i := by
  obtain ⟨q, hq, hi⟩ := id h
  subst hi
  unfold State.stopFired
  rw [hq]
  dsimp only
  have hb : (s.updRec q.id fun r => { r with state := .atBay }).HeadIs q.id := h.updRec _ (fun _ => rfl) fun _ _ => rfl
  split
  · split
    · exact (hb.flagRec { misrouted := true }).congr (State.get_raise (b := .track) _ _ _ (by decide) (by decide))
    · exact hb
  · exact h

theorem State.HeadIs.loadGroup {r : Rec} (h : s.HeadIs i) : (s.loadGroup r).HeadIs i := by
  unfold State.loadGroup
  dsimp only
  split
  · exact State.HeadIs.stopFired (h.congr rfl)
  · exact h.congr rfl

theorem State.owner_loadGroup (s : State) (r : Rec) : (s.loadGroup r).marks.owner = some r.id := by
  unfold State.loadGroup
  dsimp only
  split
  · exact congrArg MarkGroup.owner (State.get_stopFired (b := .marks) _ (by decide) (by decide) (by decide))
  · rfl

/-- A promotion leaves the head the head. -/
theorem State.HeadIs.rehead (h : s.HeadIs i) : s.rehead.HeadIs i ∧ s.rehead.marks.owner = some i := by
  obtain ⟨q, hq, rfl⟩ := id h
  unfold State.rehead
  rw [hq]
  dsimp only
  split
  · exact ⟨h, ‹_›⟩
  · refine ⟨State.HeadIs.loadGroup ?_, State.owner_loadGroup _ _⟩
    split
    · exact (State.HeadIs.congr h rfl : State.HeadIs { s with bay := { s.bay with released := false } } q.id).updRec _
        (fun _ => rfl) fun _ _ => rfl
    · exact h.congr rfl

theorem State.headIs_of_head {q : Rec} (h : s.head = some q) : s.HeadIs q.id := ⟨q, h, rfl⟩

/-- A promotion with no head to promote leaves the group with an owner that is on the track yet (R17). -/
theorem State.rehead_of_owner_on_track {o : Nat} (h : s.head = none) (ho : s.marks.owner = some o)
    (hr : (s.recOf o).isSome = true) : s.rehead = s := by
  unfold State.rehead
  rw [h]
  dsimp only
  rw [ho]
  exact if_pos hr

/-- A promotion with no head to promote writes no record. -/
theorem State.track_rehead_of_no_head (h : s.head = none) : s.rehead.track = s.track := by
  unfold State.rehead
  rw [h]
  dsimp only
  split
  · rfl
  · split <;> rfl

/-- After a promotion the head owns the group, whatever the names of the records. -/
theorem State.owner_rehead {q : Rec} (h : s.rehead.head = some q) : s.rehead.marks.owner = some q.id := by
  cases hh : s.head with
  | none =>
    rw [State.head_congr (State.track_rehead_of_no_head hh), hh] at h
    exact absurd h.symm (Option.some_ne_none q)
  | some r =>
    obtain ⟨⟨q', hq', hi⟩, ho⟩ := (State.headIs_of_head hh).rehead
    rw [ho, ← hi, Option.some.inj (h.symm.trans hq')]

theorem State.head_eq_none_of_rehead (h : s.rehead.head = none) : s.head = none := by
  cases hh : s.head with
  | none => rfl
  | some r =>
    obtain ⟨⟨q, hq, -⟩, -⟩ := (State.headIs_of_head hh).rehead
    exact absurd (hq.symm.trans h) (Option.some_ne_none q)

/-! ### Records that a promotion does not touch -/

theorem State.mem_updRec_of_ne {q : Rec} (f : Rec → Rec) (hq : q ∈ s.track) (hne : q.id ≠ i) :
    q ∈ (s.updRec i f).track := List.mem_map.2 ⟨q, hq, if_neg hne⟩

theorem State.mem_stopFired {q : Rec} (h : s.HeadIs i) (hq : q ∈ s.track) (hne : q.id ≠ i) : q ∈ s.stopFired.track := by
  obtain ⟨r, hr, rfl⟩ := h
  unfold State.stopFired
  rw [hr]
  dsimp only
  split
  · split
    · rw [show ∀ (t : State) c d, (t.raise c d).track = t.track from
        fun t c d => State.get_raise (b := .track) t c d (by decide) (by decide)]
      exact State.mem_updRec_of_ne _ (State.mem_updRec_of_ne _ hq hne) hne
    · exact State.mem_updRec_of_ne _ hq hne
  · exact hq

theorem State.mem_loadGroup {q r : Rec} (h : s.HeadIs i) (hq : q ∈ s.track) (hne : q.id ≠ i) :
    q ∈ (s.loadGroup r).track := by
  unfold State.loadGroup
  dsimp only
  split
  · exact State.mem_stopFired (h.congr rfl) hq hne
  · exact hq

/-- A promotion writes no record but those of the head's name. -/
theorem State.mem_rehead {q : Rec} (hq : q ∈ s.track) (hne : ∀ h, s.head = some h → q.id ≠ h.id) : q ∈ s.rehead.track := by
  cases hh : s.head with
  | none => rwa [State.track_rehead_of_no_head hh]
  | some r =>
    have hi : q.id ≠ r.id := hne r hh
    unfold State.rehead
    rw [hh]
    dsimp only
    split
    · exact hq
    · split
      · refine State.mem_loadGroup (i := r.id) ?_ (State.mem_updRec_of_ne _ hq hi) hi
        exact (State.HeadIs.congr (State.headIs_of_head hh) rfl :
          State.HeadIs { s with bay := { s.bay with released := false } } r.id).updRec _ (fun _ => rfl) fun _ _ => rfl
      · exact State.mem_loadGroup (i := r.id) (State.HeadIs.congr (State.headIs_of_head hh) rfl) hq hi

end

end Sys2Proof.Machine

/-! The exchange at the exit: O23, O24, O27 and O26, with the rules of removal (R55). -/

namespace Sys2Proof.Machine

/-! ### Sending again -/

theorem exec_offerResend_eq (s : State) : exec .offerResend s = live s s.doOfferResend := rfl

section
variable {s : State}

/-- The state in which the OFFER of the head has gone out again (R86). -/
def State.offeredAgain (s : State) (r : Rec) (p : DownPort) (n : Serial) : State :=
  State.sendPrompt { s with ex := s.ex.resent r.answered } (s.downStation p) (s.offerPayload r n)

theorem State.doOfferResend_of_offered {r : Rec} {p : DownPort} {n : Serial} (ht : s.ex.resend = some 0)
    (hr : s.head = some r) (ho : r.state = .offered) (hp : r.exitPort = some p) (hn : r.exitSerial = some n) :
    s.doOfferResend = (s.offeredAgain r p n).settle := by
  unfold State.doOfferResend
  rw [ht, hr]
  simp only [expired_some_zero]
  rw [ho, hp, hn]
  rfl

theorem State.doOfferResend_of_no_offer (h : ∀ r, s.head = some r → r.state ≠ .offered) : s.doOfferResend = s := by
  unfold State.doOfferResend
  split
  · split
    · rename_i ho _ _
      exact absurd ho (h _ ‹s.head = some _›)
    · rfl
  · rfl

theorem State.get_offeredAgain (r : Rec) (p : DownPort) (n : Serial) {b : Block} (h : b ≠ .ex) (h₁ : b ≠ .att)
    (h₂ : b ≠ .line) : (s.offeredAgain r p n).get b = s.get b :=
  (State.get_sendPrompt _ _ _ h₁ h₂).trans (State.get_ex _ _ h)

theorem State.ex_offeredAgain (r : Rec) (p : DownPort) (n : Serial) : (s.offeredAgain r p n).ex = s.ex.resent r.answered :=
  State.get_sendPrompt (b := .ex) _ _ _ (by decide) (by decide)

theorem State.awaitTravel_of_taken {r : Rec} {c : Count} (hh : r.handed = true) (hs : r.exitSerial ≠ none)
    (hl : r.landing = none) (hc : r.takenAt = some c) : s.awaitTravel r = some (travel c s.cu.count) := by
  unfold State.awaitTravel
  rw [if_pos, hc]
  · rfl
  · simp [hh, hl, Option.isSome_iff_ne_none.2 hs]

/-- The state in which WHERE has gone out for a record (R92). -/
def State.asked (s : State) (r : Rec) (p : DownPort) (n : Serial) : State :=
  State.sendPrompt (s.updRec r.id fun q => { q with whereSent := true }) (s.downStation p) (.whereIs n)

theorem State.doWhereSent_of_due {r : Rec} {p : DownPort} {n : Serial} (h : s.whereDue = some r)
    (hp : r.exitPort = some p) (hn : r.exitSerial = some n) : s.doWhereSent = (s.asked r p n).settle := by
  unfold State.doWhereSent
  rw [h]
  dsimp only
  rw [hp, hn]
  rfl

theorem State.get_asked (r : Rec) (p : DownPort) (n : Serial) {b : Block} (h : b ≠ .track) (h₁ : b ≠ .att)
    (h₂ : b ≠ .line) : (s.asked r p n).get b = s.get b :=
  (State.get_sendPrompt _ _ _ h₁ h₂).trans (State.get_updRec _ _ _ h)

end

/-- Settles O23: OFFER by its send count, and WHERE by the test of travel and its mark. -/
theorem offerAndWhereAreSentAgain : Obligations.OfferAndWhereAreSentAgain := by
  refine ⟨⟨fun s r p n hr ht hh ho hp hn => ?_, fun s hr h => ?_⟩,
    ⟨fun s r c hm hf hh hs hl hw hc ht => ?_, fun s r p n hr hd hp hn => ?_⟩⟩
  · refine ⟨s.offeredAgain r p n, ?_, fun ha => ?_, fun ha hc => ?_, fun ha hc => ?_, fun ha hc => ?_, fun room => ?_,
      State.get_offeredAgain r p n (b := .track) (by decide) (by decide) (by decide),
      State.get_offeredAgain r p n (b := .marks) (by decide) (by decide) (by decide),
      State.get_offeredAgain r p n (b := .dr) (by decide) (by decide) (by decide),
      State.get_offeredAgain r p n (b := .en) (by decide) (by decide) (by decide),
      State.get_offeredAgain r p n (b := .eyes) (by decide) (by decide) (by decide)⟩
    · rw [exec_offerResend_eq, live_of_runs hr, State.doOfferResend_of_offered ht hh ho hp hn]
    · rw [State.ex_offeredAgain, ha]
      rfl
    · have h₄ : s.ex.sendCount < 4 := by omega
      have h₃ : s.ex.sendCount + 1 < 4 := by omega
      simp [State.ex_offeredAgain, ExitSide.resent, ha, h₄, h₃, Config.resendFast]
    · simp [State.ex_offeredAgain, ExitSide.resent, ha, hc, Config.resendSlow]
    · have h₄ : ¬s.ex.sendCount < 4 := by omega
      simp [State.ex_offeredAgain, ExitSide.resent, ha, h₄, Config.resendSlow]
    · exact ⟨State.sends_sendPrompt _ _ room, State.att_sendPrompt_of_room _ _ room⟩
  · rw [exec_offerResend_eq]
    exact live_self (State.doOfferResend_of_no_offer h)
  · have hpast : s.wherePast r = true := by
      simp [State.wherePast, hw, State.awaitTravel_of_taken hh hs hl hc, ht]
    refine Option.isSome_iff_ne_none.1 (List.find?_isSome.2 ⟨r, hm, ?_⟩)
    simp [hf, hpast]
  · have hfound := List.find?_some hd
    simp only [Bool.and_eq_true, List.contains_iff_mem] at hfound
    obtain ⟨hf, hpast⟩ := hfound
    have hw : r.whereSent = false := by
      unfold State.wherePast at hpast
      simpa using (Bool.and_eq_true_iff.1 hpast).1
    refine ⟨hw, hf, s.asked r p n, ?_, State.get_sendPrompt (b := .track) _ _ _ (by decide) (by decide), fun room => ?_,
      State.get_asked r p n (b := .ex) (by decide) (by decide) (by decide),
          State.get_asked r p n (b := .marks) (by decide) (by decide) (by decide),
      State.get_asked r p n (b := .dr) (by decide) (by decide) (by decide),
          State.get_asked r p n (b := .en) (by decide) (by decide) (by decide),
      State.get_asked r p n (b := .eyes) (by decide) (by decide) (by decide)⟩
    · rw [exec_whereSent_eq, live_of_runs hr, State.doWhereSent_of_due hd hp hn]
    · have room' : State.HasRoom (s.updRec r.id fun q => { q with whereSent := true }) := room
      exact ⟨State.sends_sendPrompt _ _ room', State.att_sendPrompt_of_room _ _ room'⟩

/-! ### TAKE -/

/-- A record as its release leaves it (R39, R88). -/
def Rec.released (r : Rec) (c : Count) : Rec :=
  { r with state := if r.exitPass = .none then .taken else .leaving, answered := false, landing := none,
           takenAt := some c, whereSent := false }

theorem Rec.handed_released (r : Rec) (c : Count) : (r.released c).handed = true := by
  unfold Rec.released Rec.handed
  dsimp only
  split <;> rfl

theorem Rec.kept_released (r : Rec) (c : Count) : (r.released c).kept = r.kept := rfl

section
variable (s : State) (r : Rec)

/-- The release of a record before the next head is promoted. -/
def State.letGo (s : State) (r : Rec) (f : Rec → Rec) : State :=
  let s := s.updRec r.id fun q => f (q.released s.cu.count)
  let s := if s.marks.owner = some r.id then { s with marks := s.marks.taken } else s
  State.callLampStep { s with ex := { s.ex with resend := none, patience := none } }

theorem State.release_eq (f : Rec → Rec) : s.release r f = (s.letGo r f).rehead := rfl

theorem State.track_letGo (f : Rec → Rec) :
    (s.letGo r f).track = s.track.map fun q => if q.id = r.id then f (q.released s.cu.count) else q := by
  unfold State.letGo
  dsimp only
  split <;> rfl

theorem State.ex_letGo (f : Rec → Rec) : (s.letGo r f).ex = { s.ex with resend := none, patience := none } := by
  unfold State.letGo
  dsimp only
  split <;> rfl

theorem State.marks_letGo (f : Rec → Rec) :
    (s.letGo r f).marks = if s.marks.owner = some r.id then s.marks.taken else s.marks := by
  unfold State.letGo
  dsimp only
  split <;> rename_i h
  · exact (if_pos h).symm
  · exact (if_neg h).symm

/-- After the release no head has the released record's name. -/
theorem State.head_letGo_ne {f : Rec → Rec} (hh : ∀ x, x.handed = true → (f x).handed = true)
    {q : Rec} (h : (s.letGo r f).head = some q) : q.id ≠ r.id := by
  obtain ⟨hm, hq⟩ := State.mem_of_head h
  rw [State.track_letGo] at hm
  obtain ⟨x, -, hx⟩ := List.mem_map.1 hm
  by_cases hi : x.id = r.id
  · rw [if_pos hi] at hx
    rw [← hx, hh _ (Rec.handed_released _ _)] at hq
    exact absurd hq.symm Bool.false_ne_true
  · rw [if_neg hi] at hx
    rwa [← hx]

theorem State.mem_release {f : Rec → Rec} (hid : ∀ x, (f x).id = x.id) (hh : ∀ x, x.handed = true → (f x).handed = true)
    (hr : r ∈ s.track) : f (r.released s.cu.count) ∈ (s.release r f).track := by
  rw [State.release_eq]
  refine State.mem_rehead ?_ fun h hq => ?_
  · rw [State.track_letGo]
    exact List.mem_map.2 ⟨r, hr, if_pos rfl⟩
  · have hne := s.head_letGo_ne r hh hq
    rw [hid]
    exact fun he => hne he.symm

theorem State.ex_release (f : Rec → Rec) : (s.release r f).ex = { s.ex with resend := none, patience := none } :=
  (State.get_rehead (b := .ex) (s.letGo r f) (by decide) (by decide) (by decide) (by decide)
      (by decide)).trans (s.ex_letGo r f)

/-- With no next head the group stays with its owner, who is on the track yet, its approach and stop marks
disarmed (R15, R17). -/
theorem State.marks_release_of_no_head {f : Rec → Rec} (hid : ∀ x, (f x).id = x.id) (hr : r ∈ s.track)
    (ho : s.marks.owner = some r.id) (h : (s.release r f).head = none) :
    (s.release r f).marks = { s.marks with approach := s.marks.approach.disarm, stop := s.marks.stop.disarm } := by
  have hm : (s.letGo r f).marks = s.marks.taken := by rw [State.marks_letGo, if_pos ho]
  have howner : (s.letGo r f).marks.owner = some r.id := by rw [hm]; exact ho
  have hrec : ((s.letGo r f).recOf r.id).isSome = true := by
    refine List.find?_isSome.2 ⟨f (r.released s.cu.count), ?_, ?_⟩
    · rw [State.track_letGo]
      exact List.mem_map.2 ⟨r, hr, if_pos rfl⟩
    · simp [hid, Rec.released]
  rw [State.release_eq] at h ⊢
  rw [State.rehead_of_owner_on_track (State.head_eq_none_of_rehead h) howner hrec, hm]
  rfl

end

/-- Settles O24: the released record, the promotion of the next head, and the group where there is none. -/
theorem takeReleasesTheHead : Obligations.TakeReleasesTheHead := by
  intro s h n p r hh hr ho hp he hn
  have hv : (s.refresh h.src).offeredTo h.src n = some r :=
    (s.offeredTo_refresh _ _ _).trans (State.offeredTo_of_head hr ho hp he hn)
  have hrel : (s.refresh h.src).onTake h.src n = (s.refresh h.src).release r id := by
    unfold State.onTake
    rw [hv]
  have hm : r ∈ (s.refresh h.src).track := by
    rw [State.track_refresh]
    exact (State.mem_of_head hr).1
  have hcu : (s.refresh h.src).cu = s.cu := s.get_refresh_of_ne (b := .cu) _ (by decide) (by decide)
  have hmarks : (s.refresh h.src).marks = s.marks := s.get_refresh_of_ne (b := .marks) _ (by decide) (by decide)
  have key {b : Block} (h₀ : b ≠ .dr) (h₁ : b ≠ .att) (h₂ : b ≠ .line) (h₃ : b ≠ .en) (h₄ : b ≠ .idle) :
      ((s.refresh h.src).release r id).wake.get b = ((s.refresh h.src).release r id).get b :=
    State.get_wake _ h₀ h₁ h₂ h₃ h₄
  have htrack : ((s.refresh h.src).release r id).wake.track = ((s.refresh h.src).release r id).track :=
    key (b := .track) (by decide) (by decide) (by decide) (by decide) (by decide)
  have hmk : ((s.refresh h.src).release r id).wake.marks = ((s.refresh h.src).release r id).marks :=
    key (b := .marks) (by decide) (by decide) (by decide) (by decide) (by decide)
  have rest {b : Block} (h₀ : b ≠ .dr) (h₁ : b ≠ .att) (h₂ : b ≠ .line) (h₃ : b ≠ .en) (h₄ : b ≠ .idle)
      (h₅ : b ≠ .track) (h₆ : b ≠ .marks) (h₇ : b ≠ .bay) (h₈ : b ≠ .ex) :
      ((s.refresh h.src).release r id).wake.get b = s.get b :=
    ((key h₀ h₁ h₂ h₃ h₄).trans (State.get_release _ _ _ h₅ h₁ h₂ h₆ h₇ h₈)).trans (s.get_refresh_of_ne _ h₁ h₂)
  refine ⟨_, by rw [exec_take n hh, hrel], ⟨r.released s.cu.count, ?_, rfl, rfl, rfl, rfl, rfl, rfl, he, hn⟩, ?_, ?_,
    fun q hq => ?_, fun hq hown => ?_,
    rest (b := .cu) (by decide) (by decide) (by decide) (by decide) (by decide) (by decide) (by decide)
        (by decide) (by decide),
    rest (b := .eyes) (by decide) (by decide) (by decide) (by decide) (by decide) (by decide)
        (by decide) (by decide) (by decide),
    rest (b := .gate) (by decide) (by decide) (by decide) (by decide) (by decide) (by decide)
        (by decide) (by decide) (by decide),
    rest (b := .rt) (by decide) (by decide) (by decide) (by decide) (by decide) (by decide) (by decide)
        (by decide) (by decide),
    rest (b := .boot) (by decide) (by decide) (by decide) (by decide) (by decide) (by decide)
        (by decide) (by decide) (by decide)⟩
  · rw [htrack, ← hcu]
    exact State.mem_release _ _ (fun _ => rfl) (fun _ hx => hx) hm
  · rw [htrack, State.kept_track_eq _ _ (State.kept_release _ r id fun _ => rfl), State.track_refresh]
  · refine (key (b := .ex) (by decide) (by decide) (by decide) (by decide) (by decide)).trans ?_
    exact (State.ex_release _ _ _).trans (by rw [State.ex_refresh])
  · rw [hmk]
    exact State.owner_rehead ((State.head_congr htrack).symm.trans hq)
  · rw [hmk, ← hmarks]
    exact State.marks_release_of_no_head _ _ (fun _ => rfl) hm (by rw [hmarks]; exact hown)
      ((State.head_congr htrack).symm.trans hq)

end Sys2Proof.Machine

/-! Removal (R55) block by block, and with it O26, O27 and O31. -/

namespace Sys2Proof.Machine

section
variable (s : State) (r : Rec)

/-- The offer of a record that is to leave is withdrawn. -/
def State.parted (s : State) (r : Rec) : State := if r.state = .offered then s.sendWithdraw r else s

/-- A read goes on without its owner (R34). -/
def State.unread (s : State) (i : Nat) : State :=
  if s.tag.owner = some i then { s with tag := { s.tag with owner := none } } else s

/-- An empty track has no rack route. -/
def State.unrouted (s : State) : State :=
  if s.track = [] then { s with gate := { s.gate with rackRoute := none } } else s

/-- A head that leaves takes its release mark with it. -/
def State.unreleased (s : State) (wasHead : Bool) : State :=
  if wasHead then { s with bay := { s.bay with released := false } } else s

/-- A record off the track, its lists, its read and its offer, before its landing is accounted for (R55). -/
def State.lifted (s : State) (r : Rec) : State :=
  State.unreleased (State.unrouted (State.unread
    (State.leaveLists { s.parted r with track := s.track.filter fun q => q.id != r.id } r.id) r.id))
    (decide (s.head.map (·.id) = some r.id))

/-- What a removal writes before the head is promoted. -/
def State.takeOff (s : State) (r : Rec) : State := State.bayFollows ((s.lifted r).abandonLanding r.id)

theorem State.get_parted {b : Block} (h : b ≠ .ex) (h₁ : b ≠ .att) (h₂ : b ≠ .line) : (s.parted r).get b = s.get b := by
  unfold State.parted
  split
  · exact State.get_sendWithdraw _ _ h h₁ h₂
  · rfl

theorem State.get_unread (i : Nat) {b : Block} (h : b ≠ .tag) : (s.unread i).get b = s.get b := by
  unfold State.unread
  split
  · exact State.get_tag _ _ h
  · rfl

theorem State.get_unrouted {b : Block} (h : b ≠ .gate) : s.unrouted.get b = s.get b := by
  unfold State.unrouted
  split
  · exact State.get_gate _ _ h
  · rfl

theorem State.get_unreleased (w : Bool) {b : Block} (h : b ≠ .bay) : (s.unreleased w).get b = s.get b := by
  unfold State.unreleased
  split
  · exact State.get_bay _ _ h
  · rfl

/-- Off its lists a record leaves its read, the rack route and its release. -/
theorem State.get_lifted {b : Block} (h : b ≠ .tag) (h₁ : b ≠ .gate) (h₂ : b ≠ .bay) : (s.lifted r).get b
    = (State.leaveLists { s.parted r with track := s.track.filter fun q => q.id != r.id } r.id).get b :=
  (State.get_unreleased _ _ h₂).trans ((State.get_unrouted _ h₁).trans (State.get_unread _ _ h))

theorem State.removeRec_eq : s.removeRec r = (s.takeOff r).rehead := by
  have htr : (s.parted r).track = s.track := s.get_parted r (b := .track) (by decide) (by decide) (by decide)
  unfold State.takeOff State.lifted State.unreleased
  rw [← htr]
  simp only [decide_eq_true_eq]
  rfl

theorem State.get_takeOff {b : Block} (h : b ≠ .bay) (h₁ : b ≠ .line) (h₂ : b ≠ .en) (h₃ : b ≠ .att) :
    (s.takeOff r).get b = (s.lifted r).get b :=
  (State.get_bayFollows _ h h₁).trans (State.get_abandonLanding _ _ h₂ h₃ h₁)

theorem State.track_takeOff : (s.takeOff r).track = s.track.filter fun q => q.id != r.id :=
  (s.get_takeOff r (b := .track) (by decide) (by decide) (by decide) (by decide)).trans <|
    (s.get_lifted r (b := .track) (by decide) (by decide) (by decide)).trans <|
    State.get_leaveLists (b := .track) _ _ (by decide)

/-- The record leaves the track, and the others stay in their order (R55). -/
theorem State.kept_track_removeRec :
    (s.removeRec r).track.map Rec.kept = (s.track.filter fun q => q.id != r.id).map Rec.kept := by
  rw [State.removeRec_eq, State.kept_track_eq _ _ (State.kept_rehead _), State.track_takeOff]

/-- The exit side is that of the withdrawal alone. -/
theorem State.ex_removeRec_eq : (s.removeRec r).ex = (s.parted r).ex := by
  rw [State.removeRec_eq]
  exact (State.get_rehead (b := .ex) _ (by decide) (by decide) (by decide) (by decide) (by decide)).trans <|
    (s.get_takeOff r (b := .ex) (by decide) (by decide) (by decide) (by decide)).trans <|
    (s.get_lifted r (b := .ex) (by decide) (by decide) (by decide)).trans
    (State.get_leaveLists (b := .ex) _ _ (by decide))

theorem State.ex_removeRec (h : r.state ≠ .offered) : (s.removeRec r).ex = s.ex := by
  rw [State.ex_removeRec_eq, State.parted, if_neg h]

/-- Records of other names are those before a change of the ones of that name. -/
theorem State.filter_updRec (i : Nat) (f : Rec → Rec) (hid : ∀ x, (f x).id = x.id) :
    (s.updRec i f).track.filter (fun q => q.id != i) = s.track.filter fun q => q.id != i := by
  show (s.track.map fun x => if x.id = i then f x else x).filter _ = _
  induction s.track with
  | nil => rfl
  | cons x l ih =>
    rw [List.map_cons, List.filter_cons, List.filter_cons, ih]
    by_cases hx : x.id = i
    · simp [hx, hid]
    · simp [hx]

end

/-! ### LANDED -/

/-- The refresh of a sender ends the condition of NEIGHBOUR-SILENT alone (R172). -/
theorem State.cause_refresh_of_ne (s : State) (x : Station) {c : Cause} (hc : c ≠ .neighbourSilent) :
    (s.refresh x).cause c = s.cause c := by
  unfold State.refresh
  dsimp only
  split
  · exact (State.cause_conditionEnd _ _ _).trans (if_neg hc)
  · rfl

theorem exec_landed_eq (s : State) (h : Hdr) (n : Serial) (k : RackNo) (a : LandAnswer) :
    exec (.landed h n k a) s = live s (s.receive h (.landed n k (LandAnswer.status a))) := rfl

theorem LandAnswer.answer_status (a : LandAnswer) : LandStatus.answer (LandAnswer.status a) = some a := by cases a <;> rfl

theorem exec_landed {s : State} {h : Hdr} (n : Serial) (k : RackNo) (a : LandAnswer) (hh : s.HearsAlone h) :
    exec (.landed h n k a) s = .next (State.settle (State.wake ((s.refresh h.src).onLanded h.src n k a))) := by
  refine (exec_landed_eq s h n k a).trans (State.receive_handOff (fun t => t.onLanded h.src n k a) hh fun t => ?_)
  cases a <;> rfl

section
variable (s : State)

theorem State.handedAs_refresh (x : Station) (p : DownPort) (n : Serial) :
    (s.refresh x).handedAs p n = s.handedAs p n := by
  unfold State.handedAs
  rw [State.track_refresh]

theorem State.lostAs_refresh (x : Station) (p : DownPort) (n : Serial) : (s.refresh x).lostAs p n = s.lostAs p n := by
  unfold State.lostAs
  rw [State.ex_refresh]

theorem State.gate_refresh (x : Station) : (s.refresh x).gate = s.gate := s.get_refresh_of_ne (b := .gate) x (by decide) (by decide)

theorem State.hasRole_refresh (x : Station) (r : Role) : (s.refresh x).hasRole r = s.hasRole r := by
  unfold State.hasRole
  rw [State.boot_refresh]

theorem State.steersRecord_refresh (x : Station) (r : Rec) : (s.refresh x).steersRecord r = s.steersRecord r := by
  unfold State.steersRecord
  rw [State.gate_refresh, State.hasRole_refresh]

variable {s}

theorem State.handedAs_some {p : DownPort} {n : Serial} {r : Rec} (h : s.handedAs p n = some r) :
    r ∈ s.track ∧ r.handed = true ∧ r.exitPort = some p ∧ r.exitSerial = some n := by
  have hp := List.find?_some h
  simp only [Bool.and_eq_true, beq_iff_eq] at hp
  exact ⟨List.mem_of_find?_eq_some h, hp.1.1, hp.1.2, hp.2⟩

theorem Rec.not_offered_of_handed {r : Rec} (h : r.handed = true) : r.state ≠ .offered := by
  intro ho
  simp [Rec.handed, ho] at h

/-- The answered record before the removal that follows a finished passage (R90, R144). -/
def State.landingNoted (s : State) (src : Station) (p : DownPort) (r : Rec) (number : RackNo) (a : LandAnswer) : State :=
  let t := s.updRec r.id fun q => { q with landing := some a }
  if s.steersRecord r then t.steeredAdd p (steeredNumber r number a) src else t

theorem State.answerLanded_eq (src : Station) (p : DownPort) (r : Rec) (number : RackNo) (a : LandAnswer) :
    s.answerLanded src p r number a = if r.exitPass = .passed then (s.landingNoted src p r number a).removeRec r
      else s.landingNoted src p r number a := rfl

theorem State.get_landingNoted (src : Station) (p : DownPort) (r : Rec) (k : RackNo) (a : LandAnswer) {b : Block}
    (h : b ≠ .track) (h' : b ≠ .rt) : (s.landingNoted src p r k a).get b = s.get b := by
  unfold State.landingNoted
  dsimp only
  split <;> simp [h, h']

theorem State.track_landingNoted (src : Station) (p : DownPort) (r : Rec) (k : RackNo) (a : LandAnswer) :
    (s.landingNoted src p r k a).track = (s.updRec r.id fun q => { q with landing := some a }).track := by
  unfold State.landingNoted
  dsimp only
  split
  · exact State.get_steeredAdd (b := .track) _ _ _ _ (by decide)
  · rfl

theorem State.steered_steeredAdd (p : DownPort) (k : RackNo) (x : Station) :
    (s.steeredAdd p k x).steered p = addSteered (s.steered p) ⟨k, x, s.line.tick⟩ := State.steered_setSteered_self _ _ _

theorem State.steered_steeredAdd_other (p : DownPort) (k : RackNo) (x : Station) :
    (s.steeredAdd p k x).steered (DownPort.other p) = s.steered (DownPort.other p) := by
  cases p <;> rfl

theorem State.steered_landingNoted (src : Station) (p : DownPort) (r : Rec) (k : RackNo) (a : LandAnswer) :
    (s.landingNoted src p r k a).steered p = (if s.steersRecord r then
      addSteered (s.steered p) ⟨steeredNumber r k a, src, s.line.tick⟩ else s.steered p)
    ∧ (s.landingNoted src p r k a).steered (DownPort.other p) = s.steered (DownPort.other p) := by
  unfold State.landingNoted
  dsimp only
  split
  · exact ⟨State.steered_steeredAdd _ _ _, State.steered_steeredAdd_other _ _ _⟩
  · exact ⟨rfl, rfl⟩

theorem State.steered_congr {t : State} (h : t.rt = s.rt) (p : DownPort) : t.steered p = s.steered p := by
  cases p <;> simp only [State.steered, h]

end

theorem steeredNumber_eq (r : Rec) (k : RackNo) (a : LandAnswer) :
    steeredNumber r k a = if a = .noread then r.number else k := by cases a <;> rfl

section
variable {s : State} {r : Rec} (src : Station) (p : DownPort) (k : RackNo) (a : LandAnswer)

/-- What a landing answer leaves, with and without the removal of a record that has passed (R53, R90). -/
theorem State.get_answerLanded {b : Block} (hr : r.state ≠ .offered) (h : b = .rt ∨ b = .cu ∨ b = .boot ∨ b = .ex) :
    (s.answerLanded src p r k a).get b = (s.landingNoted src p r k a).get b := by
  rw [State.answerLanded_eq]
  split
  · obtain rfl | rfl | rfl | rfl := h
    · exact State.get_removeRec (b := .rt) _ _ (by decide) (by decide) (by decide) (by decide)
          (by decide) (by decide) (by decide) (by decide) (by decide) (by decide)
    · exact State.get_removeRec (b := .cu) _ _ (by decide) (by decide) (by decide) (by decide)
          (by decide) (by decide) (by decide) (by decide) (by decide) (by decide)
    · exact State.get_removeRec (b := .boot) _ _ (by decide) (by decide) (by decide) (by decide)
          (by decide) (by decide) (by decide) (by decide) (by decide) (by decide)
    · exact State.ex_removeRec _ _ hr
  · rfl

theorem State.track_answerLanded_of_on_belt (h : r.exitPass ≠ .passed) : (s.answerLanded src p r k a).track
    = s.track.map fun q => if q.id = r.id then { q with landing := some a } else q := by
  rw [State.answerLanded_eq, if_neg h, State.track_landingNoted]
  rfl

theorem State.track_answerLanded_of_passed (h : r.exitPass = .passed) : (s.answerLanded src p r k a).track.map Rec.kept
    = (s.track.filter fun q => q.id != r.id).map Rec.kept := by
  rw [State.answerLanded_eq, if_pos h, State.kept_track_removeRec, State.track_landingNoted, State.filter_updRec]
  exact fun _ => rfl

end

section
variable {s : State} (x : LostEntry)

theorem State.cause_lateLanding (c : Cause) : (s.lateLanding x).cause c =
    if c = .lostRack ∧ (s.cause .lostRack).st ≠ .absent then
      { s.cause .lostRack with
        repeats := satSucc (s.cause .lostRack).repeats, detail := BitVec.ofNat 16 x.number.val
        st := if s.ex.lost.erase x = [] ∧ s.ex.plainLoss = false then .absent else (s.cause .lostRack).st }
    else s.cause c := by
  unfold State.lateLanding
  extract_lets src t e u
  have he : e = s.cause .lostRack := rfl
  have hu (c : Cause) : u.cause c = if c = .lostRack then
      { e with repeats := satSucc e.repeats, detail := BitVec.ofNat 16 x.number.val } else s.cause c :=
    State.cause_setCause _ _ _ _
  by_cases ha : e.st = .absent
  · rw [if_pos ha, if_neg fun h => h.2 (he ▸ ha)]
    rfl
  · rw [if_neg ha]
    clear_value e
    subst he
    have hself : (u.cause .lostRack).st ≠ .absent := by
      rw [hu, if_pos rfl]
      exact ha
    by_cases hl : u.ex.lost = [] ∧ u.ex.plainLoss = false
    · rw [if_pos hl, State.cause_absentAll_singleton hself, hu, if_pos rfl]
      by_cases hc : c = .lostRack
      · rw [if_pos hc, if_pos ⟨hc, ha⟩, if_pos (show s.ex.lost.erase x = [] ∧ s.ex.plainLoss = false from hl)]
      · rw [if_neg hc, if_neg fun h => hc h.1, hu, if_neg hc]
    · rw [if_neg hl, hu]
      by_cases hc : c = .lostRack
      · rw [if_pos hc, if_pos ⟨hc, ha⟩, if_neg (show ¬(s.ex.lost.erase x = [] ∧ s.ex.plainLoss = false) from hl)]
      · rw [if_neg hc, if_neg fun h => hc h.1]

theorem State.get_lateLanding {b : Block} (h : b ≠ .att) (h₁ : b ≠ .ex) (h₂ : b ≠ .dr) (h₃ : b ≠ .line) :
    (s.lateLanding x).get b = s.get b := by
  unfold State.lateLanding
  extract_lets src t e u
  have ht : t.get b = s.get b := State.get_ex _ _ h₁
  have hu : u.get b = s.get b := (State.get_setCause _ _ _ h).trans ht
  split
  · exact ht
  · split
    · exact (State.get_absentAll _ _ h h₁ h₂ h₃).trans hu
    · exact hu

theorem State.ex_lateLanding : (s.lateLanding x).ex.lost = s.ex.lost.erase x
    ∧ (s.lateLanding x).ex.plainLoss = s.ex.plainLoss := by
  unfold State.lateLanding
  extract_lets src t e u
  split
  · exact ⟨rfl, rfl⟩
  · rename_i ha
    split
    · rename_i hl
      have hself : (u.cause .lostRack).st ≠ .absent := by
        rw [show u.cause .lostRack = _ from State.cause_setCause_self _ _ _]
        exact ha
      rw [State.ex_absentAll_singleton hself]
      exact ⟨rfl, by rw [hl.2]; exact hl.2.symm⟩
    · exact ⟨rfl, rfl⟩

end

/-- Settles O26: the answer of a record and the clearing of a late one. -/
theorem landedReportsAreAccounted : Obligations.LandedReportsAreAccounted := by
  refine ⟨fun s h n k a p r hh hp hr => ?_, fun s h n k a p x hh hp hr hx => ?_⟩
  · obtain ⟨hm, hhand, -, -⟩ := State.handedAs_some hr
    have hno := Rec.not_offered_of_handed hhand
    have hland : (s.refresh h.src).onLanded h.src n k a = (s.refresh h.src).answerLanded h.src p r k a := by
      unfold State.onLanded
      rw [State.downPortOf_refresh, hp]
      dsimp only
      rw [State.handedAs_refresh, hr]
    have key {b : Block} (h₀ : b ≠ .dr) (h₁ : b ≠ .att) (h₂ : b ≠ .line) (h₃ : b ≠ .en) (h₄ : b ≠ .idle) :
        ((s.refresh h.src).answerLanded h.src p r k a).wake.get b
          = ((s.refresh h.src).answerLanded h.src p r k a).get b := State.get_wake _ h₀ h₁ h₂ h₃ h₄
    have htrack := key (b := .track) (by decide) (by decide) (by decide) (by decide) (by decide)
    have hrt : ((s.refresh h.src).answerLanded h.src p r k a).wake.rt = ((s.refresh h.src).landingNoted h.src p r k a).rt :=
      (key (b := .rt) (by decide) (by decide) (by decide) (by decide)
          (by decide)).trans (State.get_answerLanded (b := .rt) _ _ _ _ hno (.inl rfl))
    have hrt₀ : (s.refresh h.src).rt = s.rt := s.get_refresh_of_ne (b := .rt) _ (by decide) (by decide)
    obtain ⟨hst, hother⟩ := State.steered_landingNoted (s := s.refresh h.src) h.src p r k a
    rw [State.steersRecord_refresh, State.tick_refresh, State.steered_congr hrt₀, steeredNumber_eq] at hst
    refine ⟨_, by rw [exec_landed n k a hh, hland], fun hpass => ?_, fun hpass => ?_, fun hd hl ⟨rt, hg, hdem⟩ => ?_,
      fun hn => ?_, ?_, ?_, ?_, ?_⟩
    · refine htrack.trans ?_
      exact (State.track_answerLanded_of_on_belt _ _ _ _ hpass).trans (by rw [State.track_refresh])
    · refine (congrArg (List.map Rec.kept) htrack).trans ?_
      exact (State.track_answerLanded_of_passed _ _ _ _ hpass).trans (by rw [State.track_refresh])
    · have hsteer : s.steersRecord r = true := by simp [State.steersRecord, hd, hl, hg, hdem]
      rw [State.steered_congr hrt, hst, if_pos hsteer]
    · have hsteer : s.steersRecord r = false := by
        obtain hd | hl | hg := hn
        · simp [State.steersRecord, hd]
        · simp [State.steersRecord, hl]
        · cases hgr : s.gate.rackRoute with
          | none => simp [State.steersRecord, hgr]
          | some rt => simp [State.steersRecord, hgr, hg rt hgr]
      rw [State.steered_congr hrt, hst, if_neg (by simp [hsteer])]
    · rw [State.steered_congr hrt, hother, State.steered_congr hrt₀]
    · have hex : ((s.refresh h.src).answerLanded h.src p r k a).wake.ex = s.ex :=
        (key (b := .ex) (by decide) (by decide) (by decide) (by decide) (by decide)).trans <|
          (State.get_answerLanded (b := .ex) _ _ _ _ hno (.inr (.inr (.inr rfl)))).trans <|
          (State.get_landingNoted (b := .ex) _ _ _ _ _ (by decide) (by decide)).trans (s.ex_refresh _)
      rw [hex]
    · exact (key (b := .cu) (by decide) (by decide) (by decide) (by decide) (by decide)).trans <|
        (State.get_answerLanded (b := .cu) _ _ _ _ hno (.inr (.inl rfl))).trans <|
        (State.get_landingNoted (b := .cu) _ _ _ _ _ (by decide)
            (by decide)).trans (s.get_refresh_of_ne (b := .cu) _ (by decide) (by decide))
    · exact (key (b := .boot) (by decide) (by decide) (by decide) (by decide) (by decide)).trans <|
        (State.get_answerLanded (b := .boot) _ _ _ _ hno (.inr (.inr (.inl rfl)))).trans <|
        (State.get_landingNoted (b := .boot) _ _ _ _ _ (by decide) (by decide)).trans (s.boot_refresh _)
  · have hland : (s.refresh h.src).onLanded h.src n k a = (s.refresh h.src).lateLanding x := by
      unfold State.onLanded
      rw [State.downPortOf_refresh, hp]
      dsimp only
      rw [State.handedAs_refresh, hr]
      dsimp only
      rw [State.lostAs_refresh, hx]
    have rest {b : Block} (h₀ : b ≠ .dr) (h₁ : b ≠ .att) (h₂ : b ≠ .line) (h₃ : b ≠ .en) (h₄ : b ≠ .idle) (h₅ : b ≠ .ex) :
        ((s.refresh h.src).lateLanding x).wake.get b = s.get b :=
      (State.get_wake _ h₀ h₁ h₂ h₃ h₄).trans <|
        (State.get_lateLanding _ h₁ h₅ h₀ h₂).trans (s.get_refresh_of_ne _ h₁ h₂)
    have hex : ((s.refresh h.src).lateLanding x).wake.ex = ((s.refresh h.src).lateLanding x).ex :=
      State.get_wake (b := .ex) _ (by decide) (by decide) (by decide) (by decide) (by decide)
    have hl : (s.refresh h.src).cause .lostRack = s.cause .lostRack := State.cause_refresh_of_ne s h.src (by decide)
    obtain ⟨hlost, hplain⟩ := State.ex_lateLanding (s := s.refresh h.src) x
    have hcause : ((s.refresh h.src).lateLanding x).wake.cause .lostRack = _ :=
      (State.kept_cause_eq _ _ (State.kept_wake _) .lostRack rfl).trans (State.cause_lateLanding x .lostRack)
    rw [hl, State.ex_refresh] at hcause
    refine ⟨_, by rw [exec_landed n k a hh, hland], ?_, rest (b := .track) (by decide) (by decide)
        (by decide) (by decide) (by decide) (by decide),
      fun ha => ?_, fun ha => ?_, ?_, rest (b := .cu) (by decide) (by decide) (by decide) (by decide)
          (by decide) (by decide),
      rest (b := .eyes) (by decide) (by decide) (by decide) (by decide) (by decide) (by decide),
          rest (b := .boot) (by decide) (by decide) (by decide) (by decide) (by decide) (by decide)⟩
    · rw [hex, hlost, State.ex_refresh]
    · rw [hcause, if_pos ⟨rfl, ha⟩]
      exact ⟨rfl, rfl, rfl⟩
    · rw [hcause, if_neg fun h => h.2 ha]
      exact ha
    · rw [hex, hplain, State.ex_refresh]

end Sys2Proof.Machine

section
-- One declaration after the other from here on: the check compiles the whole text in one process with a limit on its
-- memory, and declarations elaborated side by side hold more of it.
set_option Elab.async false

/-! Patience, lapsed slots and new TAKEs: O27, O31 and O29. -/

namespace Sys2Proof.Machine

/-! ### Patience -/

theorem exec_patienceExpiry_eq (s : State) : exec .patienceExpiry s = live s s.doPatienceExpiry := rfl

section
variable {s : State} {r : Rec}

/-- The withdrawal of an OFFERED head (R89). -/
theorem State.withdrawHead_of_offered (hr : s.head = some r) (ho : r.state = .offered) :
    s.withdrawHead = (s.sendWithdraw r).updRec r.id Rec.withdrawn := by
  unfold State.withdrawHead
  rw [hr]
  exact if_pos ho

theorem State.ex_sendWithdraw (s : State) (r : Rec) : (s.sendWithdraw r).ex = { s.ex with resend := none, patience := none } := by
  unfold State.sendWithdraw
  dsimp only
  split
  · exact State.get_sendPrompt (b := .ex) _ _ _ (by decide) (by decide)
  · rfl

theorem State.sendWithdraw_of_serial {p : DownPort} {n : Serial} (hp : r.exitPort = some p) (hn : r.exitSerial = some n) :
    s.sendWithdraw r = State.sendPrompt { s with ex := { s.ex with resend := none, patience := none } } (s.downStation p)
      (.withdraw n) := by
  unfold State.sendWithdraw
  rw [hp, hn]
  rfl

theorem State.Sends.congr {t : State} {f : Frame} (h : s.Sends f) (hl : t.line = s.line) : t.Sends f := by
  unfold State.Sends
  rw [hl]
  exact h

theorem State.track_reResolve (rt : Route) (hr : s.head = some r) (ho : r.state = .offered) :
    (s.reResolve r rt).track = (State.updRec (s.updRec r.id Rec.withdrawn) r.id fun q =>
      { q with flags := Flags.union q.flags { altered := true },
               localFlags := Flags.union q.localFlags { altered := true } }).track := by
  have ht : s.withdrawHead.track = (s.updRec r.id Rec.withdrawn).track := by
    rw [State.withdrawHead_of_offered hr ho]
    exact congrArg (List.map _) (s.track_sendWithdraw r)
  exact congrArg (List.map _) ht

theorem State.get_reResolve (rt : Route) {b : Block} (h : b ≠ .ex) (h₁ : b ≠ .att) (h₂ : b ≠ .line) (h₃ : b ≠ .track)
    (h₄ : b ≠ .gate) : (s.reResolve r rt).get b = s.get b :=
  (State.get_gate _ _ h₄).trans <| (State.get_flagRec _ _ _ h₃).trans (State.get_withdrawHead _ h h₁ h₂ h₃)

end

theorem Flags.altered_union (f : Flags) : (Flags.union f { altered := true }).altered = true := by
  simp [Flags.union]

/-- Settles O27: the two outcomes of an expired patience. -/
theorem patienceTurnsTheHead : Obligations.PatienceTurnsTheHead := by
  intro s r rt hr ht hh hg ho hd
  have hstart : s.patienceStart = if 0 < s.boot.prof.patience then some (s.boot.prof.patience * 100) else none := by
    simp [State.patienceStart, hd]
  have hdo : s.doPatienceExpiry = State.settle (if rt.alternate = true ∧ s.canTurnTo (DownPort.other rt.port) = true
      ∧ s.atGate r = false then s.reResolve r rt else { s with ex := { s.ex with patience := s.patienceStart } }) := by
    unfold State.doPatienceExpiry
    rw [ht, hh, hg]
    simp only [expired_some_zero, ho, beq_self_eq_true, Bool.true_and, Bool.and_eq_true, Bool.not_eq_true', and_assoc]
    split <;> rfl
  by_cases hc : rt.alternate = true ∧ s.canTurnTo (DownPort.other rt.port) = true ∧ s.atGate r = false
  · rw [if_pos hc] at hdo
    have hflag (q : Rec) : (Flags.union q.flags { altered := true }).altered = true := Flags.altered_union _
    have hex : (s.reResolve r rt).ex = { s.ex with resend := none, patience := none } := by
      have : (s.reResolve r rt).ex = s.withdrawHead.ex := rfl
      rw [this, State.withdrawHead_of_offered hh ho]
      exact s.ex_sendWithdraw r
    refine ⟨s.reResolve r rt, by rw [exec_patienceExpiry_eq, live_of_runs hr, hdo], fun _ _ _ => ⟨rfl, ?_, ?_, ?_, ?_⟩,
      fun hn => ?_, State.get_reResolve rt (b := .cu) (by decide) (by decide) (by decide) (by decide) (by decide),
      State.get_reResolve rt (b := .eyes) (by decide) (by decide) (by decide) (by decide) (by decide),
      State.get_reResolve rt (b := .marks) (by decide) (by decide) (by decide) (by decide) (by decide)⟩
    · rw [State.track_reResolve rt hh ho]
      have hm := State.mem_updRec s Rec.withdrawn (State.mem_of_head hh).1
      have hm' := State.mem_updRec (s.updRec r.id Rec.withdrawn) (fun q : Rec =>
        { q with flags := Flags.union q.flags { altered := true },
                 localFlags := Flags.union q.localFlags { altered := true } }) (show r.withdrawn ∈ _ from hm)
      exact ⟨_, hm', rfl, rfl, hflag r.withdrawn, rfl, rfl⟩
    · rw [hex]
    · rw [hex]
    · intro p n hp hn room
      have hl : (s.reResolve r rt).line = (s.sendWithdraw r).line := by
        have : (s.reResolve r rt).line = s.withdrawHead.line := rfl
        rw [this, State.withdrawHead_of_offered hh ho]
        rfl
      refine State.Sends.congr ?_ hl
      rw [State.sendWithdraw_of_serial hp hn]
      exact State.sends_sendPrompt _ _ (show State.HasRoom { s with ex := _ } from room)
    · obtain ⟨ha, hct, hat⟩ := hc
      simp [ha, hct, hat] at hn
  · rw [if_neg hc, hstart] at hdo
    exact ⟨_, by rw [exec_patienceExpiry_eq, live_of_runs hr, hdo], fun ha hct hat => absurd ⟨ha, hct, hat⟩ hc,
      fun _ => rfl, rfl, rfl, rfl⟩

/-! ### Lapsed slots -/

section
variable {s : State}

/-- The state in which a lapsed slot has become FREE and its rack is missed (R107). -/
def State.slotLapsed (s : State) (m : SlotName) (x : Slot) : State :=
  State.raise (s.setSlot m none) .expectedMissing x.image.number.val

theorem State.doSlotArrivalExpiry_of_due {m : SlotName} {x : Slot} (h : s.arrivalDue = some (m, x)) :
    s.doSlotArrivalExpiry = (s.slotLapsed m x).settle := by
  unfold State.doSlotArrivalExpiry
  rw [h]
  rfl

theorem State.doSlotArrivalExpiry_of_not_past (h : ∀ m, s.arrivalPast m = none) : s.doSlotArrivalExpiry = s := by
  have hd : s.arrivalDue = none := by simp [State.arrivalDue, h]
  unfold State.doSlotArrivalExpiry
  rw [hd]

theorem State.arrivalPast_of_pending (h : s.eyes.entry.pendingLead = true) (m : SlotName) : s.arrivalPast m = none := by
  unfold State.arrivalPast
  split
  · simp [h]
  · rfl

theorem State.arrivalPast_of_short {m : SlotName}
    (h : ∀ x, s.slot m = some x → x.landing = none → travel x.takenAt s.cu.count ≤ s.boot.cts.arrival) :
    s.arrivalPast m = none := by
  refine Option.eq_none_iff_forall_ne_some.2 fun x hx => ?_
  obtain ⟨hslot, -, hl, ht⟩ := (State.arrivalPast_eq_some _ _ _).1 hx
  exact Nat.not_lt.2 (h x hslot hl) ht

theorem SlotName.eq_of_other_ne {x y : SlotName} (h : (if x = .a then SlotName.b else .a) ≠ y) : x = y := by
  cases x <;> cases y <;> first | rfl | exact absurd rfl h

/-- The one slot that the last edge found past its allowance is the one that lapses. -/
theorem State.arrivalDue_of_past {m : SlotName} {x : Slot} (hp : s.arrivalPast m = some x) (hf : .arrival m ∈ s.found)
    (ho : ∀ k, k ≠ m → s.arrivalPast k = none) : s.arrivalDue = some (m, x) := by
  have hm : (if s.found.contains (.arrival m) then (s.arrivalPast m).map fun x => (m, x) else none) = some (m, x) := by
    rw [if_pos (List.contains_iff_mem.2 hf), hp]
    rfl
  have hother (k : SlotName) (hk : k ≠ m) :
      (if s.found.contains (.arrival k) then (s.arrivalPast k).map fun x => (k, x) else none) = none := by
    rw [ho k hk]
    exact ite_self _
  unfold State.arrivalDue
  dsimp only
  by_cases hold : (if s.en.newest = .a then SlotName.b else SlotName.a) = m
  · rw [hold, hm]
  · rw [hother _ hold]
    rw [SlotName.eq_of_other_ne hold]
    exact hm

end

/-- Settles O31: the due slot is the lapsed one, and without one nothing expires. -/
theorem lapsedSlotIsFreed : Obligations.LapsedSlotIsFreed := by
  refine ⟨fun s m x hr hp hs hl hf ht ho => ?_, fun s hr hp => ?_, fun s hr h => ?_⟩
  · have hdue := State.arrivalDue_of_past ((State.arrivalPast_eq_some _ _ _).2 ⟨hs, hp, hl, ht⟩) hf fun k hk =>
      State.arrivalPast_of_short fun y hy hyl => ho k y hk hy hyl
    have key {b : Block} (h : b ≠ .en) (h₁ : b ≠ .att) (h₂ : b ≠ .line) : (s.slotLapsed m x).get b = s.get b :=
      (State.get_raise _ _ _ h₁ h₂).trans (State.get_setSlot _ _ _ h)
    have hen : (s.slotLapsed m x).en = (s.setSlot m none).en := State.get_raise (b := .en) _ _ _ (by decide) (by decide)
    have hslot (k : SlotName) : (s.slotLapsed m x).slot k = (s.setSlot m none).slot k := by
      cases k <;> simp only [State.slot, hen]
    refine ⟨s.slotLapsed m x, ?_, ?_, fun k hk => ?_, ?_, ?_, key (b := .track) (by decide) (by decide) (by decide),
      key (b := .dr) (by decide) (by decide) (by decide), key (b := .ex) (by decide) (by decide) (by decide),
          key (b := .cu) (by decide) (by decide) (by decide), ?_⟩
    · rw [exec_slotArrivalExpiry_eq, live_of_runs hr, State.doSlotArrivalExpiry_of_due hdue]
    · rw [hslot, State.slot_setSlot_self]
    · rw [hslot, State.slot_setSlot_other _ _ hk]
    · rw [State.slotLapsed, State.cause_raise, if_pos rfl]
    · rw [State.slotLapsed, State.cause_raise, if_pos rfl]
    · rw [hen]
      cases m <;> rfl
  · rw [exec_slotArrivalExpiry_eq]
    exact live_self (State.doSlotArrivalExpiry_of_not_past (State.arrivalPast_of_pending hp))
  · rw [exec_slotArrivalExpiry_eq]
    exact live_self (State.doSlotArrivalExpiry_of_not_past fun m => State.arrivalPast_of_short (h m))

/-! ### New TAKEs -/

theorem exec_entryReady_eq (s : State) : exec .entryReady s = live s s.doEntryReady := rfl

section
variable {s : State}

/-- A slot reserved for an offer, before TAKE goes out (R99, R110). -/
def State.reserve (s : State) (p : UpPort) (n : Serial) (i : Image) (rt : Option Route) (m : SlotName) : State :=
  let t := s.setSlot m (some { landing := none, port := p, serial := n, image := i, takenAt := s.cu.count, route := rt })
  let t := State.setNoted { t with en := { t.en with newest := m } } p none
  if s.hasRole .merge then { t with en := { t.en with lastGranted := p } } else t

section
variable (p : UpPort) (n : Serial) (i : Image) (rt : Option Route) {m : SlotName}

theorem State.get_reserve {b : Block} (h : b ≠ .en) : (s.reserve p n i rt m).get b = s.get b := by
  unfold State.reserve
  dsimp only
  split <;> simp [h]

theorem State.upStation_congr {t : State} (h : t.boot = s.boot) (q : UpPort) : t.upStation q = s.upStation q := by
  cases q <;> simp only [State.upStation, h]

theorem State.takeOffer_of_free (h : s.freeSlot = some m) :
    s.takeOffer p n i rt = (s.reserve p n i rt m).sendPrompt (s.upStation p) (.take n) := by
  have hup : State.upStation (s.reserve p n i rt m) p = s.upStation p :=
    State.upStation_congr (State.get_reserve (b := .boot) p n i rt (by decide)) p
  rw [← hup]
  unfold State.takeOffer
  rw [h]
  cases m <;> cases p <;> rfl

theorem State.en_reserve : (s.reserve p n i rt m).en =
    { ((s.setSlot m (some ⟨none, p, n, i, s.cu.count, rt⟩)).setNoted p none).en with
      newest := m, lastGranted := if s.hasRole .merge then p else s.en.lastGranted } := by
  unfold State.reserve
  dsimp only
  split <;> cases m <;> cases p <;> rfl

theorem State.en_takeOffer (h : s.freeSlot = some m) : (s.takeOffer p n i rt).en = (s.reserve p n i rt m).en := by
  rw [State.takeOffer_of_free p n i rt h]
  exact State.get_sendPrompt (b := .en) _ _ _ (by decide) (by decide)

theorem State.slot_takeOffer (h : s.freeSlot = some m) (k : SlotName) : (s.takeOffer p n i rt).slot k
    = if k = m then some ⟨none, p, n, i, s.cu.count, rt⟩ else s.slot k := by
  have hen := (State.en_takeOffer p n i rt h).trans (State.en_reserve p n i rt)
  cases k <;> simp only [State.slot, hen] <;> cases m <;> cases p <;> rfl

theorem State.noted_takeOffer (h : s.freeSlot = some m) (q : UpPort) : (s.takeOffer p n i rt).noted q
    = if q = p then none else s.noted q := by
  have hen := (State.en_takeOffer p n i rt h).trans (State.en_reserve p n i rt)
  cases q <;> simp only [State.noted, hen] <;> cases m <;> cases p <;> rfl

theorem State.slot_of_freeSlot (h : s.freeSlot = some m) : s.slot m = none := by
  unfold State.freeSlot at h
  split at h
  · obtain rfl := Option.some.inj h
    exact Option.isNone_iff_eq_none.1 ‹_›
  · split at h
    · exact absurd h.symm (Option.some_ne_none m)
    · split at h
      · obtain rfl := Option.some.inj h
        exact Option.isNone_iff_eq_none.1 ‹_›
      · exact absurd h.symm (Option.some_ne_none m)

theorem State.hasRoom_reserve (h : s.HasRoom) : (s.reserve p n i rt m).HasRoom := by
  obtain ⟨hq, hl⟩ := h
  have hboot : (s.reserve p n i rt m).boot = s.boot := State.get_reserve (b := .boot) p n i rt (by decide)
  have hline : (s.reserve p n i rt m).line = s.line := State.get_reserve (b := .line) p n i rt (by decide)
  refine ⟨?_, by rwa [hline]⟩
  unfold State.canQueue at hq ⊢
  rwa [hboot]

theorem State.sends_takeOffer (h : s.freeSlot = some m) (room : s.HasRoom) :
    (s.takeOffer p n i rt).Sends ⟨s.upStation p, .take n⟩ := by
  rw [State.takeOffer_of_free p n i rt h]
  exact State.sends_sendPrompt _ _ (State.hasRoom_reserve p n i rt room)

end

/-- A ready noted offer has a free slot to go to. -/
theorem State.freeSlot_of_entryReady {p : UpPort} {rt : Option Route} (h : s.entryReady p rt = true) :
    ∃ m, s.freeSlot = some m := by
  simp only [State.entryReady, State.entryOpenFor, Bool.and_eq_true] at h
  obtain ⟨⟨⟨⟨⟨⟨⟨⟨⟨-, hf⟩, -⟩, -⟩, -⟩, -⟩, -⟩, -⟩, -⟩, -⟩ := h
  exact Option.isSome_iff_exists.1 hf

theorem State.takeNoted_of_ready {p : UpPort} {q : Noted} (hq : s.noted p = some q) (hr : s.entryReady p q.route = true) :
    s.takeNoted p = s.takeOffer p q.serial q.image q.route ∧ (s.readyNoted p).isSome = true := by
  have : s.readyNoted p = some q := by
    unfold State.readyNoted
    rw [hq]
    exact if_pos hr
  unfold State.takeNoted
  rw [this]
  exact ⟨rfl, rfl⟩

theorem State.takeNoted_of_not_ready {p : UpPort} (h : ∀ q, s.noted p = some q → s.entryReady p q.route = false) :
    s.takeNoted p = s := by
  have : s.readyNoted p = none := by
    unfold State.readyNoted
    split
    · rename_i q hq
      rw [h q hq]
      rfl
    · rfl
  unfold State.takeNoted
  rw [this]

/-- What taking a noted offer leaves: a slot that is held, the other port's record, and the frames on their way. -/
theorem State.takeNoted_leaves (s : State) (p : UpPort) :
    (∀ m x, s.slot m = some x → (s.takeNoted p).slot m = some x)
    ∧ (∀ q, q ≠ p → (s.takeNoted p).noted q = s.noted q)
    ∧ (∀ d n, s.Sends ⟨d, .take n⟩ → (s.takeNoted p).Sends ⟨d, .take n⟩) := by
  unfold State.takeNoted
  split
  · exact ⟨fun _ _ h => h, fun _ _ => rfl, fun _ _ h => h⟩
  · rename_i y hy
    cases hf : s.freeSlot with
    | none =>
      have : s.takeOffer p y.serial y.image y.route = s := by
        unfold State.takeOffer
        rw [hf]
      rw [this]
      exact ⟨fun _ _ h => h, fun _ _ => rfl, fun _ _ h => h⟩
    | some k =>
      refine ⟨fun m x hx => ?_, fun q hq => ?_, fun d n h => ?_⟩
      · rw [State.slot_takeOffer _ _ _ _ hf, if_neg, hx]
        rintro rfl
        exact Option.some_ne_none x (hx.symm.trans (State.slot_of_freeSlot hf))
      · rw [State.noted_takeOffer _ _ _ _ hf, if_neg hq]
      · exact (s.takeOffer_derives _ _ _ _).sends _ ⟨rfl, rfl⟩ h

theorem State.freeSlot_of_merge (hr : s.hasRole .merge = true) {m : SlotName} (h : s.freeSlot = some m) : m = .a := by
  unfold State.freeSlot at h
  split at h
  · exact (Option.some.inj h).symm
  · rw [hr] at h
    exact absurd h.symm (Option.some_ne_none m)

/-- At a MERGE one slot is used, and the port that has taken it leaves none for the other (R95, R111). -/
theorem State.takeNoted_after_grant (hr : s.hasRole .merge = true) (ha : s.en.slotA.isSome = true) (p : UpPort) :
    s.takeNoted p = s := by
  refine State.takeNoted_of_not_ready fun q _ => ?_
  by_contra hready
  obtain ⟨m, hm⟩ := State.freeSlot_of_entryReady (Bool.not_eq_false _ ▸ hready)
  obtain rfl := State.freeSlot_of_merge hr hm
  have : s.slot .a = none := State.slot_of_freeSlot hm
  rw [State.slot] at this
  rw [this] at ha
  exact Bool.false_ne_true ha

/-- A port whose own readiness is not met by alternation waits (R110). -/
theorem State.takeNoted_of_other_turn (h : s.noted .u0 = none ∨ s.hasRole .merge = true ∧ s.en.lastGranted = .u0)
    {q : Noted} (hq : s.noted .u1 = some q) : s.takeNoted .u0 = s := by
  refine State.takeNoted_of_not_ready fun x hx => ?_
  obtain hn | ⟨hm, hl⟩ := h
  · exact absurd (hn.symm.trans hx) (Option.some_ne_none x).symm
  · have halt : s.alternation .u0 = false := by simp [State.alternation, hm, hl, hq, UpPort.other]
    simp [State.entryReady, halt]

end

/-- Settles O29: the reserved slot, and ENTRY_READY as the two ports' takings in their order. -/
theorem takeReservesAndReadinessTakes : Obligations.TakeReservesAndReadinessTakes := by
  refine ⟨fun s p n i rt m hm => ?_, fun s p q hr hq hready halt => ?_⟩
  · have hen := (State.en_takeOffer p n i rt hm).trans (State.en_reserve p n i rt)
    have hother : UpPort.other p ≠ p := by cases p <;> decide
    refine ⟨State.slot_of_freeSlot hm, ?_, ?_, ?_, ?_, fun hmerge => ?_, fun hmerge => ?_, fun room => ⟨?_, ?_⟩,
      s.get_takeOffer (b := .track) _ _ _ _ (by decide) (by decide) (by decide),
          s.get_takeOffer (b := .dr) _ _ _ _ (by decide) (by decide) (by decide),
      s.get_takeOffer (b := .ex) _ _ _ _ (by decide) (by decide) (by decide)⟩
    · rw [State.slot_takeOffer p n i rt hm, if_pos rfl]
    · rw [hen]
    · rw [State.noted_takeOffer p n i rt hm, if_pos rfl]
    · rw [State.noted_takeOffer p n i rt hm, if_neg hother]
    · rw [hen]
      exact if_pos hmerge
    · rw [hen]
      exact if_neg (by simp [hmerge])
    · exact State.sends_takeOffer p n i rt hm room
    · rw [State.takeOffer_of_free p n i rt hm, State.att_sendPrompt_of_room _ _ (State.hasRoom_reserve p n i rt room)]
      exact State.get_reserve (b := .att) p n i rt (by decide)
  · obtain ⟨m, hm⟩ := State.freeSlot_of_entryReady hready
    obtain ⟨htake, hsome⟩ := State.takeNoted_of_ready hq hready
    have hslot := State.slot_takeOffer p q.serial q.image q.route hm
    have hnoted := State.noted_takeOffer p q.serial q.image q.route hm
    have hother : UpPort.other p ≠ p := by cases p <;> decide
    have hlast (hmerge : s.hasRole .merge = true) : (s.takeOffer p q.serial q.image q.route).en.lastGranted = p := by
      rw [State.en_takeOffer _ _ _ _ hm, State.en_reserve]
      exact if_pos hmerge
    have hdo : s.doEntryReady = s.readyStep.settle := by
      unfold State.doEntryReady State.someReady
      refine if_pos ?_
      cases p with
      | u0 => rw [hsome, Bool.true_or]
      | u1 => rw [hsome, Bool.or_true]
    have rest {b : Block} (h : b ≠ .en) (h₁ : b ≠ .att) (h₂ : b ≠ .line) : s.readyStep.get b = s.get b :=
      State.get_readyStep _ h h₁ h₂
    refine ⟨s.readyStep, by rw [exec_entryReady_eq, live_of_runs hr, hdo], ?_⟩
    suffices h : (s.readyStep.slot m = some ⟨none, p, q.serial, q.image, s.cu.count, q.route⟩) ∧ s.readyStep.noted p = none
        ∧ (s.HasRoom → s.readyStep.Sends ⟨s.upStation p, .take q.serial⟩)
        ∧ (s.hasRole .merge = true → s.readyStep.en.lastGranted = p
          ∧ s.readyStep.noted (UpPort.other p) = s.noted (UpPort.other p)) by
      obtain ⟨h₁, h₂, h₃, h₄⟩ := h
      exact ⟨⟨m, hm, h₁⟩, h₂, h₃, h₄, rest (b := .track) (by decide) (by decide) (by decide),
          rest (b := .dr) (by decide) (by decide) (by decide),
        rest (b := .ex) (by decide) (by decide) (by decide), rest (b := .cu) (by decide) (by decide) (by decide)⟩
    unfold State.readyStep
    cases p with
    | u0 =>
      obtain ⟨hs, hn, hsend⟩ := (s.takeOffer .u0 q.serial q.image q.route).takeNoted_leaves .u1
      rw [htake]
      refine ⟨hs _ _ (by rw [hslot, if_pos rfl]), ?_, fun room => hsend _ _ (State.sends_takeOffer _ _ _ _ hm room),
        fun hmerge => ?_⟩
      · rw [hn _ (by decide), hnoted, if_pos rfl]
      · obtain rfl := State.freeSlot_of_merge hmerge hm
        have hrole : (s.takeOffer .u0 q.serial q.image q.route).hasRole .merge = true := by
          unfold State.hasRole at hmerge ⊢
          rwa [show (s.takeOffer .u0 q.serial q.image q.route).boot = s.boot from
            s.get_takeOffer (b := .boot) _ _ _ _ (by decide) (by decide) (by decide)]
        have ha : (s.takeOffer .u0 q.serial q.image q.route).en.slotA.isSome = true := by
          have := hslot .a
          rw [if_pos rfl] at this
          rw [show (s.takeOffer .u0 q.serial q.image q.route).en.slotA = _ from this]
          rfl
        rw [State.takeNoted_after_grant hrole ha]
        exact ⟨hlast hmerge, by rw [hnoted, if_neg hother]⟩
    | u1 =>
      rw [State.takeNoted_of_other_turn (halt rfl) hq, htake]
      exact ⟨by rw [hslot, if_pos rfl], by rw [hnoted, if_pos rfl], fun room => State.sends_takeOffer _ _ _ _ hm room,
        fun hmerge => ⟨hlast hmerge, by rw [hnoted, if_neg hother]⟩⟩

end Sys2Proof.Machine

/-! The entry-side table and the keys: O28, O36 and O37. -/

namespace Sys2Proof.Machine

/-! ### The entry-side table -/

theorem exec_offer_eq (s : State) (h : Hdr) (n : Serial) (i : Image) (l : Fin 65536) :
    exec (.offer h n i l) s = live s (s.receive h (.offer n i l)) := rfl

theorem exec_offer {s : State} {h : Hdr} (n : Serial) (i : Image) (l : Fin 65536) (hh : s.HearsAlone h) :
    exec (.offer h n i l) s = .next (State.settle (State.wake ((s.refresh h.src).onOffer h.src n i))) :=
  (exec_offer_eq s h n i l).trans (State.receive_handOff (fun t => t.onOffer h.src n i) hh fun _ => rfl)

section
variable {s : State} {p : UpPort} {n : Serial} {i : Image}

/-- REFUSE, the noted offer dropped (R96, row 6). -/
def State.refuseRestricted (s : State) (p : UpPort) (n : Serial) : State :=
  State.sendPrompt (s.setNoted p none) (s.upStation p) (.refuse n .restricted)

theorem State.onOffer_of_stranger {x : Station} (hm : s.boot.mode = .active) (hp : s.upPortOf x = none) :
    s.onOffer x n i = s.sendPrompt x (.refuse n .wrongPort) := by
  unfold State.onOffer
  rw [hm]
  dsimp only
  rw [hp]

theorem State.onOffer_of_upPort {x : Station} (hm : s.boot.mode = .active) (hp : s.upPortOf x = some p) :
    s.onOffer x n i = s.answerOffer p n i := by
  unfold State.onOffer
  rw [hm]
  dsimp only
  rw [hp]

theorem State.answerOffer_of_held {m : SlotName} {x : Slot} (h : s.slotHolding p n = some (m, x)) :
    s.answerOffer p n i = State.sendPrompt (s.setSlot m (some { x with image := i })) (s.upStation p) (.take n) := by
  unfold State.answerOffer
  rw [h]

theorem State.notedAs_of_serial {q : Noted} (hq : s.noted p = some q) (hn : q.serial = n) : s.notedAs p n = some q := by
  unfold State.notedAs
  rw [hq]
  exact if_pos hn

theorem State.notedAs_of_other (h : ∀ q, s.noted p = some q → q.serial ≠ n) : s.notedAs p n = none := by
  unfold State.notedAs
  split
  · rename_i q hq
    exact if_neg (h q hq)
  · rfl

/-- The answer to an offer whose serial is noted already (R96, rows 5 to 7). -/
theorem State.answerOffer_of_noted {q : Noted} (hs : s.slotHolding p n = none) (hq : s.notedAs p n = some q) :
    s.answerOffer p n i = if s.entryReady p q.route then
        (if 2 ≤ s.att.level then s.refuseRestricted p n else s.takeOffer p n i q.route)
      else s.noteOffer p n i q.route := by
  unfold State.answerOffer
  rw [hs]
  dsimp only
  rw [hq]
  dsimp only
  cases s.entryReady p q.route <;> rfl

/-- The answer to an offer of a new serial (R96, rows 6 to 8). -/
theorem State.answerOffer_of_new (hs : s.slotHolding p n = none) (hq : s.notedAs p n = none) :
    s.answerOffer p n i = if 2 ≤ s.att.level then s.refuseRestricted p n
      else if (s.offerRoute none i).1.entryReady p (s.offerRoute none i).2
        then (s.offerRoute none i).1.takeOffer p n i (s.offerRoute none i).2
        else (s.offerRoute none i).1.noteOffer p n i (s.offerRoute none i).2 := by
  unfold State.answerOffer
  rw [hs]
  dsimp only
  rw [hq]
  rfl

theorem State.offerRoute_of_not_divert (h : s.hasRole .divert = false) : s.offerRoute none i = (s, none) := by
  unfold State.offerRoute
  rw [h]
  rfl

theorem State.offerRoute_of_divert (h : s.hasRole .divert = true) :
    s.offerRoute none i = ((s.resolve i.cls).1, some (s.resolve i.cls).2) := by
  unfold State.offerRoute
  rw [if_pos h]

theorem Noted.with_serial {q : Noted} (h : q.serial = n) : ({ q with image := i } : Noted) = ⟨n, i, q.route⟩ := by
  rw [← h]

end

/-- Settles O28: each row of the table by the branch of the answer it names. -/
theorem offerAnsweredByTheRows : Obligations.OfferAnsweredByTheRows := by
  intro s h n i len hh v
  have hmode : v.boot.mode = s.boot.mode := by rw [s.boot_refresh]
  have hup (p : UpPort) : v.upStation p = s.upStation p := State.upStation_congr (s.boot_refresh _) p
  have hnoted (p : UpPort) : v.noted p = s.noted p := State.noted_refresh _ _ _
  refine ⟨_, exec_offer n i len hh, fun hm => ?_, fun hm => ?_, fun hm hp => ?_, fun p hm hp => ?_⟩
  · unfold State.onOffer
    rw [show (s.refresh h.src).boot.mode = .scanning from hmode.trans hm]
  · unfold State.onOffer
    rw [show (s.refresh h.src).boot.mode = .unset from hmode.trans hm]
  · exact State.onOffer_of_stranger (hmode.trans hm) ((State.upPortOf_refresh _ _ _).trans hp)
  · rw [State.onOffer_of_upPort (hmode.trans hm) ((State.upPortOf_refresh _ _ _).trans hp), ← hup p]
    have hold : v.slotHolding p n = s.slotHolding p n := State.slotHolding_refresh _ _ _ _
    refine ⟨fun m x hx => State.answerOffer_of_held (hold.trans hx), fun hs => ?_⟩
    have hs' : v.slotHolding p n = none := hold.trans hs
    have note (q : Noted) (hq : s.noted p = some q) (hn : q.serial = n) : v.notedAs p n = some q :=
      State.notedAs_of_serial ((hnoted p).trans hq) hn
    have new (hq : ∀ q, s.noted p = some q → q.serial ≠ n) : v.notedAs p n = none :=
      State.notedAs_of_other fun q h => hq q ((hnoted p).symm.trans h)
    refine ⟨fun q hq hn hr => ?_, fun hl hq => ?_, fun q hq hn hr hl => ?_, fun hl hd => ⟨fun hr hq => ?_, fun hr hq => ?_⟩,
      fun hl hd hq => ?_⟩
    · rw [State.answerOffer_of_noted hs' (note q hq hn), hr, if_neg Bool.false_ne_true, Noted.with_serial hn]
      rfl
    · cases hc : v.notedAs p n with
      | none => rw [State.answerOffer_of_new hs' hc, if_pos hl]; rfl
      | some q =>
        have hc' : ∃ y, s.noted p = some y ∧ y = q ∧ y.serial = n := by
          unfold State.notedAs at hc
          rw [hnoted p] at hc
          split at hc
          · rename_i y hy
            split at hc
            · exact ⟨y, hy, Option.some.inj hc, ‹_›⟩
            · exact absurd hc.symm (Option.some_ne_none q)
          · exact absurd hc.symm (Option.some_ne_none q)
        obtain ⟨y, hy, rfl, hn⟩ := hc'
        rw [State.answerOffer_of_noted hs' hc, hq y hy hn, if_pos rfl, if_pos hl]
        rfl
    · rw [State.answerOffer_of_noted hs' (note q hq hn), hr, if_pos rfl, if_neg (not_le.2 hl)]
    · cases hc : s.noted p with
      | none =>
        rw [State.answerOffer_of_new hs' (new fun q hq' => absurd (hc.symm.trans hq') (Option.some_ne_none q).symm),
          if_neg (not_le.2 hl), State.offerRoute_of_not_divert ((State.hasRole_refresh _ _ _).trans hd)]
        exact if_pos hr
      | some q =>
        by_cases hn : q.serial = n
        · rw [State.answerOffer_of_noted hs' (note q hc hn), hq q hc, hr, if_pos rfl,
            if_neg (not_le.2 hl)]
        · rw [State.answerOffer_of_new hs' (new fun y hy => by rwa [← Option.some.inj (hc.symm.trans hy)]),
            if_neg (not_le.2 hl), State.offerRoute_of_not_divert ((State.hasRole_refresh _ _ _).trans hd)]
          exact if_pos hr
    · rw [State.answerOffer_of_new hs' (new hq), if_neg (not_le.2 hl),
        State.offerRoute_of_not_divert ((State.hasRole_refresh _ _ _).trans hd)]
      exact if_neg (by rw [hr]; exact Bool.false_ne_true)
    · refine ⟨(v.resolve i.cls).1, (v.resolve i.cls).2, rfl, ?_⟩
      rw [State.answerOffer_of_new hs' (new hq), if_neg (not_le.2 hl),
        State.offerRoute_of_divert ((State.hasRole_refresh _ _ _).trans hd)]
      have hw : (v.resolve i.cls).1.upStation p = v.upStation p :=
        State.upStation_congr (v.get_resolve (b := .boot) _ (by decide) (by decide) (by decide)) p
      rw [← hw]
      rfl

end Sys2Proof.Machine

/-! The keys of the bay: O36 and O37. -/

namespace Sys2Proof.Machine

theorem exec_classKeyPress_eq (s : State) (n : RackClass) : exec (.classKeyPress n) s = live s (s.doClassKeyPress n) := rfl
theorem exec_keyRelease_eq (s : State) (k : OpKey) : exec (.keyRelease k) s = live s (s.doKeyRelease k) := rfl
theorem exec_sendKeyPress_eq (s : State) : exec .sendKeyPress s = live s s.doSendKeyPress := rfl
theorem exec_emptyKeyPress_eq (s : State) : exec .emptyKeyPress s = live s s.doEmptyKeyPress := rfl

/-- A recognised press. -/
theorem KeySt.recognise_of_pressDue {k : KeySt} (h : k.pressDue = true) : k.recognise = { k with pressed := some true } := by
  simp only [KeySt.pressDue, Bool.and_eq_true] at h
  obtain ⟨⟨-, hc⟩, -⟩ := h
  rw [KeySt.recognise, hc]

/-- What a press does to the key: a due one is recognised. -/
def KeySt.press (k : KeySt) : KeySt := if k.pressDue then k.recognise else k

theorem KeySt.pressed_press (k : KeySt) : k.press.pressed = if k.pressDue then some true else k.pressed := by
  unfold KeySt.press
  split
  · rw [KeySt.recognise_of_pressDue ‹_›]
  · rfl

section
variable {s : State}

theorem State.pressWakes_of_active (h : s.boot.mode = .active) : s.pressWakes = s.wake := if_pos h

theorem State.get_pressWakes {b : Block} (h : b ≠ .dr) (h₁ : b ≠ .att) (h₂ : b ≠ .line) (h₃ : b ≠ .en) (h₄ : b ≠ .idle) :
    s.pressWakes.get b = s.get b := by
  unfold State.pressWakes
  split
  · exact State.get_wake _ h h₁ h₂ h₃ h₄
  · rfl

theorem State.kept_pressWakes (s : State) : s.pressWakes.kept = s.kept := by
  unfold State.pressWakes
  split
  · exact State.kept_wake _
  · rfl

/-- One class key alone is due exactly where it is the list of the due ones (R124). -/
theorem State.classDue_eq_singleton {n : RackClass} (hn : (s.classKey n).pressDue = true) :
    s.classDue = [n] ↔ ∀ m, m ≠ n → (s.classKey m).pressDue = false := by
  have hmem (m : RackClass) : m ∈ s.classDue ↔ (s.classKey m).pressDue = true := by simp [State.classDue]
  constructor
  · intro h m hm
    have := (hmem m).not.1 (by rw [h]; simpa using hm)
    simpa using this
  · intro h
    have hnd : s.classDue.Nodup := (List.nodup_finRange 16).filter _
    refine List.perm_singleton.1 ((List.perm_ext_iff_of_nodup hnd (List.nodup_singleton n)).2 fun m => ?_)
    rw [hmem, List.mem_singleton]
    refine ⟨fun hm => ?_, fun hm => hm ▸ hn⟩
    by_contra hne
    rw [h m hne] at hm
    exact Bool.false_ne_true hm

/-- The state after a class key's press, before a wake (R124). -/
def State.classPressed (s : State) (n : RackClass) : State :=
  { s with bay := { s.bay with
      classKeys := s.bay.classKeys.map KeySt.press
      selected := if s.boot.mode == .active && s.classDue == [n] then some n else s.bay.selected } }

theorem State.doClassKeyPress_of_due {n : RackClass} (h : (s.classKey n).pressDue = true) :
    s.doClassKeyPress n = (s.classPressed n).pressWakes.settle := by
  unfold State.doClassKeyPress
  exact if_pos h

theorem State.classKey_classPressed (n m : RackClass) : (s.classPressed n).classKey m = (s.classKey m).press := by
  have hd : KeySt.press {} = {} := rfl
  show (s.bay.classKeys.map KeySt.press).getD m.val {} = (s.bay.classKeys.getD m.val {}).press
  conv_lhs => rw [← hd]
  exact List.getD_map _ _ _

theorem State.classKey_of_kept {t : State} (h : t.kept = s.kept) (m : RackClass) : t.classKey m = s.classKey m := by
  unfold State.classKey
  rw [State.kept_classKeys_eq _ _ h]

/-- A key whose release is due stands in the list of keys. -/
theorem State.classKey_lt {n : RackClass} (h : (s.classKey n).releaseDue = true) : n.val < s.bay.classKeys.length := by
  by_contra hn
  have : s.classKey n = {} := List.getD_eq_default _ _ (Nat.not_lt.1 hn)
  rw [this] at h
  exact absurd h (by decide)

end

/-- Settles O36: the pins of the matrix, the one key that selects, and the releases. -/
theorem classKeysSelectOneClass : Obligations.ClassKeysSelectOneClass := by
  refine ⟨fun s hb row k => ?_, fun p n => ?_, fun s n hr hm hn => ?_, fun s n hr hn => ?_, fun s hr hn => ?_,
    fun s hr hn => ?_⟩
  · rw [State.ksPin, if_pos hb, decide_eq_true_eq]
  · exact ⟨PinSample.position_eq p n, rfl⟩
  · have hkept : (s.classPressed n).pressWakes.settle.kept = (s.classPressed n).kept :=
      (State.kept_settle _).trans (State.kept_pressWakes _)
    have hsel : (s.classPressed n).pressWakes.settle.bay.selected
        = if s.boot.mode == .active && s.classDue == [n] then some n else s.bay.selected :=
      State.kept_selected_eq _ _ hkept
    have hone (h : ∀ m, m ≠ n → (s.classKey m).pressDue = false) :
        (s.boot.mode == .active && s.classDue == [n]) = true := by
      rw [hm, (State.classDue_eq_singleton hn).2 h]
      simp
    have hnone (h : ∃ m, m ≠ n ∧ (s.classKey m).pressDue = true) :
        (s.boot.mode == .active && s.classDue == [n]) = false := by
      obtain ⟨m, hne, hd⟩ := h
      have : s.classDue ≠ [n] := fun he =>
        Bool.false_ne_true (((State.classDue_eq_singleton hn).1 he m hne).symm.trans hd)
      simp [this]
    refine ⟨_, by rw [exec_classKeyPress_eq, live_of_runs hr, State.doClassKeyPress_of_due hn], fun h => ?_, fun h => ?_,
      fun m => ?_, ?_, ?_⟩
    · rw [hsel, hone h, if_pos rfl]
    · rw [hsel, hnone h, if_neg Bool.false_ne_true]
    · rw [State.classKey_of_kept hkept, State.classKey_classPressed, KeySt.pressed_press]
    · exact (State.kept_track_eq (s.classPressed n) _ hkept :)
    · exact (State.kept_cu_eq (s.classPressed n) _ hkept :)
  · have hlt := State.classKey_lt hn
    refine ⟨_, by rw [exec_keyRelease_eq, live_of_runs hr], ?_⟩
    have hdo : s.doKeyRelease (.cls n) = { s with bay := { s.bay with
        classKeys := s.bay.classKeys.modify n.val KeySt.recognise } } := if_pos hn
    rw [hdo]
    have hget (m : RackClass) : State.classKey { s with bay := { s.bay with
        classKeys := s.bay.classKeys.modify n.val KeySt.recognise } } m
          = if m = n then (s.classKey n).recognise else s.classKey m := by
      show (s.bay.classKeys.modify n.val KeySt.recognise).getD m.val {} = _
      simp only [State.classKey, List.getD_eq_getElem?_getD, List.getElem?_modify]
      by_cases hmn : m = n
      · subst hmn
        simp [List.getElem?_eq_getElem hlt]
      · have hv : n.val ≠ m.val := fun h => hmn (Fin.ext h.symm)
        simp [hmn, hv]
    refine ⟨?_, fun m hm => ?_, rfl, rfl⟩
    · rw [hget, if_pos rfl, KeySt.recognise_of_releaseDue hn]
    · rw [hget, if_neg hm]
  · rw [exec_keyRelease_eq, live_of_runs hr]
    show Host.Outcome.next (if s.bay.sendKey.releaseDue then _ else s) = _
    rw [if_pos hn, KeySt.recognise_of_releaseDue hn]
  · rw [exec_keyRelease_eq, live_of_runs hr]
    show Host.Outcome.next (if s.bay.emptyKey.releaseDue then _ else s) = _
    rw [if_pos hn, KeySt.recognise_of_releaseDue hn]

/-! ### SEND and EMPTY -/

section
variable {s : State}

theorem State.mem_of_atBayRec {r : Rec} (h : s.atBayRec = some r) : r ∈ s.track ∧ r.state = .atBay := by
  have hp := List.find?_some h
  exact ⟨List.mem_of_find?_eq_some h, beq_iff_eq.1 hp⟩

/-- The SEND key recognised. -/
def State.sendRecognised (s : State) : State := { s with bay := { s.bay with sendKey := s.bay.sendKey.recognise } }

/-- The EMPTY key recognised. -/
def State.emptyRecognised (s : State) : State := { s with bay := { s.bay with emptyKey := s.bay.emptyKey.recognise } }

theorem State.doSendKeyPress_of_due (hm : s.boot.mode = .active) (hs : s.bay.sendKey.pressDue = true)
    (he : s.bay.emptyKey.pressDue = false) : s.doSendKeyPress = s.sendRecognised.sendPressed.pressWakes.settle := by
  unfold State.doSendKeyPress
  rw [if_pos hs, he, if_neg Bool.false_ne_true]
  exact congrArg State.settle (if_pos hm)

theorem State.doEmptyKeyPress_of_due (hm : s.boot.mode = .active) (he : s.bay.emptyKey.pressDue = true)
    (hs : s.bay.sendKey.pressDue = false) : s.doEmptyKeyPress = s.emptyRecognised.emptyPressed.pressWakes.settle := by
  unfold State.doEmptyKeyPress
  rw [if_pos he, hs, if_neg Bool.false_ne_true]
  exact congrArg State.settle (if_pos hm)

theorem State.get_sendPressed {b : Block} (h : b ≠ .track) (h' : b ≠ .bay) : s.sendPressed.get b = s.get b := by
  unfold State.sendPressed
  split
  · split
    · rfl
    · extract_lets t src u
      have hu : u.get b = s.get b := by cases b <;> first | rfl | exact absurd rfl h | exact absurd rfl h'
      split
      · exact (State.get_updRec _ _ _ h).trans hu
      · exact hu
  · rfl

theorem State.get_emptyPressed {b : Block} (h : b ≠ .track) (h' : b ≠ .bay) : s.emptyPressed.get b = s.get b := by
  unfold State.emptyPressed State.setReleased
  split
  · rfl
  · split
    · cases b <;> first | rfl | exact absurd rfl h | exact absurd rfl h'
    · split
      · exact State.get_updRec _ _ _ h
      · rfl

/-- SEND with a rack at the bay and a class selected (R127). -/
theorem State.sendPressed_of_class {r : Rec} {c : RackClass} (hr : s.atBayRec = some r) (hc : s.bay.selected = some c)
    (hne : c ≠ classEmpty) : s.sendPressed.bay = { s.bay with released := true, selected := none }
      ∧ ({ r with cls := if c = classUnknown then classMixed else c
                  origin := if s.hasRole .load then s.boot.station.getD 0 else r.origin } : Rec) ∈ s.sendPressed.track := by
  obtain ⟨hm, -⟩ := State.mem_of_atBayRec hr
  unfold State.sendPressed
  rw [hr, hc]
  dsimp only
  rw [if_neg hne]
  have hrole : State.hasRole { s.setReleased r (if c = classUnknown then classMixed else c) with
      bay := { (s.setReleased r (if c = classUnknown then classMixed else c)).bay with selected := none } } .load
        = s.hasRole .load := rfl
  rw [hrole]
  have h₁ := State.mem_updRec s (fun q => { q with cls := if c = classUnknown then classMixed else c }) hm
  split
  · refine ⟨rfl, ?_⟩
    exact State.mem_updRec (s.updRec r.id fun q => { q with cls := if c = classUnknown then classMixed else c })
      (fun q => { q with origin := s.boot.station.getD 0 }) (show ({ r with cls := _ } : Rec) ∈ _ from h₁)
  · exact ⟨rfl, h₁⟩

theorem State.sendPressed_of_nothing (h : s.atBayRec = none ∨ s.bay.selected = none ∨ s.bay.selected = some classEmpty) :
    s.sendPressed = s := by
  unfold State.sendPressed
  split
  · rename_i r c hr hc
    obtain h | h | h := h
    · exact absurd (h.symm.trans hr).symm (Option.some_ne_none r)
    · exact absurd (h.symm.trans hc).symm (Option.some_ne_none c)
    · exact if_pos (Option.some.inj (hc.symm.trans h))
  · rfl

theorem State.emptyPressed_of_unload {r : Rec} (hr : s.atBayRec = some r) (hu : s.hasRole .unload = true) :
    s.emptyPressed = s.setReleased r classEmpty := by
  unfold State.emptyPressed
  rw [hr]
  exact if_pos hu

theorem State.emptyPressed_of_load {r : Rec} (hr : s.atBayRec = some r) (hu : s.hasRole .unload = false) :
    s.emptyPressed = if r.cls = classUnknown then s.updRec r.id fun q => { q with cls := classEmpty } else s := by
  unfold State.emptyPressed
  rw [hr]
  dsimp only
  rw [hu, if_neg Bool.false_ne_true]

theorem State.emptyPressed_of_none (hr : s.atBayRec = none) : s.emptyPressed = s := by
  unfold State.emptyPressed
  rw [hr]

end

/-- Settles O37: each key by what stands at the bay. -/
theorem sendAndEmptyKeysSetTheClass : Obligations.SendAndEmptyKeysSetTheClass := by
  have wk (t : State) {b : Block} (h₀ : b ≠ .dr) (h₁ : b ≠ .att) (h₂ : b ≠ .line) (h₃ : b ≠ .en) (h₄ : b ≠ .idle) :
      t.pressWakes.get b = t.get b := State.get_pressWakes h₀ h₁ h₂ h₃ h₄
  refine ⟨fun s hr hm hs he => ?_, fun s hr hm he hs => ?_⟩
  · have hbay : s.sendRecognised.sendPressed.pressWakes.bay = s.sendRecognised.sendPressed.bay :=
      wk _ (b := .bay) (by decide) (by decide) (by decide) (by decide) (by decide)
    have htrack : s.sendRecognised.sendPressed.pressWakes.track = s.sendRecognised.sendPressed.track :=
      wk _ (b := .track) (by decide) (by decide) (by decide) (by decide) (by decide)
    have hkey : s.bay.sendKey.recognise = { s.bay.sendKey with pressed := some true } := KeySt.recognise_of_pressDue hs
    have rest {b : Block} (h₀ : b ≠ .dr) (h₁ : b ≠ .att) (h₂ : b ≠ .line) (h₃ : b ≠ .en) (h₄ : b ≠ .idle)
        (h₅ : b ≠ .track) (h₆ : b ≠ .bay) : s.sendRecognised.sendPressed.pressWakes.get b = s.get b :=
      (wk _ h₀ h₁ h₂ h₃ h₄).trans ((State.get_sendPressed h₅ h₆).trans (State.get_bay _ _ h₆))
    refine ⟨_, by rw [exec_sendKeyPress_eq, live_of_runs hr, State.doSendKeyPress_of_due hm hs he], ?_,
      fun r c hr hc hne => ?_, fun hn => ?_, rest (b := .ex) (by decide) (by decide) (by decide)
          (by decide) (by decide) (by decide) (by decide),
      rest (b := .eyes) (by decide) (by decide) (by decide) (by decide) (by decide) (by decide) (by decide),
      rest (b := .cu) (by decide) (by decide) (by decide) (by decide) (by decide) (by decide) (by decide)⟩
    · rw [hbay, ← hkey]
      cases hr' : s.sendRecognised.atBayRec with
      | none => rw [State.sendPressed_of_nothing (.inl hr')]; rfl
      | some r =>
        by_cases hc : s.sendRecognised.bay.selected = none ∨ s.sendRecognised.bay.selected = some classEmpty
        · rw [State.sendPressed_of_nothing (.inr hc)]; rfl
        · obtain ⟨c, hc'⟩ := Option.ne_none_iff_exists'.1 fun h => hc (.inl h)
          have hne : c ≠ classEmpty := fun h => hc (.inr (hc'.trans (congrArg some h)))
          rw [(State.sendPressed_of_class hr' hc' hne).1]
          rfl
    · obtain ⟨hb, hq⟩ := State.sendPressed_of_class (s := s.sendRecognised) hr hc hne
      obtain ⟨-, hstate⟩ := State.mem_of_atBayRec hr
      rw [hbay, hb, htrack]
      exact ⟨rfl, rfl, _, hq, rfl, rfl, rfl, hstate, rfl, rfl⟩
    · rw [hbay, htrack, State.sendPressed_of_nothing (s := s.sendRecognised) hn]
      exact ⟨rfl, rfl, rfl⟩
  · have hbay : s.emptyRecognised.emptyPressed.pressWakes.bay = s.emptyRecognised.emptyPressed.bay :=
      wk _ (b := .bay) (by decide) (by decide) (by decide) (by decide) (by decide)
    have htrack : s.emptyRecognised.emptyPressed.pressWakes.track = s.emptyRecognised.emptyPressed.track :=
      wk _ (b := .track) (by decide) (by decide) (by decide) (by decide) (by decide)
    have hkey : s.bay.emptyKey.recognise = { s.bay.emptyKey with pressed := some true } := KeySt.recognise_of_pressDue he
    have rest {b : Block} (h₀ : b ≠ .dr) (h₁ : b ≠ .att) (h₂ : b ≠ .line) (h₃ : b ≠ .en) (h₄ : b ≠ .idle)
        (h₅ : b ≠ .track) (h₆ : b ≠ .bay) : s.emptyRecognised.emptyPressed.pressWakes.get b = s.get b :=
      (wk _ h₀ h₁ h₂ h₃ h₄).trans ((State.get_emptyPressed h₅ h₆).trans (State.get_bay _ _ h₆))
    have hkeep : s.emptyRecognised.emptyPressed.bay.emptyKey = s.bay.emptyKey.recognise
        ∧ s.emptyRecognised.emptyPressed.bay.selected = s.bay.selected := by
      unfold State.emptyPressed
      split
      · exact ⟨rfl, rfl⟩
      · split
        · exact ⟨rfl, rfl⟩
        · split <;> exact ⟨rfl, rfl⟩
    refine ⟨_, by rw [exec_emptyKeyPress_eq, live_of_runs hr, State.doEmptyKeyPress_of_due hm he hs], ?_,
      fun r hr hu => ?_, fun r hr hu => ?_, fun hn => ?_, ?_, rest (b := .ex) (by decide) (by decide)
          (by decide) (by decide) (by decide) (by decide) (by decide),
      rest (b := .eyes) (by decide) (by decide) (by decide) (by decide) (by decide) (by decide) (by decide),
      rest (b := .cu) (by decide) (by decide) (by decide) (by decide) (by decide) (by decide) (by decide)⟩
    · rw [hbay, hkeep.1, hkey]
    · rw [hbay, htrack, State.emptyPressed_of_unload (s := s.emptyRecognised) hr hu]
      exact ⟨rfl, _, State.mem_updRec s (fun q => { q with cls := classEmpty }) (State.mem_of_atBayRec hr).1, rfl, rfl, rfl,
        rfl⟩
    · obtain ⟨hmem, hstate⟩ := State.mem_of_atBayRec hr
      rw [hbay, htrack, State.emptyPressed_of_load (s := s.emptyRecognised) hr hu]
      by_cases hc : r.cls = classUnknown
      · rw [if_pos hc]
        exact ⟨rfl, fun _ => ⟨_, State.mem_updRec s (fun q => { q with cls := classEmpty }) hmem, rfl, rfl, hstate⟩,
          fun h => absurd hc h⟩
      · rw [if_neg hc]
        exact ⟨rfl, fun h => absurd h hc, fun _ => rfl⟩
    · rw [hbay, htrack, State.emptyPressed_of_none (s := s.emptyRecognised) hn]
      exact ⟨rfl, rfl⟩
    · rw [hbay, hkeep.2]

end Sys2Proof.Machine

/-! # Raising a cause (R174, R175, R182) -/

namespace Sys2Proof.Machine

/-! ### What the queue's operations put on its way -/

section
variable {s : State} {f : Frame}

theorem State.sends_setQueue_iff (q : List Frame) :
    (s.setQueue q).Sends f ↔ f ∈ q ∨ ∃ r, s.line.reg = some r ∧ r.frame = f := by
  cases hr : s.line.reg with
  | some r =>
    have hne : s.line.reg ≠ none := fun h => Option.some_ne_none r (hr.symm.trans h)
    simp only [State.Sends, State.setQueue_of_reg hne, hr]
  | none =>
    cases q with
    | nil => simp [State.Sends, State.setQueue, Line.refill, hr]
    | cons g q =>
      rw [State.Sends, State.setQueue_of_no_reg hr rfl]
      simp [eq_comm, or_comm]

theorem State.sends_of_setQueue {q : List Frame} (h : (s.setQueue q).Sends f) : f ∈ q ∨ s.Sends f :=
  (State.sends_setQueue_iff q).1 h |>.imp_right .inr

theorem State.sends_of_offerRoutine {g : Frame} (h : (s.offerRoutine g).Sends f) : s.Sends f ∨ f = g := by
  unfold State.offerRoutine at h
  split at h
  · rcases State.sends_of_setQueue h with h | h
    · exact (List.mem_append.1 h).imp .inl List.mem_singleton.1
    · exact .inl h
  · exact .inl h

theorem State.sends_of_offerCoalesced {same : Payload → Bool} {g : Frame}
    (h : (s.offerCoalesced same g).Sends f) : s.Sends f ∨ f = g := by
  unfold State.offerCoalesced at h
  split at h
  · rcases State.sends_of_setQueue h with h | h
    · obtain ⟨x, hx, rfl⟩ := List.mem_map.1 h
      split
      · exact .inr rfl
      · exact .inl (.inl hx)
    · exact .inl h
  · exact State.sends_of_offerRoutine h

theorem State.sends_of_recomputeLevel (h : s.recomputeLevel.Sends f) :
    s.Sends f ∨ Payload.isStatus f.payload = true := by
  unfold State.recomputeLevel at h
  split at h
  · exact .inl h
  · exact (State.sends_of_offerCoalesced h).imp id fun h => (congrArg (Payload.isStatus ·.payload) h).trans rfl

/-! ### A station that may not queue -/

theorem State.offerRoutine_of_mute (h : s.canQueue = false) (f : Frame) : s.offerRoutine f = s := by
  unfold State.offerRoutine
  rw [h, Bool.false_and, if_neg Bool.false_ne_true]

theorem State.offerCoalesced_of_mute (h : s.canQueue = false) (same : Payload → Bool) (f : Frame) :
    s.offerCoalesced same f = s := by
  unfold State.offerCoalesced
  rw [h, Bool.false_and, if_neg Bool.false_ne_true, s.offerRoutine_of_mute h]

theorem State.line_recomputeLevel_of_mute (h : s.canQueue = false) : s.recomputeLevel.line = s.line := by
  unfold State.recomputeLevel
  split
  · rfl
  · exact (congrArg State.line
      (State.offerCoalesced_of_mute (s := { s with att := { s.att with level := s.levelNow } }) h _ _)).trans rfl

end

/-! ### The raise -/

/-- The entry of a cause as a raise from ABSENT leaves it (R175). -/
def CauseEntry.raisedFresh (e : CauseEntry) (d : Nat) : CauseEntry :=
  { e with st := .pending, repeats := 0, detail := BitVec.ofNat 16 d }

/-- The entry of a cause as a repeated raise leaves it (R175). -/
def CauseEntry.raisedAgain (e : CauseEntry) (d : Nat) : CauseEntry :=
  { e with st := .pending, repeats := satSucc e.repeats, detail := BitVec.ofNat 16 d }

/-- A raise from ABSENT with its ATTENTION, before the level is recomputed (R175). -/
def State.reported (s : State) (c : Cause) (d : Nat) : State :=
  let t := s.changeCause c ((s.cause c).raisedFresh d)
  if t.reportMask c then t.offerRoutine ⟨0, .attention (t.attentionOf c false)⟩ else t

section
variable (s : State) (c : Cause) (d : Nat)

theorem State.raise_of_absent (h : (s.cause c).st = .absent) :
    s.raise c d = (s.reported c d).recomputeLevel := if_pos h

theorem State.raise_of_not_absent (h : (s.cause c).st ≠ .absent) :
    s.raise c d = s.changeCause c ((s.cause c).raisedAgain d) := if_neg h

theorem State.pendingCount_congr {s t : State} (h : ∀ k, t.cause k = s.cause k) :
    t.pendingCount = s.pendingCount := by
  simp only [State.pendingCount, h]

theorem State.reportMask_eq :
    s.reportMask c = (!s.boot.loaded || s.boot.prof.masks.getD (Cause.code c) true) := by
  unfold State.reportMask
  cases s.boot.loaded <;> rfl

theorem State.cause_reported (k : Cause) :
    (s.reported c d).cause k = if k = c then (s.cause c).raisedFresh d else s.cause k := by
  unfold State.reported
  dsimp only
  split
  · rw [State.cause_congr (State.att_offerRoutine _ _), State.cause_changeCause]
  · exact State.cause_changeCause _ _ _ _

/-- The ATTENTION broadcast that a raise from ABSENT queues (R175). -/
def State.report : Frame :=
  ⟨0, .attention
    { cause := some c, severity := s.severity c, detail := BitVec.ofNat 16 d, repeats := 0, reply := false
      pendingCount := (s.raise c d).pendingCount }⟩

theorem State.attentionOf_changeCause (h : (s.cause c).st = .absent) :
    (⟨0, .attention ((s.changeCause c ((s.cause c).raisedFresh d)).attentionOf c false)⟩ : Frame)
      = s.report c d := by
  have hcause (k : Cause) : (s.changeCause c ((s.cause c).raisedFresh d)).cause k = (s.raise c d).cause k := by
    rw [s.raise_of_absent c d h, State.cause_recomputeLevel, State.cause_reported, State.cause_changeCause]
  have hsev : (s.changeCause c ((s.cause c).raisedFresh d)).severity c = s.severity c :=
    congrFun (State.severity_congr rfl) c
  have hentry : (s.changeCause c ((s.cause c).raisedFresh d)).cause c = (s.cause c).raisedFresh d := by
    rw [State.cause_changeCause, if_pos rfl]
  unfold State.attentionOf State.report
  rw [hsev, hentry, State.pendingCount_congr hcause]
  rfl

theorem State.reported_eq (h : (s.cause c).st = .absent) :
    s.reported c d
      = if s.reportMask c then (s.changeCause c ((s.cause c).raisedFresh d)).offerRoutine (s.report c d)
        else s.changeCause c ((s.cause c).raisedFresh d) := by
  rw [← s.attentionOf_changeCause c d h]
  rfl

variable {s c d}

/-- The ATTENTION of a raise from ABSENT goes out with four entries free (R165, R175). -/
theorem State.sends_report (h : (s.cause c).st = .absent) (hmask : s.reportMask c = true)
    (hcan : s.canQueue = true) (hfree : s.line.queue.length ≤ 12) : (s.raise c d).Sends (s.report c d) := by
  rw [s.raise_of_absent c d h]
  refine (State.recomputeLevel_derives _).sends _ ⟨rfl, rfl⟩ ?_
  rw [s.reported_eq c d h, if_pos hmask]
  have hoffer : (s.changeCause c ((s.cause c).raisedFresh d)).offerRoutine (s.report c d)
      = (s.changeCause c ((s.cause c).raisedFresh d)).setQueue (s.line.queue ++ [s.report c d]) :=
    State.offerRoutine_of_free (s := s.changeCause c _) hcan hfree _
  rw [hoffer]
  exact State.sends_setQueue _ _ _ (List.mem_append.2 (.inr (List.mem_singleton.2 rfl)))

/-- But for the STATUS of the level, a raise from ABSENT puts nothing on its way but its ATTENTION (R175). -/
theorem State.sends_of_raise (h : (s.cause c).st = .absent) {f : Frame} (hf : (s.raise c d).Sends f) :
    Payload.isStatus f.payload = true ∨ s.Sends f ∨ (s.reportMask c = true ∧ f = s.report c d) := by
  rw [s.raise_of_absent c d h] at hf
  rcases State.sends_of_recomputeLevel hf with hf | hf
  · rw [s.reported_eq c d h] at hf
    split at hf
    next hmask => exact .inr ((State.sends_of_offerRoutine hf).imp id fun hf => ⟨hmask, hf⟩)
    next => exact .inr (.inl hf)
  · exact .inl hf

/-- With fewer than four entries free the ATTENTION is dropped (R165). -/
theorem State.reported_of_short (h : (s.cause c).st = .absent) (hshort : 12 < s.line.queue.length) :
    s.reported c d = s.changeCause c ((s.cause c).raisedFresh d) := by
  rw [s.reported_eq c d h, State.offerRoutine_of_short (s := s.changeCause c _) hshort, ite_self]

theorem State.line_raise_of_mute (h : (s.cause c).st = .absent) (hmute : s.canQueue = false) :
    (s.raise c d).line = s.line := by
  have hline : s.reported c d = s.changeCause c ((s.cause c).raisedFresh d) := by
    rw [s.reported_eq c d h, State.offerRoutine_of_mute (s := s.changeCause c _) hmute, ite_self]
  rw [s.raise_of_absent c d h, hline]
  exact State.line_recomputeLevel_of_mute (s := s.changeCause c _) hmute

end

/-! ### The highest severity (R182) -/

section
variable {v : State}

theorem State.levelNow_of_topCause {k : Cause} (h : v.topCause (· != .absent) = some k) :
    v.levelNow = v.severity k := by
  unfold State.levelNow; rw [h]

theorem State.levelNow_of_all_absent (h : ∀ k, (v.cause k).st = .absent) : v.levelNow = 0 := by
  have htop : v.topCause (· != .absent) = none := State.topCause_of_none fun c => by rw [h c]; rfl
  unfold State.levelNow; rw [htop]

theorem State.levelNow_spec {k : Cause} (h : (v.cause k).st ≠ .absent) :
    ∃ t, (v.cause t).st ≠ .absent ∧ v.severity t = v.levelNow ∧ v.severity k ≤ v.levelNow := by
  obtain ⟨t, htop, ht, hout⟩ := State.topCause_of_some (p := (· != .absent)) (bne_iff_ne.2 h)
  have hnow := State.levelNow_of_topCause htop
  exact ⟨t, bne_iff_ne.1 ht, hnow.symm, hnow ▸ (hout k (bne_iff_ne.2 h)).severity_le⟩

end

theorem satSucc_val (n : Fin 256) : (satSucc n).val = min (n.val + 1) 255 := by
  unfold satSucc
  split
  next h => rw [h]; rfl
  next h =>
    have hlt : n.val < 255 := by omega
    rw [Fin.val_add_one_of_lt' (by omega), Nat.min_eq_left hlt]

/-- Settles O46: the highest severity is the top cause's; a raise from ABSENT is the change of the cause, its
ATTENTION and the level recomputed, and a repeated one the change of the cause alone. -/
theorem raiseMakesTheCausePending : Obligations.RaiseMakesTheCausePending := by
  refine ⟨fun v => ⟨State.levelNow_of_all_absent, fun ⟨k, hk⟩ => ?top, fun k hk => ?above⟩,
    fun s c d h => ?reports, fun s c d => ?entry⟩
  case top =>
    obtain ⟨t, ht, hsev, -⟩ := State.levelNow_spec hk
    exact ⟨t, ht, hsev⟩
  case above =>
    obtain ⟨t, -, -, hle⟩ := State.levelNow_spec hk
    exact hle
  case reports =>
    refine ⟨s.reportMask_eq c, fun hmask hcan hfree => State.sends_report h hmask hcan hfree,
      fun f hf => State.sends_of_raise h hf, fun hshort f hf => ?_, State.line_raise_of_mute h⟩
    rw [s.raise_of_absent c d h, State.reported_of_short h hshort] at hf
    exact (State.sends_of_recomputeLevel hf).symm
  case entry =>
    have hself := (s.cause_raise c c d).trans (if_pos rfl)
    have hblock {b : Block} (h : b ≠ .att) (h' : b ≠ .line) := s.get_raise (b := b) c d h h'
    have hboot := hblock (b := .boot) (by decide) (by decide)
    refine ⟨by rw [hself], by rw [hself], by rw [hself], fun k hk => (s.cause_raise c k d).trans (if_neg hk),
      fun h => ⟨?_, ?_⟩, fun h => ⟨?_, ?_, ?_⟩, fun k hk => ?_, hblock (b := .track) (by decide) (by decide),
      hblock (b := .dr) (by decide) (by decide), hblock (b := .ex) (by decide) (by decide),
          hblock (b := .en) (by decide) (by decide), hboot⟩
    · rw [hself, if_pos h]
    · rw [s.raise_of_absent c d h, State.level_recomputeLevel, State.levelNow_recomputeLevel]
    · rw [hself, if_neg h, satSucc_val]
    · rw [s.raise_of_not_absent c d h]; rfl
    · rw [s.raise_of_not_absent c d h]; rfl
    · obtain ⟨t, -, -, hle⟩ := State.levelNow_spec hk
      exact hle

end Sys2Proof.Machine

/-! # CLEAR and the ACK key (R179 to R182) -/

namespace Sys2Proof.Machine

/-! ### Causes made ABSENT one after the other (R179) -/

section
variable {s : State}

theorem State.absentOne_of_absent {k : Cause} (h : (s.cause k).st = .absent) : s.absentOne k = s := if_pos h

/-- An entry made ABSENT, its counts and mark as they were. -/
def CauseEntry.ended (e : CauseEntry) : CauseEntry := { e with st := .absent }

theorem CauseEntry.ended_of_absent {e : CauseEntry} (h : e.st = .absent) : e.ended = e := by
  cases e; cases h; rfl

theorem State.cause_absentOne_eq (k c : Cause) :
    (s.absentOne k).cause c = if c = k then (s.cause c).ended else s.cause c := by
  by_cases h : (s.cause k).st = .absent
  · rw [State.absentOne_of_absent h]
    split
    next hc => subst hc; exact (CauseEntry.ended_of_absent h).symm
    next => rfl
  · rw [State.cause_absentOne h]
    split
    next hc => subst hc; rfl
    next => rfl

theorem State.cause_absentFold (cs : List Cause) (c : Cause) :
    (cs.foldl State.absentOne s).cause c = if c ∈ cs then (s.cause c).ended else s.cause c := by
  induction cs generalizing s with
  | nil => simp
  | cons k cs ih =>
    have hidem (e : CauseEntry) : e.ended.ended = e.ended := rfl
    rw [List.foldl_cons, ih, State.cause_absentOne_eq]
    by_cases hk : c = k <;> simp [hk, hidem]

theorem State.cause_absentOne_of_mem {k : Cause} {cs : List Cause}
    (hcs : ∀ c ∈ k :: cs, (s.cause c).st ≠ .absent) (hk : k ∉ cs) :
    ∀ c ∈ cs, ((s.absentOne k).cause c).st ≠ .absent := fun c hc => by
  have hne : c ≠ k := fun h => hk (h ▸ hc)
  rw [State.cause_absentOne_eq, if_neg hne]
  exact hcs c (List.mem_cons_of_mem k hc)

/-- The plain-loss marker goes with LOST-RACK (R94). -/
theorem State.ex_absentFold (cs : List Cause) (hcs : ∀ c ∈ cs, (s.cause c).st ≠ .absent) (hnd : cs.Nodup) :
    (cs.foldl State.absentOne s).ex
      = { s.ex with plainLoss := s.ex.plainLoss && decide (Cause.lostRack ∉ cs) } := by
  induction cs generalizing s with
  | nil => simp
  | cons k cs ih =>
    obtain ⟨hk, hnd'⟩ := List.nodup_cons.1 hnd
    have hone : (s.absentOne k).ex = { s.ex with plainLoss := s.ex.plainLoss && k != .lostRack } := by
      rw [State.absentOne_of_not_absent (hcs k List.mem_cons_self)]
    have hrest := State.cause_absentOne_of_mem hcs hk
    rw [List.foldl_cons, ih hrest hnd', hone]
    by_cases hl : k = .lostRack
    · simp [hl]
    · have hbne : (k != Cause.lostRack) = true := bne_iff_ne.2 hl
      simp [Ne.symm hl, hbne]

/-- The lock state when causes have become ABSENT: BELT-OVERLOAD ends its FAIL-SLOW, BELT-OVERRUN its FAIL-FAST
(R76). -/
def LockState.after (l : LockState) (cs : List Cause) : LockState :=
  if Cause.beltOverload ∈ cs ∧ l = .failSlow ∨ Cause.beltOverrun ∈ cs ∧ l = .failFast then .unlocked else l

theorem LockState.after_cons (l : LockState) (k : Cause) (cs : List Cause) :
    LockState.after l (k :: cs) = LockState.after (LockState.after l [k]) cs := by
  cases l with
  | unlocked | locked => simp [LockState.after]
  | failSlow =>
    by_cases hk : Cause.beltOverload = k
    · simp [LockState.after, hk]
    · simp [LockState.after, hk]
  | failFast =>
    by_cases hk : Cause.beltOverrun = k
    · simp [LockState.after, hk]
    · simp [LockState.after, hk]

theorem State.dr_absentOne_after {k : Cause} (hk : (s.cause k).st ≠ .absent) :
    (s.absentOne k).dr = { s.dr with lock := LockState.after s.dr.lock [k] } := by
  simp only [State.absentOne_of_not_absent hk, LockState.after, List.mem_singleton,
    eq_comm (a := Cause.beltOverload) (b := k), eq_comm (a := Cause.beltOverrun) (b := k)]

theorem State.dr_absentFold (cs : List Cause) (hcs : ∀ c ∈ cs, (s.cause c).st ≠ .absent) (hnd : cs.Nodup) :
    (cs.foldl State.absentOne s).dr
      = { s.dr with lock :=
          if Cause.beltOverload ∈ cs ∧ s.dr.lock = .failSlow ∨ Cause.beltOverrun ∈ cs ∧ s.dr.lock = .failFast
          then .unlocked else s.dr.lock } := by
  show _ = { s.dr with lock := LockState.after s.dr.lock cs }
  induction cs generalizing s with
  | nil => simp [LockState.after]
  | cons k cs ih =>
    obtain ⟨hk, hnd'⟩ := List.nodup_cons.1 hnd
    rw [List.foldl_cons, ih (State.cause_absentOne_of_mem hcs hk) hnd',
      State.dr_absentOne_after (hcs k List.mem_cons_self), LockState.after_cons s.dr.lock k cs]

end

/-! ### CLEAR (R180) -/

section
variable {s : State}

/-- The causes that a CLEAR makes ABSENT (R180). -/
def State.clearable (s : State) : List Cause :=
  Cause.all.filter fun c => (s.cause c).st != .absent && !(Cause.standing c && (s.cause c).present)

theorem State.clearAll_eq (s : State) : s.clearAll = (s.clearable.foldl State.absentOne s).recomputeLevel := rfl

theorem State.mem_clearable {c : Cause} : c ∈ s.clearable ↔
    (s.cause c).st ≠ .absent ∧ ¬(Cause.standing c = true ∧ (s.cause c).present = true) := by
  simp [State.clearable, Cause.mem_all, imp_iff_not_or]

theorem State.mem_clearable_of_latched {c : Cause} (h : Cause.standing c = false) :
    c ∈ s.clearable ↔ (s.cause c).st ≠ .absent := by
  simp [State.mem_clearable, h]

theorem Cause.nodup_all : Cause.all.Nodup :=
  .of_map Cause.code (show (Cause.all.map Cause.code).Nodup from List.nodup_range (n := 18))

theorem State.nodup_clearable : s.clearable.Nodup := Cause.nodup_all.filter _

theorem State.cause_clearAll (c : Cause) :
    s.clearAll.cause c = if Cause.standing c = true ∧ (s.cause c).present = true then s.cause c
      else (s.cause c).ended := by
  rw [State.clearAll_eq, State.cause_recomputeLevel, State.cause_absentFold]
  by_cases hp : Cause.standing c = true ∧ (s.cause c).present = true
  · rw [if_pos hp, if_neg fun h => (State.mem_clearable.1 h).2 hp]
  · rw [if_neg hp]
    split
    next => rfl
    next h =>
      have habs : (s.cause c).st = .absent := not_not.1 fun hne => h (State.mem_clearable.2 ⟨hne, hp⟩)
      exact (CauseEntry.ended_of_absent habs).symm

theorem State.level_clearAll : s.clearAll.att.level = s.clearAll.levelNow := State.level_absentAll s _

theorem State.ex_clearAll :
    s.clearAll.ex = { s.ex with plainLoss := s.ex.plainLoss && (s.cause .lostRack).st == .absent } := by
  have hex : s.clearAll.ex = (s.clearable.foldl State.absentOne s).ex :=
    State.get_recomputeLevel (b := .ex) _ (by decide) (by decide)
  rw [hex, State.ex_absentFold _ (fun c hc => (State.mem_clearable.1 hc).1) State.nodup_clearable]
  have hmem : (decide (Cause.lostRack ∉ s.clearable)) = ((s.cause .lostRack).st == .absent) := by
    rw [Bool.eq_iff_iff, decide_eq_true_iff, State.mem_clearable_of_latched rfl, not_not, beq_iff_eq]
  rw [hmem]

theorem State.dr_clearAll :
    s.clearAll.dr = { s.dr with lock :=
      if (s.cause .beltOverload).st ≠ .absent ∧ s.dr.lock = .failSlow
          ∨ (s.cause .beltOverrun).st ≠ .absent ∧ s.dr.lock = .failFast
      then .unlocked else s.dr.lock } := by
  have hdr : s.clearAll.dr = (s.clearable.foldl State.absentOne s).dr :=
    State.get_recomputeLevel (b := .dr) _ (by decide) (by decide)
  rw [hdr, State.dr_absentFold _ (fun c hc => (State.mem_clearable.1 hc).1) State.nodup_clearable]
  simp only [State.mem_clearable_of_latched (s := s) (c := .beltOverload) rfl,
    State.mem_clearable_of_latched (s := s) (c := .beltOverrun) rfl]

theorem State.get_clearAll {b : Block} (h : b ≠ .att) (h₁ : b ≠ .ex) (h₂ : b ≠ .dr) (h₃ : b ≠ .line) :
    s.clearAll.get b = s.get b := State.get_absentAll s _ h h₁ h₂ h₃

theorem exec_clear_of_alone {h : Hdr} (hh : s.HearsAlone h) :
    exec (.clear h) s
      = .next (State.settle (if s.obeys h.src then (s.refresh h.src).clearAll else s.refresh h.src)) := by
  have he : exec (.clear h) s = live s (s.receive h .clear) := rfl
  rw [he, State.receive_toMeAlone (fun t => t.onClear h.src) hh fun _ => rfl, State.onClear, State.obeys_refresh]

end

/-! ### The held key (R181) -/

section
variable {s : State} {k : AckHold}

theorem exec_ackKeyPress_eq (s : State) : exec .ackKeyPress s = live s s.doAckKeyPress := rfl
theorem exec_ackKeyHoldClear_eq (s : State) : exec .ackKeyHoldClear s = live s s.doAckKeyHoldClear := rfl
theorem exec_ackKeyHoldFlush_eq (s : State) : exec .ackKeyHoldFlush s = live s s.doAckKeyHoldFlush := rfl

theorem AckHold.clearDue_of_long (h : k.clearDone = false) (ht : 300 ≤ k.ticks) : k.clearDue = true := by
  have ht' : Config.holdClear ≤ k.ticks := ht
  rw [AckHold.clearDue, h, decide_eq_true ht']; rfl

theorem AckHold.flushDue_of_long (h : k.flushDone = false) (ht : 800 ≤ k.ticks) : k.flushDue = true := by
  have ht' : Config.holdFlush ≤ k.ticks := ht
  rw [AckHold.flushDue, h, decide_eq_true ht']; rfl

theorem State.holdClear_of_due (hk : s.bay.ackHold = some k) (hdue : k.clearDue = true) :
    s.holdClear
      = State.clearAll { s with bay := { s.bay with ackHold := some { k with clearDone := true } } } := by
  unfold State.holdClear
  rw [hk]
  exact if_pos hdue

theorem State.holdClear_of_done (hk : s.bay.ackHold = some k) (hdone : k.clearDone = true) : s.holdClear = s := by
  have hdue : ¬ k.clearDue = true := by simp [AckHold.clearDue, hdone]
  unfold State.holdClear
  rw [hk]
  exact if_neg hdue

theorem State.holdFlush_of_done (hk : s.bay.ackHold = some k) (hdone : k.flushDone = true) : s.holdFlush = s := by
  have hdue : ¬ k.flushDue = true := by simp [AckHold.flushDue, hdone]
  unfold State.holdFlush
  rw [hk]
  exact if_neg hdue

theorem State.holdFlush_of_due (hk : s.bay.ackHold = some k) (hdue : k.flushDue = true) :
    s.holdFlush
      = if s.att.level = 3 then
          State.flushAll { s with bay := { s.bay with ackHold := some { k with flushDone := true } } }
        else { s with bay := { s.bay with ackHold := some { k with flushDone := true } } } := by
  unfold State.holdFlush
  rw [hk]
  exact if_pos hdue

theorem exec_ackKeyHoldClear_of_due (hr : s.Runs) (hk : s.bay.ackHold = some k) (hdue : k.clearDue = true) :
    exec .ackKeyHoldClear s = .next (State.settle
      (State.clearAll { s with bay := { s.bay with ackHold := some { k with clearDone := true } } })) := by
  rw [exec_ackKeyHoldClear_eq, live_of_runs hr, ← State.holdClear_of_due hk hdue]
  unfold State.doAckKeyHoldClear
  rw [hk]
  exact congrArg Host.Outcome.next (if_pos hdue)

/-- The release of a press that has acted already only lets the key go (R181). -/
theorem exec_ackKeyRelease_of_acted (hr : s.Runs) (hdue : s.bay.ackKey.releaseDue = true)
    (hk : s.bay.ackHold = some k) (hlong : 300 ≤ k.ticks) (hclear : k.clearDone = true)
    (hflush : k.flushDone = true ∨ k.ticks < 800) :
    exec .ackKeyRelease s = .next (State.settle { s with bay := { s.bay with
      ackKey := { s.bay.ackKey with pressed := some false }, ackHold := none } }) := by
  have hnoFlush : s.holdFlush = s :=
    hflush.elim (State.holdFlush_of_done hk) fun h => State.holdFlush_of_short hk h
  have hlong' : ¬ k.ticks < Config.holdClear := Nat.not_lt.2 hlong
  rw [exec_ackKeyRelease_eq, live_of_runs hr, State.doAckKeyRelease, if_pos hdue]
  simp only [hk, State.holdClear_of_done hk hclear, hnoFlush, KeySt.recognise_of_releaseDue hdue]
  rw [if_neg hlong']

theorem exec_ackKeyPress_of_active (hr : s.Runs) (hdue : s.bay.ackKey.pressDue = true)
    (hm : s.boot.mode = .active) :
    exec .ackKeyPress s = .next (State.settle (State.wake { s with bay := { s.bay with
      ackKey := { s.bay.ackKey with pressed := some true }, ackHold := some ⟨0, false, false⟩ } })) := by
  rw [exec_ackKeyPress_eq, live_of_runs hr, State.doAckKeyPress, if_pos hdue, if_pos hm,
    KeySt.recognise_of_pressDue hdue]
  exact congrArg (fun t : State => Host.Outcome.next t.settle) (State.pressWakes_of_active hm)

end

/-- Settles O49: a CLEAR folds over the clearable causes and then recomputes the level; the frame of a panel and
the key held to 300 ticks both run it. -/
theorem clearAndTheAckKey : Obligations.ClearAndTheAckKey := by
  have hst (v : State) (c : Cause) : (v.clearAll.cause c).st
      = if Cause.standing c = true ∧ (v.cause c).present = true then (v.cause c).st else .absent := by
    rw [State.cause_clearAll]; split <;> rfl
  have hcounts (v : State) (c : Cause) : (v.clearAll.cause c).present = (v.cause c).present
      ∧ (v.clearAll.cause c).repeats = (v.cause c).repeats ∧ (v.clearAll.cause c).detail = (v.cause c).detail := by
    rw [State.cause_clearAll]; split <;> exact ⟨rfl, rfl, rfl⟩
  have rest (v : State) {b : Block} := State.get_clearAll (s := v) (b := b)
  refine ⟨⟨fun s h hh => ⟨fun hno => ?_, fun hyes => ?_⟩, fun s k hr hk hdone hlong => ?_⟩,
    fun s hr hdue hm => exec_ackKeyPress_of_active hr hdue hm,
    fun s k hr hdue hk hlong hclear hflush => exec_ackKeyRelease_of_acted hr hdue hk hlong hclear hflush⟩
  · rw [exec_clear_of_alone hh, hno, if_neg Bool.false_ne_true]
  · refine ⟨(s.refresh h.src).clearAll, by rw [exec_clear_of_alone hh, if_pos hyes], hst _, hcounts _,
      State.level_clearAll, State.ex_clearAll, State.dr_clearAll, ?_, ?_, ?_, ?_, ?_⟩
    · exact rest _ (b := .track) (by decide) (by decide) (by decide) (by decide)
    · exact rest _ (b := .eyes) (by decide) (by decide) (by decide) (by decide)
    · exact rest _ (b := .en) (by decide) (by decide) (by decide) (by decide)
    · exact rest _ (b := .marks) (by decide) (by decide) (by decide) (by decide)
    · exact rest _ (b := .gate) (by decide) (by decide) (by decide) (by decide)
  · refine ⟨_, exec_ackKeyHoldClear_of_due hr hk (AckHold.clearDue_of_long hdone hlong),
      ⟨hst _, hcounts _, State.level_clearAll, State.ex_clearAll, State.dr_clearAll, ?_, ?_, ?_, ?_, ?_⟩, ?_⟩
    · exact rest _ (b := .track) (by decide) (by decide) (by decide) (by decide)
    · exact rest _ (b := .eyes) (by decide) (by decide) (by decide) (by decide)
    · exact rest _ (b := .en) (by decide) (by decide) (by decide) (by decide)
    · exact rest _ (b := .marks) (by decide) (by decide) (by decide) (by decide)
    · exact rest _ (b := .gate) (by decide) (by decide) (by decide) (by decide)
    · exact rest _ (b := .bay) (by decide) (by decide) (by decide) (by decide)

end Sys2Proof.Machine

/-! # FLUSH (R180, R181) -/

namespace Sys2Proof.Machine

/-! ### A STATUS queued (R166, R173) -/

section
variable {s : State} {f : Frame}

theorem State.sends_of_line {t : State} (h : t.line = s.line) : t.Sends f ↔ s.Sends f := by
  unfold State.Sends; rw [h]

theorem mem_map_replace {α : Type} {l : List α} {p : α → Bool} {a b : α} (hp : p a = false) (hab : a ≠ b) :
    (a ∈ l.map fun g => if p g then b else g) ↔ a ∈ l := by
  rw [List.mem_map]
  constructor
  · rintro ⟨g, hg, he⟩
    split at he
    · exact absurd he.symm hab
    · exact he ▸ hg
  · intro ha
    exact ⟨a, ha, by rw [if_neg (by rw [hp]; exact Bool.false_ne_true)]⟩

theorem filter_map_replace {α : Type} (l : List α) {p : α → Bool} {b : α} (hb : p b = true) :
    ((l.map fun g => if p g then b else g).filter fun g => !p g) = l.filter fun g => !p g := by
  induction l with
  | nil => rfl
  | cons a l ih =>
    rw [List.map_cons]
    cases hp : p a with
    | true => simp [hb, hp, ih]
    | false => simp [hp, ih]

/-- A STATUS queued leaves every other frame as it was (R166). -/
theorem State.sends_queueStatus_iff (h : Payload.isStatus f.payload = false) :
    s.queueStatus.Sends f ↔ s.Sends f := by
  have hne : f ≠ ⟨0, .status s.statusInfo⟩ := fun he => by rw [he] at h; exact Bool.noConfusion h
  unfold State.queueStatus State.offerCoalesced
  split
  · rw [State.sends_setQueue_iff,
      mem_map_replace (p := fun g : Frame => Payload.isStatus g.payload) h hne]
    rfl
  · unfold State.offerRoutine
    split
    · rw [State.sends_setQueue_iff, List.mem_append, List.mem_singleton, or_iff_left hne]
      rfl
    · rfl

/-- Behind a register in use, a STATUS queued leaves the register and the order of the other frames (R166). -/
theorem State.queueStatus_of_reg (h : s.line.reg ≠ none) :
    s.queueStatus.line.reg = s.line.reg
      ∧ (s.queueStatus.line.queue.filter fun g => !Payload.isStatus g.payload)
          = s.line.queue.filter fun g => !Payload.isStatus g.payload := by
  unfold State.queueStatus State.offerCoalesced
  split
  · rw [State.setQueue_of_reg h]
    exact ⟨rfl, filter_map_replace s.line.queue (p := fun g : Frame => Payload.isStatus g.payload) rfl⟩
  · unfold State.offerRoutine
    split
    · rw [State.setQueue_of_reg h]
      exact ⟨rfl, by rw [List.filter_append]; exact List.append_nil _⟩
    · exact ⟨rfl, rfl⟩

theorem State.sends_queueStatus (hcan : s.canQueue = true)
    (hroom : (∃ g ∈ s.line.queue, Payload.isStatus g.payload = true) ∨ s.line.queue.length ≤ 12) :
    s.queueStatus.Sends ⟨0, .status s.statusInfo⟩ := by
  by_cases hw : ∃ g ∈ s.line.queue, Payload.isStatus g.payload = true
  · obtain ⟨g, hg, hst⟩ := hw
    rw [State.queueStatus, State.offerCoalesced_of_waiting hcan (List.any_eq_true.2 ⟨g, hg, hst⟩)]
    exact State.sends_setQueue _ _ _ (List.mem_map.2 ⟨g, hg, if_pos hst⟩)
  · have hnone : (s.line.queue.any fun g => Payload.isStatus g.payload) = false := by
      rw [List.any_eq_false]; exact fun g hg hst => hw ⟨g, hg, hst⟩
    unfold State.queueStatus State.offerCoalesced
    rw [hnone, Bool.and_false, if_neg Bool.false_ne_true, State.offerRoutine_of_free hcan (hroom.resolve_left hw)]
    exact State.sends_setQueue _ _ _ (List.mem_append.2 (.inr (List.mem_singleton.2 rfl)))

/-- A STATUS queued writes the queue and the register alone. -/
theorem State.queueStatus_eq (s : State) :
    s.queueStatus = { s with line := { s.line with
      queue := s.queueStatus.line.queue, reg := s.queueStatus.line.reg } } := by
  have hset (q : List Frame) : s.setQueue q = { s with line := { s.line with
      queue := (s.setQueue q).line.queue, reg := (s.setQueue q).line.reg } } := by
    cases hr : s.line.reg with
    | some r => rw [State.setQueue_of_reg (by rw [hr]; exact Option.some_ne_none r)]
    | none =>
      cases q with
      | nil => simp [State.setQueue, Line.refill, hr]
      | cons g q => rw [State.setQueue_of_no_reg hr rfl]
  unfold State.queueStatus State.offerCoalesced State.offerRoutine
  split
  · exact hset _
  · split
    · exact hset _
    · rfl

end

/-! ### The blocks at FLUSH -/

/-- The state a FLUSH leaves before its scan (R61, R180). -/
def State.flushed (s : State) : State :=
  State.flushIdle (State.flushBay (State.flushDrive (State.flushTrack (State.flushTag
    (State.flushEyes (State.flushEntry (State.flushExit s)))))))

/-- The drive block at its FLUSH values (R82). -/
def Drive.flushed (d : Drive) : Drive :=
  { d with
    belt := .hold, level := 0, resume := 0, holdFrom := none, holdTicks := 0, spinLeft := none,
    spinFollows := false, history := [], lock := .unlocked, inBand := 0, outBand := 0,
    satHigh := 0, satLow := 0, unsteady := 0, span0 := .free, span1 := .free }

/-- The state whose STATUS the move to HOLD queues (R82, R173). -/
def State.halted (s : State) : State :=
  let t := s.flushExit.flushEntry.flushEyes.flushTag.flushTrack
  { t with dr := t.dr.flushed }

section
variable {v : State}

theorem State.flushAll_eq (v : State) : v.flushAll = v.flushed.scan := rfl

theorem State.flushed_eq (v : State) :
    v.flushed = (if v.dr.belt = .hold then v.halted else v.halted.queueStatus).flushBay.flushIdle := rfl

/-- What a FLUSH leaves as it is (R24, R82, R174). -/
theorem State.att_halted (v : State) : v.halted.flushBay.flushIdle.att = v.att := by
  dsimp only [State.flushIdle, State.flushBay, State.halted, State.flushTrack, State.flushTag, State.flushEyes,
    State.flushEntry, State.flushExit, State.updChans]
theorem State.cu_halted (v : State) : v.halted.flushBay.flushIdle.cu = v.cu := by
  dsimp only [State.flushIdle, State.flushBay, State.halted, State.flushTrack, State.flushTag, State.flushEyes,
    State.flushEntry, State.flushExit, State.updChans]
theorem State.rt_halted (v : State) : v.halted.flushBay.flushIdle.rt = v.rt := by
  dsimp only [State.flushIdle, State.flushBay, State.halted, State.flushTrack, State.flushTag, State.flushEyes,
    State.flushEntry, State.flushExit, State.updChans]
theorem State.boot_halted (v : State) : v.halted.flushBay.flushIdle.boot = v.boot := by
  dsimp only [State.flushIdle, State.flushBay, State.halted, State.flushTrack, State.flushTag, State.flushEyes,
    State.flushEntry, State.flushExit, State.updChans]

/-- The moving belt's STATUS aside, the flushed state is the halted one with its bay and idle blocks flushed. -/
theorem State.flushed_blocks (v : State) :
    v.flushed = { v.halted.flushBay.flushIdle with line := { v.line with
      queue := v.flushed.line.queue, reg := v.flushed.line.reg } } := by
  rw [State.flushed_eq]
  split
  · rfl
  · rw [State.queueStatus_eq]
    rfl

theorem State.line_flushed_of_hold (h : v.dr.belt = .hold) : v.flushed.line = v.line := by
  rw [State.flushed_eq, if_pos h]; rfl

theorem State.line_flushed_of_not_hold (h : v.dr.belt ≠ .hold) : v.flushed.line = v.halted.queueStatus.line := by
  rw [State.flushed_eq, if_neg h]; rfl

theorem State.sends_flushed_iff {f : Frame} (hf : Payload.isStatus f.payload = false) :
    v.flushed.Sends f ↔ v.Sends f := by
  by_cases h : v.dr.belt = .hold
  · exact State.sends_of_line (State.line_flushed_of_hold h)
  · exact (State.sends_of_line (State.line_flushed_of_not_hold h)).trans (State.sends_queueStatus_iff hf)

theorem State.flushed_of_reg (hreg : v.line.reg ≠ none) :
    v.flushed.line.reg = v.line.reg
      ∧ (v.flushed.line.queue.filter fun f => !Payload.isStatus f.payload)
          = v.line.queue.filter fun f => !Payload.isStatus f.payload := by
  by_cases h : v.dr.belt = .hold
  · rw [State.line_flushed_of_hold h]; exact ⟨rfl, rfl⟩
  · rw [State.line_flushed_of_not_hold h]
    exact State.queueStatus_of_reg (s := v.halted) hreg

end

theorem Mark.disarm_spec (m : Mark) :
    m.disarm.pos = m.pos ∧ m.disarm.st = if m.st = .absent then .absent else .disarmed := by
  unfold Mark.disarm
  split
  next h => exact ⟨rfl, h⟩
  next => exact ⟨rfl, rfl⟩

theorem exec_flush_of_alone {s : State} {h : Hdr} (hh : s.HearsAlone h) :
    exec (.flush h) s
      = .next (State.settle (if s.obeys h.src then (s.refresh h.src).flushAll else s.refresh h.src)) := by
  have he : exec (.flush h) s = live s (s.receive h .flush) := rfl
  rw [he, State.receive_toMeAlone (fun t => t.onFlush h.src) hh fun _ => rfl, State.onFlush, State.obeys_refresh]

theorem exec_ackKeyHoldFlush_of_due {s : State} {k : AckHold} (hr : s.Runs) (hk : s.bay.ackHold = some k)
    (hclear : k.clearDone = true) (hdue : k.flushDue = true) :
    exec .ackKeyHoldFlush s = .next (State.settle (
      if s.att.level = 3 then
        State.flushAll { s with bay := { s.bay with ackHold := some { k with flushDone := true } } }
      else { s with bay := { s.bay with ackHold := some { k with flushDone := true } } })) := by
  rw [exec_ackKeyHoldFlush_eq, live_of_runs hr, ← State.holdFlush_of_due hk hdue]
  unfold State.doAckKeyHoldFlush
  rw [hk, State.holdClear_of_done hk hclear]
  exact congrArg Host.Outcome.next (if_pos hdue)

/-- Settles O50: the frame of a panel and the key held to 800 ticks run the same FLUSH, whose state before the scan
is the halted one, but for the STATUS of the move to HOLD. -/
theorem flushEmptiesAndRescans : Obligations.FlushEmptiesAndRescans := by
  refine ⟨fun s h hh => exec_flush_of_alone hh, fun s k hr hk hclear hdone hlong =>
    exec_ackKeyHoldFlush_of_due hr hk hclear (AckHold.flushDue_of_long hdone hlong), fun v => ?_⟩
  have rest {b : Block} (h : b ≠ .line) : v.flushed.get b = v.halted.flushBay.flushIdle.get b := by
    rw [v.flushed_blocks]; exact State.get_line _ _ h
  have hdr : v.flushed.dr = v.dr.flushed := rest (b := .dr) (by decide)
  have hmarks : v.flushed.marks = v.marks.ended := rest (b := .marks) (by decide)
  have heyes : v.flushed.eyes = v.halted.eyes := rest (b := .eyes) (by decide)
  have hchan (e : Eye) : v.flushed.chan e = v.halted.chan e := by unfold State.chan; rw [heyes]
  have hline : v.flushed.line = { v.line with queue := v.flushed.line.queue, reg := v.flushed.line.reg } :=
    (congrArg State.line v.flushed_blocks).trans rfl
  refine ⟨v.flushed, v.flushAll_eq, rest (b := .track) (by decide), congrArg MarkGroup.owner hmarks, ?marks,
    rest (b := .ex) (by decide), rest (b := .en) (by decide), ?belt, ?level, ?resume, ?lock, ?history, ?satHigh,
        ?satLow,
    ?inBand, ?outBand, ?unsteady, ?holdFrom, ?holdTicks, ?spinLeft, ?span0, ?span1, ?m16, ?vmeas, ?winLeft,
    ?winEdges, fun e => ?chan, ?lead, ?leadFresh, ?trail, ?trailFresh, rest (b := .tag) (by decide),
    rest (b := .gate) (by decide), rest (b := .bay) (by decide), rest (b := .idle) (by decide),
        (rest (b := .att) (by decide)).trans v.att_halted, hline,
    State.line_flushed_of_hold, fun f hf => State.sends_flushed_iff hf, State.flushed_of_reg,
    fun hb hcan hreg hroom => ?status, (rest (b := .cu) (by decide)).trans v.cu_halted, (rest (b := .rt)
        (by decide)).trans v.rt_halted, (rest (b := .boot) (by decide)).trans v.boot_halted⟩
  case marks =>
    rw [hmarks]
    simp only [List.forall_mem_cons]
    exact ⟨Mark.disarm_spec _, Mark.disarm_spec _, Mark.disarm_spec _, Mark.disarm_spec _, List.forall_mem_nil _⟩
  case chan =>
    have hhalted : v.halted.chan e
        = { v.chan e with st := (v.chan e).st.flushed, awaited := [], missed := [] } := by cases e <;> rfl
    rw [hchan e, hhalted]
    refine congrArg (fun st => ({ v.chan e with st := st, awaited := [], missed := [] } : EyeChan)) ?_
    cases (v.chan e).st <;> rfl
  case status =>
    refine ⟨v.halted.statusInfo, (State.sends_of_line (State.line_flushed_of_not_hold hb)).2 ?_, rfl, rfl⟩
    exact State.sends_queueStatus (s := v.halted) hcan hroom
  case lead | leadFresh | trail | trailFresh => rw [heyes]; rfl
  all_goals rw [hdr]; rfl

end Sys2Proof.Machine

/-! # PARK: the doze exchange, polls and wakes (R68, R150 to R159) -/

namespace Sys2Proof.Machine

/-! ### Room for several frames (R165) -/

/-- The station may queue, and n entries are free: `State.room_one_iff` ties one entry to `State.HasRoom`. -/
def State.Room (s : State) (n : Nat) : Prop := s.canQueue = true ∧ s.line.queue.length + n ≤ Config.queueSize

section
variable {s t : State} {n : Nat} {f : Frame}

theorem State.room_one_iff : s.Room 1 ↔ s.HasRoom := Iff.rfl

theorem State.Room.mono {m : Nat} (h : s.Room n) (hm : m ≤ n) : s.Room m :=
  ⟨h.1, (Nat.add_le_add_left hm _).trans h.2⟩

theorem State.Room.congr (h : s.Room n) (hb : t.boot = s.boot) (hl : t.line = s.line) : t.Room n := by
  obtain ⟨hcan, hlen⟩ := h
  exact ⟨by unfold State.canQueue at hcan ⊢; rwa [hb], by rwa [hl]⟩

theorem length_insertPrompt (q : List Frame) (g : Frame) : (insertPrompt q g).length = q.length + 1 := by
  have hsplit : q.length = (q.filter fun x => Payload.prompt x.payload).length
      + (q.filter fun x => !Payload.prompt x.payload).length := List.length_eq_length_filter_add _
  simp only [insertPrompt, List.length_append, List.length_singleton]
  omega

theorem State.length_queue_setQueue (q : List Frame) : (s.setQueue q).line.queue.length ≤ q.length := by
  cases hr : s.line.reg with
  | some r => rw [State.setQueue_of_reg (by rw [hr]; exact Option.some_ne_none r)]
  | none =>
    cases q with
    | nil => simp [State.setQueue, Line.refill, hr]
    | cons g q => rw [State.setQueue_of_no_reg hr rfl]; exact Nat.le_succ _

theorem State.Room.sendPrompt (h : s.Room (n + 1)) (d : Station) (p : Payload) : (s.sendPrompt d p).Room n := by
  obtain ⟨hcan, hlen⟩ := h
  have hroom : s.HasRoom := ⟨hcan, by omega⟩
  rw [State.sendPrompt_of_room s d p hroom]
  refine ⟨hcan, ?_⟩
  have hq := State.length_queue_setQueue (s := s) (insertPrompt s.line.queue ⟨d, p⟩)
  rw [length_insertPrompt] at hq
  omega

theorem State.sends_sendPrompt_iff (h : s.Room 1) (d : Station) (p : Payload) :
    (s.sendPrompt d p).Sends f ↔ s.Sends f ∨ f = ⟨d, p⟩ := by
  rw [State.sendPrompt_of_room s d p (State.room_one_iff.1 h), State.sends_setQueue_iff, mem_insertPrompt,
    or_right_comm]
  rfl

/-- One prompt frame to each port of a list: all of them go out, and no other frame. -/
theorem State.sends_foldl_sendPrompt {α : Type} (d : α → Station) (p : Payload) (ps : List α)
    (h : s.Room ps.length) :
    (ps.foldl (fun t x => t.sendPrompt (d x) p) s).Sends f ↔ s.Sends f ∨ ∃ x ∈ ps, f = ⟨d x, p⟩ := by
  induction ps generalizing s with
  | nil => simp
  | cons x ps ih =>
    rw [List.foldl_cons, ih (h.sendPrompt _ _), State.sends_sendPrompt_iff (h.mono (by simp)), or_assoc,
      List.exists_mem_cons_iff]

theorem State.get_foldl_sendPrompt {α : Type} {b : Block} (d : α → Station) (p : Payload) (ps : List α)
    (h : b ≠ .att) (h' : b ≠ .line) :
    (ps.foldl (fun t x => t.sendPrompt (d x) p) s).get b = s.get b := by
  induction ps generalizing s with
  | nil => rfl
  | cons x ps ih => exact ih.trans (State.get_sendPrompt _ _ _ h h')

end

/-! ### Leaving PARK (R68, R157) -/

section
variable {s : State}

theorem State.dr_enterSpinUp (s : State) (x : Bool) :
    (s.enterSpinUp x).dr = { s.dr with
      belt := .spinUp, level := s.boot.prof.startLevel, spinLeft := some s.boot.prof.spinUp, spinFollows := x } :=
  (State.get_sendGos (b := .dr) _ (by decide) (by decide)
      (by decide)).trans (State.get_queueStatus (b := .dr) _ (by decide))

theorem State.idle_enterSpinUp (s : State) (x : Bool) : (s.enterSpinUp x).idle = s.idle :=
  State.get_enterSpinUp (b := .idle) _ x (by decide) (by decide) (by decide) (by decide)

theorem State.dr_leavePark (s : State) :
    s.leavePark.dr = { s.dr with
      belt := .spinUp, level := s.boot.prof.startLevel, spinLeft := some s.boot.prof.spinUp, spinFollows := false } :=
  State.dr_enterSpinUp _ false

theorem State.idle_leavePark (s : State) : s.leavePark.idle = { s.idle.awake with wakePending := false } :=
  State.idle_enterSpinUp _ false

theorem State.wake_of_parked (h : s.idle.phase = .parked) (h3 : s.att.level ≠ 3) : s.wake = s.leavePark := by
  unfold State.wake
  rw [h]
  exact if_neg h3

theorem State.wake_of_parked3 (h : s.idle.phase = .parked) (h3 : s.att.level = 3) :
    s.wake = { s with idle := { s.idle with wakePending := true } } := by
  unfold State.wake
  rw [h]
  exact if_pos h3

/-- A wake writes only where the drive's start and its frames do. -/
theorem State.wake_outside (s : State) :
    s.wake.track = s.track ∧ s.wake.eyes = s.eyes ∧ s.wake.ex = s.ex ∧ s.wake.cu = s.cu :=
  ⟨State.get_wake (b := .track) _ (by decide) (by decide) (by decide) (by decide) (by decide),
    State.get_wake (b := .eyes) _ (by decide) (by decide) (by decide) (by decide) (by decide),
    State.get_wake (b := .ex) _ (by decide) (by decide) (by decide) (by decide) (by decide),
    State.get_wake (b := .cu) _ (by decide) (by decide) (by decide) (by decide) (by decide)⟩

theorem EyeChan.differs_iff (c : EyeChan) : c.differs = true ↔ c.raw ≠ EyeState.isBlocked c.st := by
  simp [EyeChan.differs]

theorem State.eyeChanged_iff :
    s.eyeChanged = true ↔ ∃ e, s.fitted e = true ∧ (s.chan e).raw ≠ EyeState.isBlocked (s.chan e).st := by
  simp [State.eyeChanged, Eye.mem_all, EyeChan.differs_iff]

theorem State.eyeChanged_congr {t : State} (hb : t.boot = s.boot) (he : t.eyes = s.eyes) :
    t.eyeChanged = s.eyeChanged := by
  have hfit (e : Eye) : t.fitted e = s.fitted e := by simp [State.fitted, State.eyePos, hb]
  have hchan (e : Eye) : t.chan e = s.chan e := by cases e <;> simp [State.chan, he]
  simp only [State.eyeChanged, hfit, hchan]

/-! ### Polls (R156) -/

/-- The state whose poll timer has restarted. -/
def State.polled (s : State) : State := { s with idle := { s.idle with poll := some s.boot.prof.pollPeriod } }

theorem exec_poll_of_due (hr : s.Runs) (hp : s.idle.phase = .parked) (hd : s.idle.poll = some 0) :
    exec .poll s = .next (State.settle (if s.eyeChanged then s.polled.wake else s.polled)) := by
  have he : exec .poll s = live s s.doPoll := rfl
  have hdue : s.idle.phase = .parked ∧ expired s.idle.poll = true := ⟨hp, by rw [hd]; rfl⟩
  rw [he, live_of_runs hr]
  unfold State.doPoll
  rw [if_pos hdue, ← State.eyeChanged_congr (s := s) (t := s.polled) rfl rfl]
  rfl

/-! ### Entering PARK (R68, R154) -/

/-- The belt in PARK, with the STATUS of it queued. -/
def State.parkedNow (s : State) : State :=
  State.queueStatus { s with
    dr := { s.dr with belt := .park }
    idle := { s.idle with phase := .parked, park := none, reply := none,
                          poll := some s.boot.prof.pollPeriod, wakePending := false } }

theorem State.enterPark_eq (s : State) :
    s.enterPark = if s.parkedNow.eyeChanged then s.parkedNow.wake else s.parkedNow := rfl

theorem State.get_parkedNow {b : Block} (h : b ≠ .line) (h₁ : b ≠ .dr) (h₂ : b ≠ .idle) :
    s.parkedNow.get b = s.get b := by
  refine (State.get_queueStatus _ h).trans ?_
  cases b <;> first | rfl | exact absurd rfl h₁ | exact absurd rfl h₂

theorem State.dr_parkedNow (s : State) : s.parkedNow.dr = { s.dr with belt := .park } :=
  State.get_queueStatus (b := .dr) _ (by decide)

theorem State.idle_parkedNow (s : State) :
    s.parkedNow.idle = { s.idle with phase := .parked, park := none, reply := none,
                                     poll := some s.boot.prof.pollPeriod, wakePending := false } :=
  State.get_queueStatus (b := .idle) _ (by decide)

theorem State.eyeChanged_parkedNow (s : State) : s.parkedNow.eyeChanged = s.eyeChanged :=
  State.eyeChanged_congr (State.get_parkedNow (b := .boot) (by decide) (by decide) (by decide))
    (State.get_parkedNow (b := .eyes) (by decide) (by decide) (by decide))

theorem State.enterPark_of_still (h : s.eyeChanged = false) : s.enterPark = s.parkedNow := by
  rw [State.enterPark_eq, State.eyeChanged_parkedNow, h, if_neg Bool.false_ne_true]

theorem State.enterPark_of_changed (h : s.eyeChanged = true) (h3 : s.att.level ≠ 3) :
    s.enterPark = s.parkedNow.leavePark := by
  have hatt : s.parkedNow.att = s.att := State.get_parkedNow (b := .att) (by decide) (by decide) (by decide)
  rw [State.enterPark_eq, State.eyeChanged_parkedNow, h, if_pos rfl]
  exact State.wake_of_parked (by rw [State.idle_parkedNow]) (by rwa [hatt])

theorem State.enterPark_of_changed3 (h : s.eyeChanged = true) (h3 : s.att.level = 3) :
    s.enterPark = { s.parkedNow with idle := { s.parkedNow.idle with wakePending := true } } := by
  have hatt : s.parkedNow.att = s.att := State.get_parkedNow (b := .att) (by decide) (by decide) (by decide)
  rw [State.enterPark_eq, State.eyeChanged_parkedNow, h, if_pos rfl]
  exact State.wake_of_parked3 (by rw [State.idle_parkedNow]) (by rwa [hatt])

theorem State.dr_enterPark_of_still (h : s.eyeChanged = false) : s.enterPark.dr = { s.dr with belt := .park } := by
  rw [State.enterPark_of_still h, State.dr_parkedNow]

theorem State.dr_enterPark_of_changed (h : s.eyeChanged = true) (h3 : s.att.level ≠ 3) :
    s.enterPark.dr.belt = .spinUp ∧ s.enterPark.dr.level = s.boot.prof.startLevel
      ∧ s.enterPark.dr.spinLeft = some s.boot.prof.spinUp ∧ s.enterPark.idle.phase = .awake
      ∧ s.enterPark.idle.poll = none := by
  have hboot : s.parkedNow.boot = s.boot := State.get_parkedNow (b := .boot) (by decide) (by decide) (by decide)
  rw [State.enterPark_of_changed h h3, State.dr_leavePark, State.idle_leavePark, hboot]
  exact ⟨rfl, rfl, rfl, rfl, rfl⟩

theorem State.enterPark_of_level3 (h : s.eyeChanged = true) (h3 : s.att.level = 3) :
    s.enterPark.dr = { s.dr with belt := .park } ∧ s.enterPark.idle.phase = .parked
      ∧ s.enterPark.idle.wakePending = true := by
  rw [State.enterPark_of_changed3 h h3]
  exact ⟨State.dr_parkedNow s, by rw [State.idle_parkedNow], rfl⟩

theorem State.enterPark_outside (s : State) :
    s.enterPark.track = s.track ∧ s.enterPark.ex = s.ex ∧ s.enterPark.eyes = s.eyes ∧ s.enterPark.cu = s.cu :=
  ⟨State.get_enterPark (b := .track) _ (by decide) (by decide) (by decide) (by decide) (by decide),
    State.get_enterPark (b := .ex) _ (by decide) (by decide) (by decide) (by decide) (by decide),
    State.get_enterPark (b := .eyes) _ (by decide) (by decide) (by decide) (by decide) (by decide),
    State.get_enterPark (b := .cu) _ (by decide) (by decide) (by decide) (by decide) (by decide)⟩

theorem State.replyMark_enterPark (p : UpPort) : s.enterPark.replyMark p = s.replyMark p := by
  have hnow : s.parkedNow.replyMark p = s.replyMark p := by
    unfold State.replyMark
    rw [State.idle_parkedNow]
  have hwake : s.parkedNow.wake.replyMark p = s.parkedNow.replyMark p := by
    by_cases h3 : s.parkedNow.att.level = 3
    · rw [State.wake_of_parked3 (by rw [State.idle_parkedNow]) h3]; rfl
    · rw [State.wake_of_parked (by rw [State.idle_parkedNow]) h3]
      unfold State.replyMark
      rw [State.idle_leavePark]
      rfl
  rw [State.enterPark_eq]
  split
  · exact hwake.trans hnow
  · exact hnow

end

/-- Settles O40: a poll restarts its timer, and a changed eye is a wake cause: the belt leaves PARK, or keeps the
wake pending at level 3. -/
theorem pollWakesTheBelt : Obligations.PollWakesTheBelt := by
  intro s hr hp hd
  refine ⟨_, exec_poll_of_due hr hp hd, fun hsame => ?_, fun hdiff => ⟨fun h3 => ?_, fun h3 => ?_⟩, ?_⟩
  · have hno : ¬ s.eyeChanged = true := fun h => by
      obtain ⟨e, hf, hne⟩ := State.eyeChanged_iff.1 h
      exact hne (hsame e hf)
    rw [if_neg hno]; rfl
  · have hw : s.polled.wake = s.polled.leavePark := State.wake_of_parked hp h3
    rw [if_pos (State.eyeChanged_iff.2 hdiff), hw, State.dr_leavePark, State.idle_leavePark]
    exact ⟨rfl, rfl, rfl, rfl, rfl, rfl⟩
  · have hw : s.polled.wake = _ := State.wake_of_parked3 hp h3
    rw [if_pos (State.eyeChanged_iff.2 hdiff), hw]; rfl
  · split
    · obtain ⟨htrack, heyes, hex, -⟩ := s.polled.wake_outside
      exact ⟨htrack, heyes, hex⟩
    · exact ⟨rfl, rfl, rfl⟩

end Sys2Proof.Machine

/-! # The doze exchange (R151 to R154) -/

namespace Sys2Proof.Machine

section
variable {s : State} {h : Hdr}

/-! ### Frames that TO 0 or this station's number brings (R168) -/

/-- A frame that this station obeys also where it goes to all acts by its own rule on the refreshed state. -/
theorem State.receive_toMe {p : Payload} (f : State → State) (hh : s.HearsOpen h)
    (hp : ∀ t : State, t.deliverFrame h p = if t.toMe h.dst then f t else t) :
    live s (s.receive h p) = .next (State.settle (f (s.refresh h.src))) := by
  rw [State.receive_of_hears hh.1, hp, if_pos (State.toMe_refresh hh)]

theorem exec_dozeAsk (hh : s.HearsOpen h) :
    exec (.dozeAsk h) s = .next (State.settle ((s.refresh h.src).onDozeAsk h.src)) := by
  have he : exec (.dozeAsk h) s = live s (s.receive h .dozeAsk) := rfl
  rw [he, State.receive_toMe (fun t => t.onDozeAsk h.src) hh fun _ => rfl]

theorem exec_dozeAllow (hh : s.HearsOpen h) :
    exec (.dozeAllow h) s = .next (State.settle ((s.refresh h.src).onDozeAllow h.src)) := by
  have he : exec (.dozeAllow h) s = live s (s.receive h .dozeAllow) := rfl
  rw [he, State.receive_toMe (fun t => t.onDozeAllow h.src) hh fun _ => rfl]

theorem exec_dozeDeny (hh : s.HearsOpen h) :
    exec (.dozeDeny h) s = .next (State.settle ((s.refresh h.src).onDozeDeny h.src)) := by
  have he : exec (.dozeDeny h) s = live s (s.receive h .dozeDeny) := rfl
  rw [he, State.receive_toMe (fun t => t.onDozeDeny h.src) hh fun _ => rfl]

theorem State.idle_refresh (s : State) (x : Station) : (s.refresh x).idle = s.idle :=
  State.get_refresh_of_ne (b := .idle) s x (by decide) (by decide)
theorem State.eyes_refresh (s : State) (x : Station) : (s.refresh x).eyes = s.eyes :=
  State.get_refresh_of_ne (b := .eyes) s x (by decide) (by decide)
theorem State.cu_refresh (s : State) (x : Station) : (s.refresh x).cu = s.cu :=
  State.get_refresh_of_ne (b := .cu) s x (by decide) (by decide)

/-! ### The ask (R151, R152) -/

/-- The state that asks its upstream neighbours, before the frames (R151). -/
def State.asksDoze (s : State) : State :=
  { s with idle := { s.idle with
      phase := .asking, park := none, reply := some Config.dozeReply, reply0 := .none, reply1 := .none } }

theorem State.parkDelay_due (hp : s.idle.phase = .timing) (hd : s.idle.park = some 0) :
    s.idle.phase = .timing ∧ expired s.idle.park = true := ⟨hp, by rw [hd]; rfl⟩

theorem exec_parkDelayExpiry_eq (s : State) : exec .parkDelayExpiry s = live s s.doParkDelayExpiry := rfl

theorem exec_parkDelayExpiry_of_alone (hr : s.Runs) (hp : s.idle.phase = .timing) (hd : s.idle.park = some 0)
    (hnone : s.connectedUp = []) : exec .parkDelayExpiry s = .next s.enterPark.settle := by
  rw [exec_parkDelayExpiry_eq, live_of_runs hr]
  unfold State.doParkDelayExpiry
  rw [if_pos (State.parkDelay_due hp hd), hnone]

theorem exec_parkDelayExpiry_of_connected (hr : s.Runs) (hp : s.idle.phase = .timing) (hd : s.idle.park = some 0)
    (hup : s.connectedUp ≠ []) :
    exec .parkDelayExpiry s
      = .next (State.settle (s.connectedUp.foldl (fun t p => t.sendPrompt (s.upStation p) .dozeAsk) s.asksDoze)) := by
  rw [exec_parkDelayExpiry_eq, live_of_runs hr]
  unfold State.doParkDelayExpiry
  rw [if_pos (State.parkDelay_due hp hd)]
  cases hc : s.connectedUp with
  | nil => exact absurd hc hup
  | cons p ps => rfl

theorem State.length_connectedUp (s : State) : s.connectedUp.length ≤ 2 := List.length_filter_le _ _

theorem State.withinDoze_iff (s : State) (r : Rec) :
    s.withinDoze r = true
      ↔ r.handed = false ∧ r.exitPass = .none ∧ s.boot.cts.exit ≤ s.travelOf r + s.boot.cts.doze := by
  simp [State.withinDoze, and_assoc]

theorem State.handing_iff (s : State) (p : DownPort) :
    s.handing p = true ↔ ∃ r ∈ s.track, r.handed = true ∧ r.exitPort = some p := by
  simp [State.handing]

/-- A rack near the exit, or one under way to the port, denies the doze (R152). -/
def State.deniesDoze (s : State) (p : DownPort) : Bool := s.track.any s.withinDoze || s.handing p

theorem State.deniesDoze_iff (s : State) (p : DownPort) :
    s.deniesDoze p = true ↔ ∃ r ∈ s.track, (r.handed = false ∧ r.exitPass = .none
        ∧ s.boot.cts.exit ≤ s.travelOf r + s.boot.cts.doze) ∨ (r.handed = true ∧ r.exitPort = some p) := by
  simp only [State.deniesDoze, Bool.or_eq_true, List.any_eq_true, State.withinDoze_iff, State.handing_iff, ← exists_or,
    ← and_or_left]

theorem State.onDozeAsk_of_active {x : Station} {p : DownPort} (hp : s.downPortOf x = some p)
    (hm : s.boot.mode = .active) :
    s.onDozeAsk x = s.sendPrompt x (if s.deniesDoze p then .dozeDeny else .dozeAllow) := by
  unfold State.onDozeAsk
  rw [hp]
  exact if_pos hm

theorem State.onDozeAsk_of_ignored {x : Station} (h : s.boot.mode ≠ .active ∨ s.downPortOf x = none) :
    s.onDozeAsk x = s := by
  unfold State.onDozeAsk
  split
  next => rfl
  next p hp =>
    refine if_neg (h.resolve_right ?_)
    rw [hp]
    exact Option.some_ne_none p

theorem State.deniesDoze_refresh (x : Station) (p : DownPort) :
    (s.refresh x).deniesDoze p = s.deniesDoze p := by
  have htravel (r : Rec) : (s.refresh x).travelOf r = s.travelOf r := by
    unfold State.travelOf; rw [State.cu_refresh]
  rw [Bool.eq_iff_iff, State.deniesDoze_iff, State.deniesDoze_iff]
  simp only [State.track_refresh, State.boot_refresh, htravel]

/-! ### The replies (R153) -/

theorem State.replyMark_setReply (p q : UpPort) (m : ReplyMark) :
    (s.setReply p m).replyMark q = if q = p then m else s.replyMark q := by
  cases p <;> cases q <;> rfl

theorem State.setReply_outside (p : UpPort) (m : ReplyMark) :
    (s.setReply p m).dr = s.dr ∧ (s.setReply p m).track = s.track ∧ (s.setReply p m).ex = s.ex
      ∧ (s.setReply p m).eyes = s.eyes ∧ (s.setReply p m).boot = s.boot ∧ (s.setReply p m).att = s.att
      ∧ (s.setReply p m).idle.phase = s.idle.phase ∧ (s.setReply p m).idle.reply = s.idle.reply := by
  cases p <;> exact ⟨rfl, rfl, rfl, rfl, rfl, rfl, rfl, rfl⟩

theorem State.allAllow_setReply (p : UpPort) :
    (s.setReply p .allow).allAllow = true ↔ ∀ q ∈ s.connectedUp, q ≠ p → s.replyMark q = .allow := by
  have hup : (s.setReply p .allow).connectedUp = s.connectedUp := by cases p <;> rfl
  simp only [State.allAllow, hup, List.all_eq_true, beq_iff_eq, State.replyMark_setReply]
  refine forall₂_congr fun q _ => ?_
  by_cases hq : q = p <;> simp [hq]

theorem State.onDozeAllow_of_asking {x : Station} {p : UpPort} (hp : s.upPortOf x = some p)
    (ha : s.idle.phase = .asking) :
    s.onDozeAllow x
      = if (s.setReply p .allow).allAllow then (s.setReply p .allow).enterPark else s.setReply p .allow := by
  unfold State.onDozeAllow
  rw [hp]
  exact if_pos ha

theorem State.onDozeDeny_of_asking {x : Station} {p : UpPort} (hp : s.upPortOf x = some p)
    (ha : s.idle.phase = .asking) : s.onDozeDeny x = (s.setReply p .deny).startTiming := by
  unfold State.onDozeDeny
  rw [hp]
  exact if_pos ha

theorem exec_dozeReplyTimeout_of_due (hr : s.Runs) (ha : s.idle.phase = .asking) (hd : s.idle.reply = some 0) :
    exec .dozeReplyTimeout s = .next s.startTiming.settle := by
  have he : exec .dozeReplyTimeout s = live s s.doDozeReplyTimeout := rfl
  have hdue : s.idle.phase = .asking ∧ expired s.idle.reply = true := ⟨ha, by rw [hd]; rfl⟩
  rw [he, live_of_runs hr]
  exact congrArg Host.Outcome.next (if_pos hdue)

/-- An ALLOW that leaves other ports unanswered, and one that is the last (R153, R154). -/
theorem State.dozeAllow_effect (p : UpPort) (ha : s.idle.phase = .asking) :
    let u := if (s.setReply p .allow).allAllow then (s.setReply p .allow).enterPark else s.setReply p .allow
    u.replyMark p = .allow
      ∧ ((∃ q ∈ s.connectedUp, q ≠ p ∧ s.replyMark q ≠ .allow) →
          u.idle.phase = .asking ∧ u.dr = s.dr ∧ u.idle.reply = s.idle.reply)
      ∧ ((∀ q ∈ s.connectedUp, q ≠ p → s.replyMark q = .allow) → s.eyeChanged = false →
          u.idle.phase = .parked ∧ u.dr = { s.dr with belt := .park } ∧ u.idle.reply = none
          ∧ u.idle.poll = some s.boot.prof.pollPeriod)
      ∧ ((∀ q ∈ s.connectedUp, q ≠ p → s.replyMark q = .allow) → s.eyeChanged = true →
          (s.att.level ≠ 3 → u.dr.belt = .spinUp ∧ u.idle.phase = .awake)
          ∧ (s.att.level = 3 → u.dr = { s.dr with belt := .park } ∧ u.idle.phase = .parked
              ∧ u.idle.wakePending = true))
      ∧ u.track = s.track ∧ u.ex = s.ex ∧ u.eyes = s.eyes := by
  obtain ⟨hdr, htrack, hex, heyes, hboot, hatt, hphase, hreply⟩ := State.setReply_outside (s := s) p .allow
  have hmark : (s.setReply p .allow).replyMark p = .allow := by rw [State.replyMark_setReply, if_pos rfl]
  have hchanged : (s.setReply p .allow).eyeChanged = s.eyeChanged := State.eyeChanged_congr hboot heyes
  by_cases hall : (s.setReply p .allow).allAllow = true
  · obtain ⟨htrack', hex', heyes', -⟩ := (s.setReply p .allow).enterPark_outside
    have hlast := State.allAllow_setReply (s := s) p |>.1 hall
    simp only [if_pos hall]
    refine ⟨(State.replyMark_enterPark p).trans hmark, fun ⟨q, hq, hne, hno⟩ => absurd (hlast q hq hne) hno,
      fun _ hstill => ?_, fun _ hdiff => ⟨fun h3 => ?_, fun h3 => ?_⟩, htrack'.trans htrack, hex'.trans hex,
      heyes'.trans heyes⟩
    · rw [← hchanged] at hstill
      rw [State.dr_enterPark_of_still hstill, State.enterPark_of_still hstill, State.idle_parkedNow, hdr, hboot]
      exact ⟨rfl, rfl, rfl, rfl⟩
    · rw [← hchanged] at hdiff
      obtain ⟨hb, -, -, hph, -⟩ := State.dr_enterPark_of_changed hdiff (by rwa [hatt])
      exact ⟨hb, hph⟩
    · rw [← hchanged] at hdiff
      rw [← hdr]
      exact State.enterPark_of_level3 hdiff (by rwa [hatt])
  · have hnot := mt (State.allAllow_setReply (s := s) p).2 hall
    simp only [if_neg hall]
    exact ⟨hmark, fun _ => ⟨hphase.trans ha, hdr, hreply⟩, fun h => absurd h hnot, fun h => absurd h hnot, htrack,
      hex, heyes⟩

end

/-- Settles O39: the ask goes to every connected upstream port, is answered by the track, and ends with the last
ALLOW, a DENY or the timeout; PARK is entered as `State.enterPark_eq` says. -/
theorem dozeExchangeParksTheBelt : Obligations.DozeExchangeParksTheBelt := by
  refine ⟨fun s hr hp hd => ?ask, ⟨fun s h p hh hm hp => ⟨fun hclear => ?allow, fun hnear => ?deny⟩,
    fun s h hh hig => ?ignored⟩, fun s h p hh hp ha => ⟨?allowed, ?denied⟩,
    fun s hr ha hd => exec_dozeReplyTimeout_of_due hr ha hd⟩
  case ask =>
    by_cases hup : s.connectedUp = []
    · obtain ⟨htrack, hex, heyes, hcu⟩ := s.enterPark_outside
      refine ⟨_, exec_parkDelayExpiry_of_alone hr hp hd hup, fun hne => absurd hup hne, fun _ hstill => ?_,
        fun _ hdiff => ⟨State.dr_enterPark_of_changed hdiff, State.enterPark_of_level3 hdiff⟩, htrack, hex, heyes, hcu⟩
      rw [State.dr_enterPark_of_still hstill, State.enterPark_of_still hstill, State.idle_parkedNow]
      exact ⟨rfl, rfl, rfl, rfl⟩
    · have rest {b : Block} := State.get_foldl_sendPrompt (s := s.asksDoze) (b := b) s.upStation .dozeAsk s.connectedUp
      refine ⟨_, exec_parkDelayExpiry_of_connected hr hp hd hup, fun _ => ⟨rest (b := .idle) (by decide) (by decide),
        rest (b := .dr) (by decide) (by decide), fun hcan hlen p hp => ?_⟩, fun h => absurd h hup,
            fun h => absurd h hup,
        rest (b := .track) (by decide) (by decide), rest (b := .ex) (by decide) (by decide),
            rest (b := .eyes) (by decide) (by decide),
        rest (b := .cu) (by decide) (by decide)⟩
      have hroom : s.asksDoze.Room s.connectedUp.length :=
        ⟨hcan, (Nat.add_le_add_left s.length_connectedUp _).trans hlen⟩
      exact (State.sends_foldl_sendPrompt _ _ _ hroom).2 (.inr ⟨p, hp, rfl⟩)
  case allow =>
    have hno : ¬ s.deniesDoze p = true := fun h => by
      obtain ⟨r, hr, ⟨hh', hpass, hle⟩ | ⟨hh', hport⟩⟩ := (s.deniesDoze_iff p).1 h
      · exact absurd ((hclear r hr).1 hh' hpass) (Nat.not_lt.2 hle)
      · exact (hclear r hr).2 hh' hport
    rw [exec_dozeAsk hh, State.onDozeAsk_of_active (by rwa [State.downPortOf_refresh]) (by rwa [State.boot_refresh]),
      State.deniesDoze_refresh, if_neg hno]
  case deny =>
    rw [exec_dozeAsk hh, State.onDozeAsk_of_active (by rwa [State.downPortOf_refresh]) (by rwa [State.boot_refresh]),
      State.deniesDoze_refresh, if_pos ((s.deniesDoze_iff p).2 hnear)]
  case ignored =>
    rw [exec_dozeAsk hh, State.onDozeAsk_of_ignored (by rwa [State.downPortOf_refresh, State.boot_refresh])]
  case allowed =>
    have hport : (s.refresh h.src).upPortOf h.src = some p := by rwa [State.upPortOf_refresh]
    have hask : (s.refresh h.src).idle.phase = .asking := by rwa [State.idle_refresh]
    have hup : (s.refresh h.src).connectedUp = s.connectedUp := by
      unfold State.connectedUp State.upStation; rw [State.boot_refresh]
    have hmark (q : UpPort) : (s.refresh h.src).replyMark q = s.replyMark q := by
      unfold State.replyMark; rw [State.idle_refresh]
    have hchanged : (s.refresh h.src).eyeChanged = s.eyeChanged :=
      State.eyeChanged_congr (s.boot_refresh _) (s.eyes_refresh _)
    have heffect := State.dozeAllow_effect p hask
    rw [hup, hchanged, State.dr_refresh, State.idle_refresh, State.boot_refresh, State.track_refresh,
      State.ex_refresh, State.eyes_refresh] at heffect
    simp only [hmark] at heffect
    exact ⟨_, by rw [exec_dozeAllow hh, State.onDozeAllow_of_asking hport hask], heffect⟩
  case denied =>
    have hport : (s.refresh h.src).upPortOf h.src = some p := by rwa [State.upPortOf_refresh]
    have hask : (s.refresh h.src).idle.phase = .asking := by rwa [State.idle_refresh]
    obtain ⟨hdr, htrack, hex, heyes, hboot, -⟩ := State.setReply_outside (s := s.refresh h.src) p .deny
    refine ⟨((s.refresh h.src).setReply p .deny).startTiming,
      by rw [exec_dozeDeny hh, State.onDozeDeny_of_asking hport hask], rfl, rfl, ?_,
      hdr.trans (s.dr_refresh _), htrack.trans (s.track_refresh _), hex.trans (s.ex_refresh _),
      heyes.trans (s.eyes_refresh _)⟩
    show some (((s.refresh h.src).setReply p .deny).boot.prof.parkDelay * 100) = _
    rw [hboot, State.boot_refresh]

end Sys2Proof.Machine

/-! # The belt's own moves and what they say upstream (R62 to R67, R81, R108) -/

namespace Sys2Proof.Machine

/-! ### What the moves of the belt write in the drive -/

section
variable {s : State}

/-- A belt that leaves RUN drops its unsteady count (R79). -/
def State.runLeft (s : State) : State := if s.dr.belt = .run then s.leaveRun else s

/-- The drive block of a belt that enters HOLD (R62, R67). -/
def Drive.held (d : Drive) : Drive :=
  { d with
    belt := .hold, level := 0, resume := if BeltState.regulated d.belt then d.level else d.resume,
    holdFrom := some d.belt, holdTicks := 0, spinLeft := none,
    lock := if BeltState.regulated d.belt && d.lock == LockState.locked then LockState.unlocked else d.lock,
    inBand := if BeltState.regulated d.belt then 0 else d.inBand,
    outBand := if BeltState.regulated d.belt then 0 else d.outBand,
    unsteady := if d.belt = .run then 0 else d.unsteady }

theorem State.dr_runLeft (s : State) :
    s.runLeft.dr = { s.dr with unsteady := if s.dr.belt = .run then 0 else s.dr.unsteady } := by
  unfold State.runLeft
  split
  · exact State.dr_leaveRun s
  · rfl

/-- The state of a belt entering HOLD before its frames. -/
def State.halting (s : State) : State := { s.runLeft with dr := s.dr.held }

theorem State.enterHold_eq (s : State) : s.enterHold = s.halting.queueStatus.sendStalls := by
  have hdr : s.dr.held = { s.runLeft.dr with
      belt := .hold, level := 0, resume := if BeltState.regulated s.dr.belt then s.dr.level else s.dr.resume,
      holdFrom := some s.dr.belt, holdTicks := 0, spinLeft := none,
      lock := if BeltState.regulated s.dr.belt && s.dr.lock == LockState.locked then LockState.unlocked
        else s.dr.lock,
      inBand := if BeltState.regulated s.dr.belt then 0 else s.dr.inBand,
      outBand := if BeltState.regulated s.dr.belt then 0 else s.dr.outBand } := by
    rw [State.dr_runLeft]; rfl
  unfold State.halting
  rw [hdr]
  rfl

theorem State.dr_enterHold (s : State) : s.enterHold.dr = s.dr.held := by
  rw [State.enterHold_eq]
  exact (State.get_sendStalls (b := .dr) _ (by decide) (by decide)
      (by decide)).trans (State.get_queueStatus (b := .dr) _ (by decide))

theorem State.dr_enterRegulated (s : State) (b : BeltState) (level : Nat) :
    (s.enterRegulated b level).dr = { s.dr with
      belt := b, level := level, spinLeft := none, winEdges := 0, winLeft := some Config.windowTicks,
      history := [], lock := .unlocked, inBand := 0, outBand := 0, satHigh := 0, satLow := 0 } :=
  State.get_queueStatus (b := .dr) _ (by decide)

theorem State.dr_switchRegulated (s : State) (b : BeltState) :
    (s.switchRegulated b).dr
      = { s.dr with belt := b, unsteady := if s.dr.belt = .run then 0 else s.dr.unsteady } := by
  have hdr : (s.switchRegulated b).dr = { s.runLeft.dr with belt := b } := State.get_queueStatus (b := .dr) _ (by decide)
  rw [hdr, State.dr_runLeft]

/-! ### How the belt follows the wanted motion (R65 to R68) -/

theorem State.followBelt_of_hold_held (hb : s.dr.belt = .hold) (hw : s.wanted = .hold) : s.followBelt = s := by
  unfold State.followBelt; rw [hb, hw]

theorem State.followBelt_of_hold_left (hb : s.dr.belt = .hold) (hw : s.wanted ≠ .hold) :
    s.followBelt = if s.dr.short then State.sendGos (s.enterRegulated (Wanted.belt s.wanted) s.dr.resume)
      else s.enterSpinUp true := by
  unfold State.followBelt
  rw [hb]
  cases hm : s.wanted with
  | hold => exact absurd hm hw
  | creep => rfl
  | run => rfl

theorem State.followBelt_of_spinUp_stopped (hb : s.dr.belt = .spinUp) (hw : s.wanted = .hold) :
    s.followBelt = if s.heldHold || s.dr.spinFollows then s.enterHold else s := by
  unfold State.followBelt; rw [hb, hw]

theorem State.followBelt_of_spinUp_left (hb : s.dr.belt = .spinUp) (hw : s.wanted ≠ .hold) :
    s.followBelt = { s with dr := { s.dr with spinFollows := true } } := by
  unfold State.followBelt
  rw [hb]
  cases hm : s.wanted with
  | hold => exact absurd hm hw
  | creep => rfl
  | run => rfl

theorem State.followBelt_of_regulated_stopped (hb : s.dr.belt = .run ∨ s.dr.belt = .creep) (hw : s.wanted = .hold) :
    s.followBelt = s.enterHold := by
  unfold State.followBelt
  rw [hw]
  rcases hb with hb | hb <;> rw [hb]

theorem State.followBelt_of_regulated (hb : s.dr.belt = .run ∨ s.dr.belt = .creep) (hw : s.wanted ≠ .hold) :
    s.followBelt = if s.dr.belt = Wanted.belt s.wanted then s else s.switchRegulated (Wanted.belt s.wanted) := by
  unfold State.followBelt
  cases hm : s.wanted with
  | hold => exact absurd hm hw
  | creep => rcases hb with hb | hb <;> rw [hb] <;> rfl
  | run => rcases hb with hb | hb <;> rw [hb] <;> rfl

theorem State.followBelt_of_park (hb : s.dr.belt = .park) : s.followBelt = s := by
  unfold State.followBelt
  rw [hb]

theorem exec_spinUpExpiry_eq (s : State) : exec .spinUpExpiry s = live s s.doSpinUpExpiry := rfl

theorem exec_spinUpExpiry_of_held (hr : s.Runs) (hb : s.dr.belt = .spinUp) (hd : s.dr.spinLeft = some 0)
    (hw : s.wanted = .hold) : exec .spinUpExpiry s = .next s.enterHold.settle := by
  have hdue : (s.dr.belt == .spinUp && expired s.dr.spinLeft) = true := by rw [hb, hd]; rfl
  rw [exec_spinUpExpiry_eq, live_of_runs hr]
  unfold State.doSpinUpExpiry
  rw [if_pos hdue, hw]

theorem exec_spinUpExpiry_of_motion (hr : s.Runs) (hb : s.dr.belt = .spinUp) (hd : s.dr.spinLeft = some 0)
    (hw : s.wanted ≠ .hold) :
    exec .spinUpExpiry s = .next (State.settle (s.enterRegulated (Wanted.belt s.wanted) s.dr.level)) := by
  have hdue : (s.dr.belt == .spinUp && expired s.dr.spinLeft) = true := by rw [hb, hd]; rfl
  rw [exec_spinUpExpiry_eq, live_of_runs hr]
  unfold State.doSpinUpExpiry
  rw [if_pos hdue]
  cases hm : s.wanted with
  | hold => exact absurd hm hw
  | creep => rfl
  | run => rfl

end

/-! ### Steps that queue a STATUS at most (R166, R173) -/

/-- At most one entry is in use beyond n, and then a STATUS waits that the next one replaces. -/
def State.Tight (s : State) (n : Nat) : Prop :=
  (s.line.reg ≠ none ∧ (s.line.queue.length ≤ n ∨ s.line.queue.length ≤ n + 1
      ∧ (s.line.queue.any fun g => Payload.isStatus g.payload) = true))
    ∨ (s.line.reg = none ∧ s.line.queue = [])

/-- From s to t only a STATUS may have been queued: `State.queueStatus_statusOnly` and the lemmas after it. -/
structure StatusOnly (s t : State) : Prop where
  boot : t.boot = s.boot
  track : t.track = s.track
  en : t.en = s.en
  neigh : ∀ p, t.neigh p = s.neigh p
  sends : ∀ f, Payload.isStatus f.payload = false → (t.Sends f ↔ s.Sends f)
  tight : ∀ n, s.Tight n → t.Tight n

section
variable {s t u : State} {n : Nat}

theorem StatusOnly.refl (s : State) : StatusOnly s s := ⟨rfl, rfl, rfl, fun _ => rfl, fun _ _ => Iff.rfl, fun _ => id⟩

theorem StatusOnly.trans (h : StatusOnly s t) (k : StatusOnly t u) : StatusOnly s u :=
  ⟨k.boot.trans h.boot, k.track.trans h.track, k.en.trans h.en, fun p => (k.neigh p).trans (h.neigh p),
    fun f hf => (k.sends f hf).trans (h.sends f hf), fun n hn => k.tight n (h.tight n hn)⟩

theorem StatusOnly.of_line (hb : t.boot = s.boot) (ht : t.track = s.track) (he : t.en = s.en)
    (hl : t.line = s.line) : StatusOnly s t :=
  ⟨hb, ht, he, fun p => by cases p <;> simp [State.neigh, hl], fun _ _ => State.sends_of_line hl, fun n hn => by
    unfold State.Tight at hn ⊢; rwa [hl]⟩

theorem State.tight_queueStatus (h : s.Tight n) : s.queueStatus.Tight n := by
  have hset (q : List Frame) (hreg : s.line.reg ≠ none) (hq : q.length ≤ n ∨ q.length ≤ n + 1
      ∧ (q.any fun g => Payload.isStatus g.payload) = true) : (s.setQueue q).Tight n := by
    rw [State.setQueue_of_reg hreg]
    exact .inl ⟨hreg, hq⟩
  unfold State.queueStatus State.offerCoalesced State.offerRoutine
  rcases h with ⟨hreg, hlen⟩ | ⟨hreg, hempty⟩
  · split
    next hw =>
      have hany := (Bool.and_eq_true_iff.1 hw).2
      refine hset _ hreg ?_
      rw [List.length_map]
      refine hlen.imp id fun hlen => ⟨hlen.1, ?_⟩
      obtain ⟨g, hg, hst⟩ := List.any_eq_true.1 hany
      exact List.any_eq_true.2 ⟨_, List.mem_map.2 ⟨g, hg, rfl⟩, by rw [if_pos hst]; rfl⟩
    next hw =>
      split
      next hc =>
        have hcan := (Bool.and_eq_true_iff.1 hc).1
        have hnone : ¬(s.line.queue.any fun g => Payload.isStatus g.payload) = true := fun h =>
          hw (Bool.and_eq_true_iff.2 ⟨hcan, h⟩)
        have hle : s.line.queue.length ≤ n := hlen.resolve_right fun h => hnone h.2
        refine hset _ hreg (.inr ⟨by simpa using hle, ?_⟩)
        rw [List.any_append]
        exact Bool.or_eq_true_iff.2 (.inr rfl)
      next => exact .inl ⟨hreg, hlen⟩
  · split
    next hw =>
      rw [hempty] at hw
      exact absurd (Bool.and_eq_true_iff.1 hw).2 Bool.false_ne_true
    next =>
      split
      next =>
        have hset' := State.setQueue_of_no_reg (x := ⟨0, .status s.statusInfo⟩) (q := []) hreg rfl
        rw [hempty, List.nil_append, hset']
        exact .inl ⟨Option.some_ne_none _, .inl (Nat.zero_le _)⟩
      next => exact .inr ⟨hreg, hempty⟩

theorem State.queueStatus_statusOnly (s : State) : StatusOnly s s.queueStatus :=
  ⟨State.get_queueStatus (b := .boot) _ (by decide), State.get_queueStatus (b := .track) _ (by decide),
    State.get_queueStatus (b := .en) _ (by decide), (State.offerCoalesced_keeps s _ _).neigh,
    fun _ hf => State.sends_queueStatus_iff hf, fun _ => State.tight_queueStatus⟩

theorem State.recomputeLevel_statusOnly (s : State) : StatusOnly s s.recomputeLevel := by
  unfold State.recomputeLevel
  split
  · exact .refl s
  · refine .trans ?_ (State.queueStatus_statusOnly _)
    exact .of_line rfl rfl rfl rfl

theorem State.conditionEnd_unsteady_statusOnly (s : State) : StatusOnly s (s.conditionEnd .beltUnsteady) := by
  unfold State.conditionEnd
  dsimp only
  split
  · refine .trans ?_ (State.recomputeLevel_statusOnly _)
    rw [List.foldl_cons, List.foldl_nil]
    unfold State.absentOne
    split <;> exact .of_line rfl rfl rfl rfl
  · exact .of_line rfl rfl rfl rfl

theorem State.runLeft_statusOnly (s : State) : StatusOnly s s.runLeft := by
  unfold State.runLeft
  split
  · unfold State.leaveRun
    dsimp only
    split
    · refine .trans ?_ (State.conditionEnd_unsteady_statusOnly _)
      exact .of_line rfl rfl rfl rfl
    · exact .of_line rfl rfl rfl rfl
  · exact .refl s

theorem StatusOnly.concerned (h : StatusOnly s t) (p : UpPort) : t.concerned p = s.concerned p := by
  unfold State.concerned; rw [h.en, h.track]

theorem StatusOnly.stallMark (h : StatusOnly s t) (p : UpPort) : t.stallMark p = s.stallMark p := by
  unfold State.stallMark; rw [h.en]

theorem StatusOnly.upStation (h : StatusOnly s t) (p : UpPort) : t.upStation p = s.upStation p :=
  State.upStation_congr h.boot p

theorem StatusOnly.followLimit (h : StatusOnly s t) (p : DownPort) (v : Nat) : t.followLimit p v = s.followLimit p v := by
  unfold State.followLimit State.handing; rw [h.boot, h.track, h.neigh]

theorem StatusOnly.targetSpeed (h : StatusOnly s t) : t.targetSpeed = s.targetSpeed := by
  unfold State.targetSpeed State.hasRole; rw [h.followLimit, h.followLimit, h.boot]

/-- Three entries free leave two for prompt frames after any number of STATUS. -/
theorem StatusOnly.room (h : StatusOnly s t) (hcan : s.canQueue = true) (hlen : s.line.queue.length + 3 ≤ 16)
    (hreg : s.line.reg = none → s.line.queue = []) : t.Room 2 := by
  have htight : s.Tight s.line.queue.length := by
    by_cases hr : s.line.reg = none
    · exact .inr ⟨hr, hreg hr⟩
    · exact .inl ⟨hr, .inl le_rfl⟩
  refine ⟨by unfold State.canQueue at hcan ⊢; rwa [h.boot], ?_⟩
  show t.line.queue.length + 2 ≤ 16
  rcases h.tight _ htight with ⟨-, hle | ⟨hle, -⟩⟩ | ⟨-, hempty⟩
  · omega
  · omega
  · rw [hempty]; decide

end

/-! ### STALL and GO upstream (R108) -/

/-- One port's frame and stall mark, where it is told: `State.sendStalls_eq`, `State.sendGos_eq`. -/
def State.tell (t : State) (on : Bool) (m : Bool) (p : UpPort) (d : Station) (g : Payload) : State :=
  if on then State.sendPrompt (t.setStallMark p m) d g else t

section
variable {s t : State} {on m : Bool} {p : UpPort} {d : Station} {g : Payload} {n : Nat}

theorem State.sendStalls_eq (s : State) :
    s.sendStalls = (s.tell (s.concerned .u0) true .u0 (s.upStation .u0) .stall).tell (s.concerned .u1) true .u1
      (s.upStation .u1) .stall := rfl

/-- The GO frame's payload (R108). -/
def State.goFrame (s : State) : Payload := .go (Fin.ofNat 1000 (min s.targetSpeed 999))

theorem State.sendGos_eq (s : State) :
    s.sendGos = (s.tell (s.concerned .u0 || s.stallMark .u0) false .u0 (s.upStation .u0) s.goFrame).tell
      (s.concerned .u1 || s.stallMark .u1) false .u1 (s.upStation .u1) s.goFrame := rfl

theorem State.stallMark_tell (q : UpPort) :
    (s.tell on m p d g).stallMark q = if on = true ∧ q = p then m else s.stallMark q := by
  unfold State.tell
  cases on with
  | false => simp
  | true =>
    have hen : ((s.setStallMark p m).sendPrompt d g).stallMark q = (s.setStallMark p m).stallMark q := by
      unfold State.stallMark
      rw [show ((s.setStallMark p m).sendPrompt d g).en = (s.setStallMark p m).en from
        State.get_sendPrompt (b := .en) _ _ _ (by decide) (by decide)]
    simp only [if_true, true_and]
    rw [hen]
    cases p <;> cases q <;> rfl

theorem State.room_setStallMark (h : s.Room n) : (s.setStallMark p m).Room n := by
  cases p <;> exact h

theorem State.room_tell (h : s.Room (n + 1)) : (s.tell on m p d g).Room n := by
  unfold State.tell
  split
  · exact (State.room_setStallMark h).sendPrompt _ _
  · exact h.mono (Nat.le_succ n)

theorem State.sends_tell (h : s.Room 1) (f : Frame) :
    (s.tell on m p d g).Sends f ↔ s.Sends f ∨ (on = true ∧ f = ⟨d, g⟩) := by
  unfold State.tell
  cases on with
  | false => simp
  | true =>
    have hmark : (s.setStallMark p m).Sends f ↔ s.Sends f := by cases p <;> exact Iff.rfl
    simp only [if_true, true_and]
    rw [State.sends_sendPrompt_iff (State.room_setStallMark h), hmark]

theorem UpPort.exists_iff {P : UpPort → Prop} : (∃ p, P p) ↔ P .u0 ∨ P .u1 :=
  ⟨fun ⟨p, hp⟩ => by cases p <;> [exact .inl hp; exact .inr hp], fun h => h.elim (⟨_, ·⟩) (⟨_, ·⟩)⟩

theorem State.stallMark_sendStalls (s : State) (p : UpPort) :
    s.sendStalls.stallMark p = (s.stallMark p || s.concerned p) := by
  rw [State.sendStalls_eq, State.stallMark_tell, State.stallMark_tell]
  cases p
  · cases hc : s.concerned .u0 <;> simp
  · cases hc : s.concerned .u1 <;> simp

theorem State.stallMark_sendGos (s : State) (p : UpPort) : s.sendGos.stallMark p = false := by
  rw [State.sendGos_eq, State.stallMark_tell, State.stallMark_tell]
  cases p
  · cases hc : s.stallMark .u0 <;> simp
  · cases hc : s.stallMark .u1 <;> simp

theorem State.sends_sendStalls (h : s.Room 2) (f : Frame) :
    s.sendStalls.Sends f ↔ s.Sends f ∨ ∃ p, s.concerned p = true ∧ f = ⟨s.upStation p, .stall⟩ := by
  rw [State.sendStalls_eq, State.sends_tell (State.room_tell h), State.sends_tell (h.mono (by decide)),
    UpPort.exists_iff, or_assoc]

theorem State.sends_sendGos (h : s.Room 2) (f : Frame) :
    s.sendGos.Sends f
      ↔ s.Sends f ∨ ∃ p, (s.concerned p = true ∨ s.stallMark p = true) ∧ f = ⟨s.upStation p, s.goFrame⟩ := by
  rw [State.sendGos_eq, State.sends_tell (State.room_tell h), State.sends_tell (h.mono (by decide)),
    UpPort.exists_iff, or_assoc, Bool.or_eq_true, Bool.or_eq_true]

/-- What a belt entering HOLD says upstream (R108). -/
theorem StatusOnly.stalls (h : StatusOnly s t) :
    (∀ p, t.sendStalls.stallMark p = (s.stallMark p || s.concerned p))
      ∧ (s.canQueue = true → s.line.queue.length + 3 ≤ 16 → (s.line.reg = none → s.line.queue = []) →
        (∀ p, s.concerned p = true → t.sendStalls.Sends ⟨s.upStation p, .stall⟩)
        ∧ (∀ f, Payload.isStatus f.payload = false → t.sendStalls.Sends f →
            s.Sends f ∨ ∃ p, s.concerned p = true ∧ f = ⟨s.upStation p, .stall⟩)) := by
  refine ⟨fun p => by rw [State.stallMark_sendStalls, h.stallMark, h.concerned], fun hcan hlen hreg => ?_⟩
  have hroom := h.room hcan hlen hreg
  refine ⟨fun p hp => ?_, fun f hf hsend => ?_⟩
  · exact (State.sends_sendStalls hroom _).2 (.inr ⟨p, by rwa [h.concerned], by rw [h.upStation]⟩)
  · refine ((State.sends_sendStalls hroom f).1 hsend).imp (h.sends f hf).1 ?_
    rintro ⟨p, hp, he⟩
    exact ⟨p, by rwa [h.concerned] at hp, by rwa [h.upStation] at he⟩

/-- What a belt leaving HOLD or PARK says upstream (R108). -/
theorem StatusOnly.goes (h : StatusOnly s t) :
    (∀ p, t.sendGos.stallMark p = false)
      ∧ (s.canQueue = true → s.line.queue.length + 3 ≤ 16 → (s.line.reg = none → s.line.queue = []) →
        (∀ p, s.concerned p = true ∨ s.stallMark p = true → t.sendGos.Sends ⟨s.upStation p, s.goFrame⟩)
        ∧ (∀ f, Payload.isStatus f.payload = false → t.sendGos.Sends f → s.Sends f ∨
            ∃ p, (s.concerned p = true ∨ s.stallMark p = true) ∧ f = ⟨s.upStation p, s.goFrame⟩)) := by
  have hgo : t.goFrame = s.goFrame := by unfold State.goFrame; rw [h.targetSpeed]
  refine ⟨State.stallMark_sendGos t, fun hcan hlen hreg => ?_⟩
  have hroom := h.room hcan hlen hreg
  refine ⟨fun p hp => ?_, fun f hf hsend => ?_⟩
  · exact (State.sends_sendGos hroom _).2 (.inr ⟨p, by rwa [h.concerned, h.stallMark], by rw [h.upStation, hgo]⟩)
  · refine ((State.sends_sendGos hroom f).1 hsend).imp (h.sends f hf).1 ?_
    rintro ⟨p, hp, he⟩
    exact ⟨p, by rwa [h.concerned, h.stallMark] at hp, by rwa [h.upStation, hgo] at he⟩

end

/-! ### STALL and GO from downstream (R69, R171) -/

section
variable {s : State} {h : Hdr} {p : DownPort}

theorem exec_stall (hh : s.HearsOpen h) :
    exec (.stall h) s = .next (State.settle ((s.refresh h.src).onStall h.src)) := by
  have he : exec (.stall h) s = live s (s.receive h .stall) := rfl
  rw [he, State.receive_toMe (fun t => t.onStall h.src) hh fun _ => rfl]

theorem exec_go (hh : s.HearsOpen h) (v : Fin 1000) :
    exec (.go h v) s = .next (State.settle ((s.refresh h.src).onGo h.src v)) := by
  have he : exec (.go h v) s = live s (s.receive h (.go v)) := rfl
  rw [he, State.receive_toMe (fun t => t.onGo h.src v) hh fun _ => rfl]

theorem State.onStall_of_port {x : Station} (hp : s.downPortOf x = some p) :
    s.onStall x = if s.handing p then s.setSpan p .stalled else s := by
  unfold State.onStall; rw [hp]

theorem State.span_setSpan (q : DownPort) (w : SpanWord) :
    (s.setSpan p w).span q = if q = p then w else s.span q := by
  cases p <;> cases q <;> rfl

theorem State.setSpan_outside (p : DownPort) (w : SpanWord) :
    (s.setSpan p w).dr.belt = s.dr.belt ∧ (s.setSpan p w).dr.level = s.dr.level ∧ (s.setSpan p w).track = s.track
      ∧ (s.setSpan p w).en = s.en ∧ (s.setSpan p w).ex = s.ex ∧ (s.setSpan p w).line = s.line := by
  cases p <;> exact ⟨rfl, rfl, rfl, rfl, rfl, rfl⟩

/-- The GO speed in the sender's neighbour records (R171). -/
def State.goHeard (s : State) (x : Station) (v : Fin 1000) : State :=
  s.updNeighs fun n => if n.station = x then { n with go := some v } else n

theorem State.onGo_of_port {x : Station} (hp : s.downPortOf x = some p) (v : Fin 1000) :
    s.onGo x v = (s.goHeard x v).setSpan p .free := by
  have hp' : (s.goHeard x v).downPortOf x = some p := hp
  unfold State.onGo
  dsimp only
  split
  next q hq =>
    have heq : q = p := Option.some.inj (hq.symm.trans hp')
    rw [heq]; rfl
  next hn => exact absurd (hn.symm.trans hp').symm (Option.some_ne_none p)

theorem State.neigh_goHeard (x : Station) (v : Fin 1000) (q : Port) :
    (s.goHeard x v).neigh q = (s.neigh q).map fun n => if n.station = x then { n with go := some v } else n := by
  cases q <;> rfl

theorem State.span_refresh (x : Station) (q : DownPort) : (s.refresh x).span q = s.span q := by
  unfold State.span; rw [State.dr_refresh]

theorem State.handing_refresh (x : Station) (q : DownPort) : (s.refresh x).handing q = s.handing q :=
  State.handing_congr (s.track_refresh x) q

end

end Sys2Proof.Machine

/-! # The span words, and the belt that follows the wanted motion (R65 to R69, R81, R108, R171) -/

namespace Sys2Proof.Machine

/-- Settles O32: STALL and GO set the span word of the sender's port; a belt entering HOLD runs `State.sendStalls` and
one leaving HOLD or PARK `State.sendGos`, each behind a STATUS at most. -/
theorem spanWordsFollowStallAndGo : Obligations.SpanWordsFollowStallAndGo := by
  have hhold (s : State) : StatusOnly s s.halting.queueStatus := by
    refine .trans ?_ (State.queueStatus_statusOnly _)
    refine s.runLeft_statusOnly.trans ?_
    exact .of_line rfl rfl rfl rfl
  have hspin (s : State) (d : Drive) : StatusOnly s (State.queueStatus { s with dr := d }) := by
    refine .trans ?_ (State.queueStatus_statusOnly _)
    exact .of_line rfl rfl rfl rfl
  refine ⟨fun s h v p hh hp => ⟨?stall, ?go⟩, fun s hb hw => ?stops, fun s hb hw hheld => ?spinStops,
    fun s hr hb hd hw => ?expires, fun s hb hw => ?leaves, fun s hp h3 => ?wakes⟩
  case stall =>
    have hp' : (s.refresh h.src).downPortOf h.src = some p := by rwa [State.downPortOf_refresh]
    obtain ⟨hbelt, hlevel, htrack, hen, hex, -⟩ := (s.refresh h.src).setSpan_outside p .stalled
    have hexec : exec (.stall h) s = .next (State.settle (if s.handing p then
        (s.refresh h.src).setSpan p .stalled else s.refresh h.src)) := by
      rw [exec_stall hh, State.onStall_of_port hp', State.handing_refresh]
    have hspan (q : DownPort) : (s.refresh h.src).span q = s.span q := State.span_refresh h.src q
    rw [State.dr_refresh] at hbelt hlevel
    refine ⟨_, hexec, ?_⟩
    have hother : DownPort.other p ≠ p := by cases p <;> nofun
    split
    · exact ⟨by rw [State.span_setSpan, if_pos rfl], by rw [State.span_setSpan, if_neg hother, hspan], hbelt, hlevel,
        htrack.trans (s.track_refresh _), hen.trans (s.en_refresh _), hex.trans (s.ex_refresh _)⟩
    · exact ⟨hspan p, hspan _, by rw [State.dr_refresh], by rw [State.dr_refresh], s.track_refresh _,
        s.en_refresh _, s.ex_refresh _⟩
  case go =>
    have hp' : (s.refresh h.src).downPortOf h.src = some p := by rwa [State.downPortOf_refresh]
    obtain ⟨hbelt, hlevel, htrack, hen, hex, hline⟩ := ((s.refresh h.src).goHeard h.src v).setSpan_outside p .free
    have hspan (q : DownPort) : ((s.refresh h.src).goHeard h.src v).span q = s.span q :=
      State.span_refresh h.src q
    have hother : DownPort.other p ≠ p := by cases p <;> nofun
    have hdr : ((s.refresh h.src).goHeard h.src v).dr = s.dr := State.dr_refresh s h.src
    rw [hdr] at hbelt hlevel
    refine ⟨_, by rw [exec_go hh, State.onGo_of_port hp'], by rw [State.span_setSpan, if_pos rfl],
      by rw [State.span_setSpan, if_neg hother, hspan], fun q x hx => ?_, hbelt, hlevel,
      htrack.trans (s.track_refresh _), hen.trans (s.en_refresh _), hex.trans (s.ex_refresh _)⟩
    have hneigh : (((s.refresh h.src).goHeard h.src v).setSpan p .free).neigh q
        = ((s.refresh h.src).goHeard h.src v).neigh q := by cases q <;> simp only [State.neigh, hline]
    rw [hneigh, State.neigh_goHeard, State.neigh_refresh, hx]
    by_cases hsrc : x.station = h.src <;> simp [hsrc]
  case stops =>
    rw [State.followBelt_of_regulated_stopped hb hw, State.enterHold_eq]
    exact (hhold s).stalls
  case spinStops =>
    rw [State.followBelt_of_spinUp_stopped hb hw, if_pos (Bool.or_eq_true_iff.2 hheld), State.enterHold_eq]
    exact (hhold s).stalls
  case expires =>
    refine ⟨s.enterHold, exec_spinUpExpiry_of_held hr hb hd hw, ?_⟩
    rw [State.enterHold_eq]
    exact (hhold s).stalls
  case leaves =>
    rw [State.followBelt_of_hold_left hb hw]
    split
    · exact (hspin s _).goes
    · exact (hspin s _).goes
  case wakes =>
    rw [State.wake_of_parked hp h3]
    have hgo : StatusOnly s (State.queueStatus { s with
        idle := { s.idle.awake with wakePending := false }
        dr := { s.dr with belt := .spinUp, level := s.boot.prof.startLevel,
                          spinLeft := some s.boot.prof.spinUp, spinFollows := false } }) := by
      refine .trans ?_ (State.queueStatus_statusOnly _)
      exact .of_line rfl rfl rfl rfl
    exact hgo.goes

/-! ### A belt that level 3 stops in SPIN-UP (R62, R66) -/

/-- The drive of a belt that has entered HOLD from SPIN-UP with a resume level. -/
def Drive.Halted (d : Drive) (r : Nat) : Prop :=
  d.belt = .hold ∧ d.level = 0 ∧ d.holdFrom = some .spinUp ∧ d.holdTicks = 0 ∧ d.spinLeft = none ∧ d.resume = r

/-- The belt is in SPIN-UP or has entered HOLD from it. -/
def Drive.Halting (d : Drive) (r : Nat) : Prop := d.belt = .spinUp ∧ d.resume = r ∨ d.Halted r

section
variable {s t : State} {r : Nat}

theorem Drive.halted_held {d : Drive} (hb : d.belt = .spinUp) (hr : d.resume = r) : d.held.Halted r := by
  have hreg : BeltState.regulated d.belt = false := by rw [hb]; rfl
  refine ⟨rfl, rfl, congrArg some hb, rfl, rfl, ?_⟩
  show (if BeltState.regulated d.belt then d.level else d.resume) = r
  rw [hreg]; exact hr

theorem State.dr_freeSpans (s : State) : ∃ a b, s.freeSpans.dr = { s.dr with span0 := a, span1 := b } := by
  unfold State.freeSpans
  dsimp only
  split <;> split <;> exact ⟨_, _, rfl⟩

theorem State.dr_updateTarget (s : State) :
    ∃ n i l, s.updateTarget.dr = { s.dr with t16 := n, inBand := i, lock := l } := by
  unfold State.updateTarget
  dsimp only
  split
  · exact ⟨_, _, _, rfl⟩
  · split <;> exact ⟨_, _, _, rfl⟩

theorem State.pendingWake_of_level3 (h : s.att.level = 3) : s.pendingWake = s := by
  unfold State.pendingWake
  rw [h]
  exact if_neg (by simp)

theorem State.wanted_of_level3 (h : s.att.level = 3) : s.wanted = .hold ∧ s.heldHold = true := by
  have hheld : s.heldHold = true := by simp [State.heldHold, h]
  refine ⟨?_, hheld⟩
  unfold State.wanted
  rw [hheld, Bool.true_or, if_pos rfl]

/-- At level 3 the belt that is in SPIN-UP enters HOLD, and one that has stays. -/
theorem State.halted_followBelt (h3 : s.att.level = 3) (h : s.dr.Halting r) : s.followBelt.dr.Halted r := by
  obtain ⟨hw, hheld⟩ := State.wanted_of_level3 h3
  rcases h with ⟨hb, hr⟩ | h
  · rw [State.followBelt_of_spinUp_stopped hb hw, hheld, Bool.true_or, if_pos rfl, State.dr_enterHold]
    exact Drive.halted_held hb hr
  · rwa [State.followBelt_of_hold_held h.1 hw]

/-- A pass under a PENDING cause of severity 3 stops the SPIN-UP. -/
theorem State.halted_pass (h3 : s.Stopped3) (h : s.dr.Halting r) : (s.pass true).dr.Halted r := by
  have hfree : Derives s s.bayFollows.withdrawAtLevel3.freeSpans :=
    s.bayFollows_derives.trans <| (State.withdrawAtLevel3_derives _).trans (State.freeSpans_derives _)
  have hdr : s.bayFollows.withdrawAtLevel3.dr = s.dr :=
    (State.get_withdrawAtLevel3 (b := .dr) _ (by decide) (by decide) (by decide) (by decide)).trans
      (State.get_bayFollows (b := .dr) _ (by decide) (by decide))
  obtain ⟨a, b, hspan⟩ := s.bayFollows.withdrawAtLevel3.dr_freeSpans
  have hhalting : s.bayFollows.withdrawAtLevel3.freeSpans.dr.Halting r := by rw [hspan, hdr]; exact h
  rw [State.pass_eq]
  unfold State.passOn'
  rw [State.pendingWake_of_level3 (hfree.level h3).1]
  generalize hv : s.bayFollows.withdrawAtLevel3.freeSpans = v at hfree hhalting
  have hoffer : Derives v v.gateStep.offerStep := v.gateStep_derives.trans (State.offerStep_derives _)
  have hdr' : v.gateStep.offerStep.dr = v.dr :=
    (State.get_offerStep (b := .dr) _ (by decide) (by decide) (by decide) (by decide) (by decide)
        (by decide) (by decide)).trans
      (State.get_gateStep (b := .dr) _ (by decide))
  have hfollow : v.gateStep.offerStep.followBelt.dr.Halted r :=
    State.halted_followBelt (hoffer.level (hfree.level h3)).1 (by rwa [hdr'])
  obtain ⟨n, i, l, htarget⟩ := v.gateStep.offerStep.followBelt.dr_updateTarget
  have hend (t : State) : t.readyStep.followIdle.bayFollows.unaccountedStep.dr = t.dr :=
    (State.get_unaccountedStep (b := .dr) _ (by decide)).trans <| (State.get_bayFollows (b := .dr) _
        (by decide) (by decide)).trans <|
      (State.get_followIdle (b := .dr) _ (by decide)).trans (State.get_readyStep (b := .dr) _
          (by decide) (by decide) (by decide))
  simp only [if_true]
  rw [hend, htarget]
  exact hfollow

/-- The derived actions under a PENDING cause of severity 3 end with a belt stopped in SPIN-UP in HOLD. -/
theorem State.halted_settle (h3 : s.Stopped3) (h : s.dr.Halting r) : s.settle.dr.Halted r := by
  have hpass := State.halted_pass h3 h
  have h3' := (s.pass_derives true).level h3
  have h3'' := ((s.pass true).pass_derives true).level h3'
  have hlast : (State.pass true (State.pass true (State.pass true s))).dr.Halted r :=
    State.halted_pass h3'' (.inr (State.halted_pass h3' (.inr hpass)))
  unfold State.settle
  rw [State.dr_finish]
  unfold State.restrict3
  dsimp only
  split
  · have hdr := State.dr_withdrawHead (State.pass true (State.pass true (State.pass true s)))
    rw [if_pos (.inl (by rw [hdr]; exact hlast.1)), hdr]
    exact hlast
  · exact hlast

theorem State.stopped3_raiseStanding {c : Cause} (habs : (s.cause c).st = .absent) (hsev : s.severity c = 3) (d : Nat) :
    (s.raiseStanding c d).Stopped3 := by
  have hpend : ((s.raiseStanding c d).cause c).st = .pending := by rw [State.cause_raiseStanding, if_pos rfl]
  have hboot : (s.raiseStanding c d).boot = s.boot := State.get_raiseStanding (b := .boot) _ _ _ (by decide) (by decide)
  have hsev' : (s.raiseStanding c d).severity c = 3 := (congrFun (State.severity_congr hboot) c).trans hsev
  have hlevel : (s.raiseStanding c d).att.level = (s.raiseStanding c d).levelNow := by
    have habs' : ((s.setCause c { s.cause c with present := true }).cause c).st = .absent := by
      rw [State.cause_setCause, if_pos rfl]; exact habs
    unfold State.raiseStanding
    rw [State.raise_of_absent _ _ _ habs', State.level_recomputeLevel, State.levelNow_recomputeLevel]
  exact ⟨hlevel.trans (State.levelNow_of_pending3 _ hpend hsev'), c, hpend, hsev'⟩

theorem State.ex_conditionEnd {c : Cause} (h : c ≠ .lostRack) : (s.conditionEnd c).ex = s.ex := by
  unfold State.conditionEnd
  dsimp only
  split
  next hack =>
    have hne : ((s.setCause c { s.cause c with present := false }).cause c).st ≠ .absent := by
      rw [State.cause_setCause, if_pos rfl]
      exact fun habs => absurd (hack.symm.trans habs) (by decide)
    rw [State.ex_absentAll_singleton hne, bne_iff_ne.2 h, Bool.and_true]
    rfl
  next => rfl

theorem State.ex_enterHold (s : State) : s.enterHold.ex = s.ex := by
  have hleft : s.runLeft.ex = s.ex := by
    unfold State.runLeft State.leaveRun
    dsimp only
    split
    · split
      · exact State.ex_conditionEnd (by decide)
      · rfl
    · rfl
  rw [State.enterHold_eq]
  exact (State.get_sendStalls (b := .ex) _ (by decide) (by decide) (by decide)).trans
    ((State.get_queueStatus (b := .ex) _ (by decide)).trans hleft)

theorem Drive.short_iff (d : Drive) :
    d.short = true ↔ (d.holdFrom = some .run ∨ d.holdFrom = some .creep) ∧ d.holdTicks < 50 := by
  have h50 : Config.shortHold = 50 := rfl
  unfold Drive.short
  rw [h50, Bool.and_eq_true, decide_eq_true_iff]
  refine and_congr_left fun _ => ?_
  cases d.holdFrom with
  | none => simp
  | some b => cases b <;> simp [BeltState.regulated]

theorem Wanted.belt_eq {w : Wanted} (h : w ≠ .hold) : w.belt = if w = .creep then .creep else .run := by
  cases w with
  | hold => exact absurd rfl h
  | creep => rfl
  | run => rfl

end

/-- Settles O22: SPIN-UP's expiry and each row of `State.followBelt`; the stop chain's level 3 stops a SPIN-UP in the
first pass of settling. -/
theorem beltStateFollowsTheWantedMotion : Obligations.BeltStateFollowsTheWantedMotion := by
  have hstop {s : State} (hb : s.dr.belt = .spinUp) : s.enterHold.dr.Halted s.dr.resume := by
    rw [State.dr_enterHold]; exact Drive.halted_held hb rfl
  refine ⟨fun s hr hb hd => ?expiry, fun s => ⟨State.followBelt_of_hold_held, fun hb hw hfrom hticks => ?short,
    fun hb hw hlong => ?long, fun hb hw => ?stops, fun hb hw => ?moves, State.followBelt_of_park⟩,
    fun s hb => ⟨fun hw hheld => ?spinStops, fun hw hheld hf => ?spinStays, State.followBelt_of_spinUp_left hb,
      fun hr hhigh habs hpres => ?estop⟩⟩
  case expiry =>
    by_cases hw : s.wanted = .hold
    · obtain ⟨hbelt, hlevel, hfrom, hticks, hspin, hres⟩ := hstop hb
      have rest {b : Block} := State.get_enterHold (s := s) (b := b)
      exact ⟨s.enterHold, exec_spinUpExpiry_of_held hr hb hd hw, fun h => absurd hw h,
        fun _ => ⟨hbelt, hlevel, hfrom, hticks, hres⟩, hspin, rest (b := .track) (by decide) (by decide)
            (by decide) (by decide) (by decide),
        rest (b := .eyes) (by decide) (by decide) (by decide) (by decide) (by decide), s.ex_enterHold,
        rest (b := .boot) (by decide) (by decide) (by decide) (by decide) (by decide), rest (b := .cu)
            (by decide) (by decide) (by decide) (by decide) (by decide)⟩
    · have hdr := s.dr_enterRegulated (Wanted.belt s.wanted) s.dr.level
      have rest {b : Block} (h : b ≠ .line) (h' : b ≠ .dr) :
          (s.enterRegulated (Wanted.belt s.wanted) s.dr.level).get b = s.get b :=
        (State.get_queueStatus _ h).trans (by cases b <;> first | rfl | exact absurd rfl h')
      refine ⟨_, exec_spinUpExpiry_of_motion hr hb hd hw, fun _ => ?_, fun h => absurd h hw, by rw [hdr],
        rest (b := .track) (by decide) (by decide), rest (b := .eyes) (by decide) (by decide),
            rest (b := .ex) (by decide) (by decide),
        rest (b := .boot) (by decide) (by decide), rest (b := .cu) (by decide) (by decide)⟩
      rw [hdr]
      exact ⟨Wanted.belt_eq hw, rfl, rfl, rfl, rfl, rfl, rfl, rfl, rfl, rfl, rest (b := .att) (by decide) (by decide),
        rest (b := .en) (by decide) (by decide)⟩
  case short =>
    have hgo (t : State) : t.sendGos.dr = t.dr := State.get_sendGos (b := .dr) _ (by decide) (by decide) (by decide)
    rw [State.followBelt_of_hold_left hb hw, if_pos ((Drive.short_iff _).2 ⟨hfrom, hticks⟩), hgo,
      State.dr_enterRegulated]
    exact ⟨Wanted.belt_eq hw, rfl⟩
  case long =>
    have hno : ¬ s.dr.short = true := fun h => by
      obtain ⟨hfrom, hticks⟩ := (Drive.short_iff _).1 h
      rcases hlong with ⟨hrun, hcreep⟩ | hlong
      · exact hfrom.elim hrun hcreep
      · exact absurd hlong (Nat.not_le.2 hticks)
    rw [State.followBelt_of_hold_left hb hw, if_neg hno, State.dr_enterSpinUp]
    exact ⟨rfl, rfl, rfl⟩
  case stops =>
    have hreg : BeltState.regulated s.dr.belt = true := by rcases hb with hb | hb <;> rw [hb] <;> rfl
    rw [State.followBelt_of_regulated_stopped hb hw, State.dr_enterHold]
    exact ⟨rfl, rfl, if_pos hreg, rfl, rfl⟩
  case moves =>
    rw [State.followBelt_of_regulated hb hw, ← Wanted.belt_eq hw]
    split
    next he => exact ⟨he, rfl, rfl⟩
    next => rw [State.dr_switchRegulated]; exact ⟨rfl, rfl, rfl⟩
  case spinStops =>
    rw [State.followBelt_of_spinUp_stopped hb hw, if_pos (Bool.or_eq_true_iff.2 hheld)]
    exact hstop hb
  case spinStays =>
    rw [State.followBelt_of_spinUp_stopped hb hw, hheld, hf]
    exact if_neg Bool.false_ne_true
  case estop =>
    have hdue : s.doEstopOpen = (s.raiseStanding .estop 0).settle := if_pos ⟨hhigh, hpres⟩
    have h3 : (s.raiseStanding .estop 0).Stopped3 := State.stopped3_raiseStanding habs (if_pos (.inl rfl)) 0
    have hdr : (s.raiseStanding .estop 0).dr = s.dr := State.get_raiseStanding (b := .dr) _ _ _ (by decide) (by decide)
    refine ⟨_, by rw [exec_estopOpen_eq, live_of_runs hr, hdue], ?_, ((State.settle_derives _).level h3).1⟩
    exact State.halted_settle h3 (.inl ⟨by rw [hdr, hb], by rw [hdr]⟩)

end Sys2Proof.Machine

/-! # The window end (R70, R71, R74 to R77) -/

namespace Sys2Proof.Machine

section
variable {s : State}

/-- The error of the window that ends (R74). -/
def State.windowError (s : State) : Int := (s.windowMeasure.dr.t16 : Int) - (s.windowMeasure.dr.m16 : Int)

/-- The drive block after the measurement and the regulation of a window (R70, R71, R74, R75). -/
def State.regulated (s : State) : Drive := s.windowMeasure.dr.regulate s.windowError s.boot.prof.gain

/-- The state of a window end before its derived actions. -/
def State.windowed (s : State) : State :=
  if BeltState.regulated s.dr.belt then s.windowMeasure.windowRegulate else s.windowMeasure

theorem exec_windowEnd_of_due (hr : s.Runs) (hd : s.dr.winLeft = some 0) :
    exec .windowEnd s = .next s.windowed.settle := by
  have he : exec .windowEnd s = live s s.doWindowEnd := rfl
  have hdue : expired s.dr.winLeft = true := by rw [hd]; rfl
  rw [he, live_of_runs hr]
  exact congrArg Host.Outcome.next (if_pos hdue)

theorem BeltState.regulated_iff (b : BeltState) : BeltState.regulated b = true ↔ b = .run ∨ b = .creep := by
  cases b <;> simp [BeltState.regulated]

theorem State.windowed_of_motion (h : s.dr.belt = .run ∨ s.dr.belt = .creep) :
    s.windowed = State.windowJudge { s.windowMeasure with dr := s.regulated } s.windowError := by
  unfold State.windowed
  rw [if_pos ((BeltState.regulated_iff _).2 h), State.windowRegulate_eq]
  rfl

theorem State.windowed_of_still (h : s.dr.belt ≠ .run) (h' : s.dr.belt ≠ .creep) : s.windowed = s.windowMeasure :=
  if_neg fun hreg => ((BeltState.regulated_iff _).1 hreg).elim h h'

/-- The lock step moves the lock state and its two runs alone (R77). -/
theorem Drive.lockStep_writes (d : Drive) (e : Int) :
    ∃ l i o, d.lockStep e = { d with lock := l, inBand := i, outBand := o } := by
  unfold Drive.lockStep
  dsimp only
  (repeat' split) <;> exact ⟨_, _, _, rfl⟩

/-- What is left of a window's regulation: a failure, or the lock step (R75 to R77). -/
theorem State.windowJudge_of_high {e : Int} (h : s.dr.satHigh = 8) :
    s.windowJudge e
      = State.raise { s with dr := { s.dr with lock := .failSlow } } .beltOverload s.dr.vmeas.val := if_pos h

theorem State.windowJudge_of_low {e : Int} (h : s.dr.satHigh ≠ 8) (h' : s.dr.satLow = 8) :
    s.windowJudge e
      = State.raise { s with dr := { s.dr with lock := .failFast } } .beltOverrun s.dr.vmeas.val :=
  (if_neg h).trans (if_pos h')

theorem State.windowJudge_of_within {e : Int} (h : s.dr.satHigh ≠ 8) (h' : s.dr.satLow ≠ 8) :
    s.windowJudge e = State.lockedNow { s with dr := s.dr.lockStep e } := (if_neg h).trans (if_neg h')

theorem State.dr_lockedNow (s : State) :
    s.lockedNow.dr = { s.dr with unsteady := if s.dr.lock = .locked then 0 else s.dr.unsteady } := by
  unfold State.lockedNow
  split
  · exact State.dr_leaveRun s
  · rfl

/-- A judged window moves the lock state, its runs and the unsteady count alone. -/
theorem State.dr_windowJudge (s : State) (e : Int) :
    ∃ l i o n, (s.windowJudge e).dr = { s.dr with lock := l, inBand := i, outBand := o, unsteady := n } := by
  by_cases hhigh : s.dr.satHigh = 8
  · rw [State.windowJudge_of_high hhigh]
    exact ⟨.failSlow, _, _, _, State.get_raise (b := .dr) _ _ _ (by decide) (by decide)⟩
  · by_cases hlow : s.dr.satLow = 8
    · rw [State.windowJudge_of_low hhigh hlow]
      exact ⟨.failFast, _, _, _, State.get_raise (b := .dr) _ _ _ (by decide) (by decide)⟩
    · obtain ⟨l, i, o, hlock⟩ := s.dr.lockStep_writes e
      rw [State.windowJudge_of_within hhigh hlow, State.dr_lockedNow]
      dsimp only
      rw [hlock]
      exact ⟨_, _, _, _, rfl⟩

theorem State.get_windowJudge {b : Block} (e : Int) (h : b ≠ .dr) (h₁ : b ≠ .att) (h₂ : b ≠ .line)
    (h₃ : b ≠ .ex) : (s.windowJudge e).get b = s.get b := by
  have hdr (d : Drive) : ({ s with dr := d } : State).get b = s.get b := State.get_dr s d h
  unfold State.windowJudge
  split
  · exact (State.get_raise _ _ _ h₁ h₂).trans (hdr _)
  · split
    · exact (State.get_raise _ _ _ h₁ h₂).trans (hdr _)
    · unfold State.lockedNow
      split
      · exact (State.get_leaveRun _ h h₁ h₂ h₃).trans (hdr _)
      · exact hdr _

theorem State.get_windowed {b : Block} (h : b ≠ .dr) (h₁ : b ≠ .att) (h₂ : b ≠ .line) (h₃ : b ≠ .ex) :
    s.windowed.get b = s.get b := by
  have hm : s.windowMeasure.get b = s.get b := State.get_dr s _ h
  unfold State.windowed
  split
  · rw [State.windowRegulate_eq]
    exact (State.get_windowJudge _ h h₁ h₂ h₃).trans ((State.get_dr _ _ h).trans hm)
  · exact hm

theorem pushHistory_eq (h : List Nat) (w : Nat) : pushHistory h w = (h ++ [w]).drop (h.length + 1 - 4) := by
  unfold pushHistory
  dsimp only
  rw [List.length_append, List.length_singleton]

theorem speedOf_val (k m : Nat) : (speedOf k m).val = min (m * 250 / k) 999 := by
  have hlt : min (m * 250 / k) 999 < 1000 := by omega
  exact Nat.mod_eq_of_lt hlt

theorem min_toNat_cast (x : Int) : ((min x.toNat 1023 : Nat) : Int) = max 0 (min x 1023) := by omega

theorem Drive.level_regulate (d : Drive) (e : Int) (g : Nat) :
    ((d.regulate e g).level : Int) = max 0 (min ((d.level : Int) + (e * g).tdiv 64) 1023) :=
  min_toNat_cast ((d.level : Int) + (e * g).tdiv 64)

/-- The measured state keeps what regulation starts from. -/
theorem State.dr_windowed (s : State) (h : s.dr.belt = .run ∨ s.dr.belt = .creep) :
    ∃ l i o n, s.windowed.dr = { s.regulated with lock := l, inBand := i, outBand := o, unsteady := n } := by
  rw [State.windowed_of_motion h]
  exact State.dr_windowJudge _ _

/-- A window whose count of saturation high reaches 8 is a failure BELT-OVERLOAD (R76). -/
theorem State.windowed_of_high (h : s.dr.belt = .run ∨ s.dr.belt = .creep) (h8 : s.regulated.satHigh = 8) :
    s.windowed.dr.lock = .failSlow ∧ (s.windowed.cause .beltOverload).st = .pending
      ∧ (s.windowed.cause .beltOverload).detail = BitVec.ofNat 16 s.windowMeasure.dr.vmeas.val := by
  rw [State.windowed_of_motion h, State.windowJudge_of_high (s := { s.windowMeasure with dr := s.regulated }) h8,
    State.cause_raise, if_pos rfl]
  exact ⟨congrArg Drive.lock (State.get_raise (b := .dr) _ _ _ (by decide) (by decide)), rfl, rfl⟩

/-- One whose count of saturation low reaches 8 is a failure BELT-OVERRUN (R76). -/
theorem State.windowed_of_low (h : s.dr.belt = .run ∨ s.dr.belt = .creep) (h8 : s.regulated.satHigh ≠ 8)
    (h8' : s.regulated.satLow = 8) :
    s.windowed.dr.lock = .failFast ∧ (s.windowed.cause .beltOverrun).st = .pending
      ∧ (s.windowed.cause .beltOverrun).detail = BitVec.ofNat 16 s.windowMeasure.dr.vmeas.val := by
  rw [State.windowed_of_motion h, State.windowJudge_of_low (s := { s.windowMeasure with dr := s.regulated }) h8 h8',
    State.cause_raise, if_pos rfl]
  exact ⟨congrArg Drive.lock (State.get_raise (b := .dr) _ _ _ (by decide) (by decide)), rfl, rfl⟩

end

/-- Settles O20: the measurement is the same in every belt state; in RUN and CREEP the regulation follows, whose
judgement leaves level, counts and measurement. -/
theorem windowEndMeasuresAndRegulates : Obligations.WindowEndMeasuresAndRegulates := by
  intro s hr hd w h m e sum
  have hhist : s.windowMeasure.dr.history = h := pushHistory_eq _ _
  have hm16 : s.windowMeasure.dr.m16 = m := by
    show measure (pushHistory _ _) = _
    rw [pushHistory_eq]; rfl
  have herr : s.windowError = e := by unfold State.windowError; rw [hm16]; rfl
  have hvmeas : (s.boot.loaded = true → s.windowMeasure.dr.vmeas.val = min (m * 250 / s.boot.prof.k) 999)
      ∧ (s.boot.loaded = false → s.windowMeasure.dr.vmeas = if m = 0 then 0 else Config.unprofiledSpeed m) := by
    have hv : s.windowMeasure.dr.vmeas
        = if s.boot.loaded then speedOf s.boot.prof.k m
          else if m = 0 then 0 else Config.unprofiledSpeed m := by
      rw [← hm16]; rfl
    rw [hv]
    exact ⟨fun hl => by rw [if_pos hl, speedOf_val], fun hl => by rw [hl, if_neg Bool.false_ne_true]⟩
  refine ⟨s.windowed, exec_windowEnd_of_due hr hd, ?_⟩
  have rest {b : Block} := State.get_windowed (s := s) (b := b)
  by_cases hmove : s.dr.belt = .run ∨ s.dr.belt = .creep
  · obtain ⟨l, i, o, n, hdr⟩ := s.dr_windowed hmove
    have hlevel := Drive.level_regulate s.windowMeasure.dr s.windowError s.boot.prof.gain
    rw [herr] at hlevel
    have hsat : s.windowed.dr.satHigh = s.regulated.satHigh ∧ s.windowed.dr.satLow = s.regulated.satLow
        ∧ s.windowed.dr.vmeas = s.windowMeasure.dr.vmeas := by rw [hdr]; exact ⟨rfl, rfl, rfl⟩
    obtain ⟨hhigh, hlow, hv⟩ := hsat
    refine ⟨by rw [hdr]; exact hhist, by rw [hdr]; exact hm16, by rw [hv]; exact hvmeas.1, by rw [hv]; exact hvmeas.2,
      by rw [hdr]; rfl, by rw [hdr]; rfl, by rw [hdr]; rfl, by rw [hdr]; rfl, fun _ => ⟨?level, ?high, ?low,
        fun h8 => ?tooHigh, fun h8 h8' => ?tooLow⟩, fun hnr hnc => absurd hmove (not_or.2 ⟨hnr, hnc⟩),
      rest (b := .track) (by decide) (by decide) (by decide) (by decide), rest (b := .eyes) (by decide)
          (by decide) (by decide) (by decide),
      rest (b := .en) (by decide) (by decide) (by decide) (by decide), rest (b := .cu) (by decide)
          (by decide) (by decide) (by decide)⟩
    case level =>
      rw [hdr, show ({ s.regulated with lock := l, inBand := i, outBand := o, unsteady := n } : Drive).level
        = (s.windowMeasure.dr.regulate e s.boot.prof.gain).level by rw [State.regulated, herr]]
      exact hlevel
    case high => rw [hhigh, State.regulated, herr]; rfl
    case low => rw [hlow, State.regulated, herr]; rfl
    case tooHigh =>
      rw [hv]
      exact State.windowed_of_high hmove (hhigh ▸ h8)
    case tooLow =>
      rw [hv]
      exact State.windowed_of_low hmove (hhigh ▸ h8) (hlow ▸ h8')
  · obtain ⟨hnr, hnc⟩ := not_or.1 hmove
    have hw := State.windowed_of_still hnr hnc
    rw [hw]
    exact ⟨hhist, hm16, hvmeas.1, hvmeas.2, rfl, rfl, rfl, rfl, fun h => absurd h hmove,
      fun _ _ => ⟨rfl, rfl, rfl, rfl, rfl⟩, rfl, rfl, rfl, rfl⟩

end Sys2Proof.Machine

/-! # A state whose T16 is not its target after the derived actions (R73)

The third pass of settling sets T16, and the restriction of level 3 may still withdraw the head's offer after it. On a
track where a released record bears the name of the OFFERED head, that withdrawal takes both back, and the port of the
released record is then no longer followed. The withdrawal comes that late only where the level first reaches 3 in the
third pass: here behind 27 heads that are released without an exchange, 13 in each pass. -/

namespace Sys2Proof.Machine

/-- A FEED with no neighbour on D0 that follows one on D1. -/
def crowdedProf : Profile :=
  { role := .feed, d0 := 0, d1 := 44, k := 800, length := 1200, offerLead := 150, approachLead := 100,
    target := 60, follow := true }

/-- The record of a name, its front at a count, past ENTRY. -/
def crowdedRec (i : Nat) (front : Count) (st : RecState) (p : Option DownPort) : Rec :=
  { blankRec i front with state := st, entryOpen := false, exitPort := p }

/-- A released record for D1, 27 heads to release on D0, and an OFFERED one that bears the first one's name and stands
past its stop mark; the belt is in RUN with a BELT-UNSTEADY that ends with RUN, and E-STOP is not yet in the level. -/
def crowded : State :=
  { State.reset with
    boot := { resetHeld := false, mode := .active, station := some 22, loaded := true, prof := crowdedProf,
              cts := countsOf crowdedProf }
    cu := { State.reset.cu with count := 1000 }
    track := crowdedRec 28 0 .taken (some .d1)
      :: ((List.range' 1 27).map fun i => crowdedRec i 150 (if i = 1 then .head else .riding) none)
      ++ [{ crowdedRec 28 0 .offered (some .d0) with exitSerial := some 3 }]
    marks := { owner := some 1, offer := ⟨990, .fired⟩ }
    dr := { belt := .run }
    line := { State.reset.line with d1 := some ⟨44, 0, true, some 20, none⟩ }
    att := { State.reset.att with causes := { State.reset.att.causes with
      estop := { st := .pending }
      beltUnsteady := { st := .pendingAck, present := true } } } }

/-- Its T16 is that of the GO speed 20 on D1, which it no longer follows. -/
theorem crowded_t16_settle : crowded.settle.dr.t16 = 64 ∧ crowded.settle.targetT16 = 192 := by decide +kernel

/-- Refutes O21: in its third part T16 need not be the target of the settled state. -/
theorem not_lockAndUnsteadyFollowTheError : ¬ Obligations.LockAndUnsteadyFollowTheError := by
  rintro ⟨-, -, htarget, -⟩
  obtain ⟨-, -, -, -, hsettled⟩ := htarget crowded
  obtain ⟨ht16, hnow⟩ := crowded_t16_settle
  have h := (hsettled rfl).1
  rw [ht16, hnow] at h
  exact absurd h (by decide)

end Sys2Proof.Machine

/-! # Frames and the runs of characters that spell them (R161, R167, R168) -/

namespace Sys2Proof.Machine

/-! ### Coded fields -/

theorem inRange_eq_some_iff {b n : Nat} {x : Fin b} : inRange b n = some x ↔ x.val = n := by
  unfold inRange
  split
  next h => rw [Option.some.injEq, Fin.ext_iff, eq_comm]
  next h => exact ⟨fun hn => absurd hn.symm (Option.some_ne_none x), fun hx => absurd (hx ▸ x.isLt) h⟩

theorem Role.ofCode_code (r : Role) : Role.ofCode (Role.code r) = some r := by cases r <;> rfl
theorem BeltState.ofCode_code (b : BeltState) : BeltState.ofCode (BeltState.code b) = some b := by cases b <;> rfl
theorem LockState.ofCode_code (l : LockState) : LockState.ofCode (LockState.code l) = some l := by cases l <;> rfl
theorem RefuseReason.ofCode_code (r : RefuseReason) : RefuseReason.ofCode (RefuseReason.code r) = some r := by
  cases r <;> rfl
theorem LandStatus.ofCode_code (l : LandStatus) : LandStatus.ofCode (LandStatus.code l) = some l := by
  cases l <;> rfl
theorem Mode.ofCode_code {m : Mode} (h : m ≠ .loading) : Mode.ofCode (Mode.code m) = some m := by
  cases m with
  | loading => exact absurd rfl h
  | scanning | active | unset => rfl

theorem Role.code_of_ofCode {n : Nat} {r : Role} (h : Role.ofCode n = some r) : Role.code r = n := by
  unfold Role.ofCode at h; split at h <;> cases h <;> rfl
theorem BeltState.code_of_ofCode {n : Nat} {b : BeltState} (h : BeltState.ofCode n = some b) :
    BeltState.code b = n := by
  unfold BeltState.ofCode at h; split at h <;> cases h <;> rfl
theorem LockState.code_of_ofCode {n : Nat} {l : LockState} (h : LockState.ofCode n = some l) :
    LockState.code l = n := by
  unfold LockState.ofCode at h; split at h <;> cases h <;> rfl
theorem RefuseReason.code_of_ofCode {n : Nat} {r : RefuseReason} (h : RefuseReason.ofCode n = some r) :
    RefuseReason.code r = n := by
  unfold RefuseReason.ofCode at h; split at h <;> cases h <;> rfl
theorem LandStatus.code_of_ofCode {n : Nat} {l : LandStatus} (h : LandStatus.ofCode n = some l) :
    LandStatus.code l = n := by
  unfold LandStatus.ofCode at h; split at h <;> cases h <;> rfl
theorem Mode.code_of_ofCode {n : Nat} {m : Mode} (h : Mode.ofCode n = some m) : Mode.code m = n := by
  unfold Mode.ofCode at h; split at h <;> cases h <;> rfl
theorem Cause.code_of_ofCode {n : Nat} {c : Cause} (h : Cause.ofCode n = some c) : Cause.code c = n := by
  have hcode : (Cause.all.map Cause.code)[n]? = some (Cause.code c) :=
    List.getElem?_map.trans (congrArg (Option.map Cause.code) h)
  obtain ⟨hlt, hc⟩ := List.getElem?_eq_some_iff.1 (show (List.range 18)[n]? = _ from hcode)
  exact hc.symm.trans (List.getElem_range hlt)

/-- A field whose value m stands for none, read back from the code of an optional value. -/
theorem read_optional {α : Type} {m : Nat} {read : Nat → Option α} {code : α → Nat}
    (hr : ∀ x, read (code x) = some x) (hne : ∀ x, code x ≠ m) (o : Option α) :
    (if (o.map code).getD m = m then some none else (read ((o.map code).getD m)).map some) = some o := by
  cases o with
  | none => exact if_pos rfl
  | some x => exact (if_neg (hne x)).trans (congrArg (Option.map some) (hr x))

theorem Role.code_ne (r : Role) : Role.code r ≠ 7 := by cases r <;> exact Nat.ne_of_lt (by decide)

theorem Cause.code_lt (c : Cause) : Cause.code c < 18 :=
  (List.getElem?_eq_some_iff.1 (Cause.ofCode_code c)).1

/-! ### The flag field (R168) -/

theorem testBit_zero_flag (b : Bool) (m : Nat) : (b.toNat + 2 * m).testBit 0 = b := by
  cases b <;> simp [Nat.testBit_zero, Nat.add_mul_mod_self_left]

theorem testBit_succ_flag (b : Bool) (m i : Nat) : (b.toNat + 2 * m).testBit (i + 1) = m.testBit i := by
  have hdiv : (b.toNat + 2 * m) / 2 = m := by have := Bool.toNat_le b; omega
  rw [Nat.testBit_succ, hdiv]

theorem Flags.toNat_nested (f : Flags) :
    Flags.toNat f = f.stray.toNat + 2 * (f.relabelled.toNat + 2 * (f.duplicate.toNat + 2 * (f.crowded.toNat
      + 2 * (f.slipped.toNat + 2 * (f.placed.toNat + 2 * (f.altered.toNat + 2 * (f.start.toNat
      + 2 * (f.misrouted.toNat + 2 * 0)))))))) := by
  unfold Flags.toNat; ring

theorem nested_flag_lt (b : Bool) {m k : Nat} (h : m < k) : b.toNat + 2 * m < 2 * k := by
  have := Bool.toNat_le b
  omega

theorem Flags.toNat_lt (f : Flags) : Flags.toNat f < 512 := by
  rw [Flags.toNat_nested, show 512 = 2 * (2 * (2 * (2 * (2 * (2 * (2 * (2 * (2 * 1)))))))) from rfl]
  iterate 9 refine nested_flag_lt _ ?_
  exact Nat.zero_lt_one

theorem Flags.ofNat?_toNat (f : Flags) : Flags.ofNat? (Flags.toNat f) = some f := by
  unfold Flags.ofNat?
  rw [if_pos (Flags.toNat_lt f), Flags.toNat_nested]
  simp only [testBit_zero_flag, testBit_succ_flag]

/-- The lowest bit and the rest make the number. -/
theorem testBit_zero_add (n : Nat) : (n.testBit 0).toNat + 2 * (n / 2) = n := by
  rw [Nat.testBit_zero]
  obtain h | h := Nat.mod_two_eq_zero_or_one n
  · simp only [h, Nat.zero_ne_one, decide_false, Bool.toNat_false]
    omega
  · simp only [h, decide_true, Bool.toNat_true]
    omega

theorem Flags.toNat_of_ofNat? {n : Nat} {f : Flags} (h : Flags.ofNat? n = some f) : Flags.toNat f = n := by
  unfold Flags.ofNat? at h
  split at h
  next hlt =>
    have hrest : n / 2 / 2 / 2 / 2 / 2 / 2 / 2 / 2 / 2 = 0 := by
      simp only [Nat.div_div_eq_div_mul]
      exact Nat.div_eq_of_lt hlt
    have hlast := testBit_zero_add (n / 2 / 2 / 2 / 2 / 2 / 2 / 2 / 2)
    rw [hrest] at hlast
    rw [← Option.some.inj h, Flags.toNat_nested]
    simp only [Nat.testBit_succ, hlast, testBit_zero_add]
  next => exact absurd h.symm (Option.some_ne_none f)

/-! ### Payloads (R168) -/

theorem split_join {h l : Nat} (hl : l < 256) : (h * 256 + l) / 256 = h ∧ (h * 256 + l) % 256 = l := by
  rw [Nat.mul_comm]
  exact ⟨(Nat.mul_add_div (by decide) h l).trans (by rw [Nat.div_eq_of_lt hl, Nat.add_zero]),
    (Nat.mul_add_mod 256 h l).trans (Nat.mod_eq_of_lt hl)⟩

/-! What is read under each kind code that has fields. -/

section
variable (s a b c d e f g i j k : Nat)

theorem Payload.parse_offer : Payload.parse 0x20 [s, a, b, c, d, e, f, g, i, j, k] = (do
    let s ← inRange 16 s
    let n ← inRange 4096 (a * 256 + b)
    let c ← inRange 16 c
    let o ← inRange 64 d
    let st ← inRange 64 e
    let hop ← inRange 256 f
    let f ← Flags.ofNat? (g * 256 + i)
    let len ← inRange 65536 (j * 256 + k)
    pure (.offer s ⟨n, c, o, st, hop, f⟩ len)) := rfl
theorem Payload.parse_refuse : Payload.parse 0x23 [s, a] = (do
    pure (.refuse (← inRange 16 s) (← RefuseReason.ofCode a))) := rfl
theorem Payload.parse_landed : Payload.parse 0x25 [s, a, b, c] = (do
    pure (.landed (← inRange 16 s) (← inRange 4096 (a * 256 + b)) (← LandStatus.ofCode c))) := rfl
theorem Payload.parse_go : Payload.parse 0x31 [a, b] = (do pure (.go (← inRange 1000 (a * 256 + b)))) := rfl
theorem Payload.parse_rackIn : Payload.parse 0x41 [a, b, c] = (do
    pure (.rackIn (← inRange 4096 (a * 256 + b)) (← inRange 64 c))) := rfl
theorem Payload.parse_status : Payload.parse 0x50 [a, b, c, d, e, f, g, i, j] =
    ((if a = 7 then some none else (Role.ofCode a).map some) >>= fun role => (do
      pure (.status
        { role := role, mode := ← Mode.ofCode b, belt := ← BeltState.ofCode c, lock := ← LockState.ofCode d,
          level := ← inRange 4 e, trackCount := ← inRange 13 f, speed := ← inRange 1000 (g * 256 + i),
          pendingCount := ← inRange 19 j }))) := by
  by_cases h : a = 7
  · exact (if_pos h).trans (by rw [if_pos h])
  · exact (if_neg h).trans (by rw [if_neg h])
theorem Payload.parse_attention : Payload.parse 0x51 [a, b, c, d, e, f, g] =
    ((if a = 255 then some none else (Cause.ofCode a).map some) >>= fun cause => (do
      let reply ← inRange 2 f
      pure (.attention
        { cause := cause, severity := ← inRange 4 b, detail := BitVec.ofNat 16 (c * 256 + d),
          repeats := ← inRange 256 e, reply := reply == 1, pendingCount := ← inRange 19 g }))) := by
  by_cases h : a = 255
  · exact (if_pos h).trans (by rw [if_pos h])
  · exact (if_neg h).trans (by rw [if_neg h])

end

/-- The kind codes of frames (frame kinds table). -/
def Payload.kinds : List Nat :=
  [0x20, 0x21, 0x22, 0x23, 0x24, 0x25, 0x26, 0x27, 0x30, 0x31, 0x32, 0x33, 0x34, 0x40, 0x41, 0x50, 0x51, 0x52, 0x53,
    0x54, 0x55]

/-- No other code spells a payload: the codes are tried one after another. -/
theorem Payload.parse_of_other {k : Nat} (hk : k ∉ Payload.kinds) (bs : List Nat) : Payload.parse k bs = none := by
  simp only [Payload.kinds, List.mem_cons, List.not_mem_nil, or_false, not_or] at hk
  obtain ⟨h₁, h₂, h₃, h₄, h₅, h₆, h₇, h₈, h₉, h₁₀, h₁₁, h₁₂, h₁₃, h₁₄, h₁₅, h₁₆, h₁₇, h₁₈, h₁₉, h₂₀, h₂₁⟩ := hk
  delta Payload.parse Payload.parse.match_1
  rw [dif_neg h₁, dif_neg h₂, dif_neg h₃, dif_neg h₄, dif_neg h₅, dif_neg h₆, dif_neg h₇, dif_neg h₈, dif_neg h₉,
    dif_neg h₁₀, dif_neg h₁₁, dif_neg h₁₂, dif_neg h₁₃, dif_neg h₁₄, dif_neg h₁₅, dif_neg h₁₆, dif_neg h₁₇,
    dif_neg h₁₈, dif_neg h₁₉, dif_neg h₂₀, dif_neg h₂₁]

/-- The payload bytes of a payload that is sent spell it (frame kinds table). -/
theorem Payload.parse_bytes (p : Payload) (h : ∀ i, p = .status i → i.mode ≠ .loading) :
    Payload.parse (Payload.kind p) (Payload.bytes p) = some p := by
  cases p with
  | offer s i len =>
    refine (Payload.parse_offer _ _ _ _ _ _ _ _ _ _ _).trans ?_
    rw [inRange_val, inRange_join, inRange_val, inRange_val, inRange_val, inRange_val, twoBytes_join,
      Flags.ofNat?_toNat, inRange_join]
    rfl
  | status i =>
    have hmode := Mode.ofCode_code (h i rfl)
    refine (Payload.parse_status _ _ _ _ _ _ _ _ _).trans ?_
    rw [read_optional Role.ofCode_code Role.code_ne, hmode, BeltState.ofCode_code, LockState.ofCode_code, inRange_val,
      inRange_val, inRange_join, inRange_val]
    rfl
  | attention i =>
    have hdetail : BitVec.ofNat 16 (i.detail.toNat / 256 * 256 + i.detail.toNat % 256) = i.detail := by
      rw [twoBytes_join, BitVec.ofNat_toNat, BitVec.setWidth_eq]
    have hcause (c : Cause) : Cause.code c ≠ 255 := ((Cause.code_lt c).trans (by decide)).ne
    refine (Payload.parse_attention _ _ _ _ _ _ _).trans ?_
    rw [read_optional Cause.ofCode_code hcause, inRange_val, hdetail, inRange_val, inRange_val]
    cases hr : i.reply <;> exact congrArg (fun r => some (Payload.attention { i with reply := r })) hr.symm
  | refuse s r =>
    refine (Payload.parse_refuse _ _).trans ?_
    rw [inRange_val, RefuseReason.ofCode_code]
    rfl
  | landed s n st =>
    refine (Payload.parse_landed _ _ _ _).trans ?_
    rw [inRange_val, inRange_join, LandStatus.ofCode_code]
    rfl
  | go v => exact (Payload.parse_go _ _).trans (by rw [inRange_join]; rfl)
  | rackIn n st => exact (Payload.parse_rackIn _ _ _).trans (by rw [inRange_join, inRange_val]; rfl)
  | take s | wait s | withdraw s | whereIs s | notSeen s | want s =>
    show (inRange 16 s.val >>= fun x => pure _) = _
    rw [inRange_val]
    rfl
  | stall | dozeAsk | dozeAllow | dozeDeny | ask | ack | clear | flush => rfl

/-! The fields of a payload are read back from its bytes, kind by kind. -/

section
variable {s a b c d e f g i j k : Nat} {p : Payload}

theorem Payload.bytes_of_parse_serial {mk : Fin 16 → Payload} {n : Nat} (hk : ∀ x, Payload.kind (mk x) = n)
    (hb : ∀ x, Payload.bytes (mk x) = [x.val]) (h : (inRange 16 s >>= fun x => pure (mk x)) = some p) :
    Payload.kind p = n ∧ Payload.bytes p = [s] := by
  obtain ⟨x, hx, hp⟩ := Option.bind_eq_some_iff.1 h
  obtain rfl := inRange_eq_some_iff.1 hx
  obtain rfl := Option.some.inj hp
  exact ⟨hk x, hb x⟩

theorem Payload.bytes_of_parse_offer (h : Payload.parse 0x20 [s, a, b, c, d, e, f, g, i, j, k] = some p)
    (hb : b < 256) (hi : i < 256) (hk : k < 256) :
    Payload.kind p = 0x20 ∧ Payload.bytes p = [s, a, b, c, d, e, f, g, i, j, k] := by
  rw [Payload.parse_offer] at h
  simp only [Option.pure_def, Option.bind_eq_bind, Option.bind_eq_some_iff, Option.some.injEq,
    inRange_eq_some_iff] at h
  obtain ⟨x, rfl, n, hn, c, rfl, o, rfl, st, rfl, hop, rfl, f, hf, l, hl, rfl⟩ := h
  exact ⟨rfl, by simp [Payload.bytes, twoBytes, hn, hl, Flags.toNat_of_ofNat? hf, split_join hb,
    split_join hi, split_join hk]⟩

theorem Payload.bytes_of_parse_refuse (h : Payload.parse 0x23 [s, a] = some p) :
    Payload.kind p = 0x23 ∧ Payload.bytes p = [s, a] := by
  rw [Payload.parse_refuse] at h
  simp only [Option.pure_def, Option.bind_eq_bind, Option.bind_eq_some_iff, Option.some.injEq,
    inRange_eq_some_iff] at h
  obtain ⟨x, rfl, r, hr, rfl⟩ := h
  exact ⟨rfl, by simp [Payload.bytes, RefuseReason.code_of_ofCode hr]⟩

theorem Payload.bytes_of_parse_landed (h : Payload.parse 0x25 [s, a, b, c] = some p) (hb : b < 256) :
    Payload.kind p = 0x25 ∧ Payload.bytes p = [s, a, b, c] := by
  rw [Payload.parse_landed] at h
  simp only [Option.pure_def, Option.bind_eq_bind, Option.bind_eq_some_iff, Option.some.injEq,
    inRange_eq_some_iff] at h
  obtain ⟨x, rfl, n, hn, l, hl, rfl⟩ := h
  exact ⟨rfl, by simp [Payload.bytes, twoBytes, hn, split_join hb, LandStatus.code_of_ofCode hl]⟩

theorem Payload.bytes_of_parse_go (h : Payload.parse 0x31 [a, b] = some p) (hb : b < 256) :
    Payload.kind p = 0x31 ∧ Payload.bytes p = [a, b] := by
  rw [Payload.parse_go] at h
  simp only [Option.pure_def, Option.bind_eq_bind, Option.bind_eq_some_iff, Option.some.injEq,
    inRange_eq_some_iff] at h
  obtain ⟨v, hv, rfl⟩ := h
  exact ⟨rfl, by simp [Payload.bytes, twoBytes, hv, split_join hb]⟩

theorem Payload.bytes_of_parse_rackIn (h : Payload.parse 0x41 [a, b, c] = some p) (hb : b < 256) :
    Payload.kind p = 0x41 ∧ Payload.bytes p = [a, b, c] := by
  rw [Payload.parse_rackIn] at h
  simp only [Option.pure_def, Option.bind_eq_bind, Option.bind_eq_some_iff, Option.some.injEq,
    inRange_eq_some_iff] at h
  obtain ⟨n, hn, x, rfl, rfl⟩ := h
  exact ⟨rfl, by simp [Payload.bytes, twoBytes, hn, split_join hb]⟩

/-- A field whose one value stands for none. -/
theorem code_of_optional {α : Type} {n m : Nat} {read : Nat → Option α} {code : α → Nat} {o : Option α}
    (hc : ∀ x, read n = some x → code x = n) (h : (if n = m then some none else (read n).map some) = some o) :
    (o.map code).getD m = n := by
  split at h
  next he =>
    obtain rfl := Option.some.inj h
    exact he.symm
  next =>
    obtain ⟨x, hx, rfl⟩ := Option.map_eq_some_iff.1 h
    exact hc x hx

theorem Payload.bytes_of_parse_status (h : Payload.parse 0x50 [a, b, c, d, e, f, g, i, j] = some p) (hi : i < 256) :
    Payload.kind p = 0x50 ∧ Payload.bytes p = [a, b, c, d, e, f, g, i, j] := by
  rw [Payload.parse_status] at h
  simp only [Option.pure_def, Option.bind_eq_bind, Option.bind_eq_some_iff, Option.some.injEq,
    inRange_eq_some_iff] at h
  obtain ⟨ro, hro, m, hm, be, hbe, lo, hlo, le, rfl, tc, rfl, sp, hsp, pc, rfl, rfl⟩ := h
  have hrole := code_of_optional (code := Role.code) (fun x => Role.code_of_ofCode) hro
  exact ⟨rfl, by simp [Payload.bytes, twoBytes, hrole, hsp, split_join hi, Mode.code_of_ofCode hm,
    BeltState.code_of_ofCode hbe, LockState.code_of_ofCode hlo]⟩

theorem Payload.bytes_of_parse_attention (h : Payload.parse 0x51 [a, b, c, d, e, f, g] = some p) (hc : c < 256)
    (hd : d < 256) : Payload.kind p = 0x51 ∧ Payload.bytes p = [a, b, c, d, e, f, g] := by
  rw [Payload.parse_attention] at h
  simp only [Option.pure_def, Option.bind_eq_bind, Option.bind_eq_some_iff, Option.some.injEq,
    inRange_eq_some_iff] at h
  obtain ⟨ca, hca, x, rfl, se, rfl, re, rfl, pc, rfl, rfl⟩ := h
  have hcause := code_of_optional (code := Cause.code) (fun x => Cause.code_of_ofCode) hca
  have hreply (x : Fin 2) : (x == 1).toNat = x.val := by revert x; decide
  have hmod : (c * 256 + d) % 65536 = c * 256 + d := by omega
  exact ⟨rfl, by simp [Payload.bytes, twoBytes, hcause, hreply, hmod, split_join hd]⟩

end

/-- A payload spelt by bytes has those bytes, and the kind code it was read under: a run of another length than the
kind's spells none. -/
theorem Payload.bytes_of_parse {k : Nat} {bs : List Nat} {p : Payload} (h : Payload.parse k bs = some p)
    (hb : ∀ b ∈ bs, b < 256) : Payload.kind p = k ∧ Payload.bytes p = bs := by
  have hk : k ∈ Payload.kinds := by
    by_contra hk
    exact Option.some_ne_none p (h.symm.trans (Payload.parse_of_other hk bs))
  have none_of {q : Option Payload} (hq : q = none) (h : q = some p) : Payload.kind p = k ∧ Payload.bytes p = bs :=
    absurd (h.symm.trans hq) (Option.some_ne_none p)
  simp only [Payload.kinds, List.mem_cons, List.not_mem_nil, or_false] at hk
  rcases hk with rfl | rfl | rfl | rfl | rfl | rfl | rfl | rfl | rfl | rfl | rfl | rfl | rfl | rfl | rfl | rfl | rfl |
    rfl | rfl | rfl | rfl
  case inl =>
    rcases bs with _ | ⟨s, _ | ⟨a, _ | ⟨b, _ | ⟨c, _ | ⟨d, _ | ⟨e, _ | ⟨f, _ | ⟨g, _ | ⟨i, _ | ⟨j, _ | ⟨m, _ | ⟨x, l⟩⟩⟩⟩⟩⟩⟩⟩⟩⟩⟩⟩
    case cons.cons.cons.cons.cons.cons.cons.cons.cons.cons.cons.nil =>
      exact Payload.bytes_of_parse_offer h (hb _ (by simp)) (hb _ (by simp)) (hb _ (by simp))
    all_goals exact none_of rfl h
  case inr.inr.inr.inl =>
    rcases bs with _ | ⟨s, _ | ⟨a, _ | ⟨x, l⟩⟩⟩
    case cons.cons.nil => exact Payload.bytes_of_parse_refuse h
    all_goals exact none_of rfl h
  case inr.inr.inr.inr.inr.inl =>
    rcases bs with _ | ⟨s, _ | ⟨a, _ | ⟨b, _ | ⟨c, _ | ⟨x, l⟩⟩⟩⟩⟩
    case cons.cons.cons.cons.nil => exact Payload.bytes_of_parse_landed h (hb _ (by simp))
    all_goals exact none_of rfl h
  case inr.inr.inr.inr.inr.inr.inr.inr.inr.inl =>
    rcases bs with _ | ⟨a, _ | ⟨b, _ | ⟨x, l⟩⟩⟩
    case cons.cons.nil => exact Payload.bytes_of_parse_go h (hb _ (by simp))
    all_goals exact none_of rfl h
  case inr.inr.inr.inr.inr.inr.inr.inr.inr.inr.inr.inr.inr.inr.inl =>
    rcases bs with _ | ⟨a, _ | ⟨b, _ | ⟨c, _ | ⟨x, l⟩⟩⟩⟩
    case cons.cons.cons.nil => exact Payload.bytes_of_parse_rackIn h (hb _ (by simp))
    all_goals exact none_of rfl h
  case inr.inr.inr.inr.inr.inr.inr.inr.inr.inr.inr.inr.inr.inr.inr.inl =>
    rcases bs with _ | ⟨a, _ | ⟨b, _ | ⟨c, _ | ⟨d, _ | ⟨e, _ | ⟨f, _ | ⟨g, _ | ⟨i, _ | ⟨j, _ | ⟨x, l⟩⟩⟩⟩⟩⟩⟩⟩⟩⟩
    case cons.cons.cons.cons.cons.cons.cons.cons.cons.nil => exact Payload.bytes_of_parse_status h (hb _ (by simp))
    all_goals exact none_of rfl h
  case inr.inr.inr.inr.inr.inr.inr.inr.inr.inr.inr.inr.inr.inr.inr.inr.inl =>
    rcases bs with _ | ⟨a, _ | ⟨b, _ | ⟨c, _ | ⟨d, _ | ⟨e, _ | ⟨f, _ | ⟨g, _ | ⟨x, l⟩⟩⟩⟩⟩⟩⟩⟩
    case cons.cons.cons.cons.cons.cons.cons.nil =>
      exact Payload.bytes_of_parse_attention h (hb _ (by simp)) (hb _ (by simp))
    all_goals exact none_of rfl h
  case inr.inl | inr.inr.inl | inr.inr.inr.inr.inl | inr.inr.inr.inr.inr.inr.inl | inr.inr.inr.inr.inr.inr.inr.inl |
      inr.inr.inr.inr.inr.inr.inr.inr.inr.inr.inr.inr.inr.inl =>
    rcases bs with _ | ⟨s, _ | ⟨x, l⟩⟩
    case cons.nil => exact Payload.bytes_of_parse_serial (fun _ => rfl) (fun _ => rfl) h
    all_goals exact none_of rfl h
  all_goals
    rcases bs with _ | ⟨x, l⟩
    · obtain rfl := Option.some.inj h
      exact ⟨rfl, rfl⟩
    · exact none_of rfl h

end Sys2Proof.Machine

/-! # Runs of characters (R161, R167, R168), and the register that sends (R162, R163) -/

namespace Sys2Proof.Machine

/-! ### Bytes and characters -/

theorem twoBytes_lt {n : Nat} (h : n < 65536) : ∀ b ∈ twoBytes n, b < 256 := by
  simp only [twoBytes, List.mem_cons, List.not_mem_nil, or_false, forall_eq_or_imp, forall_eq]
  omega

theorem Payload.bytes_lt (p : Payload) : ∀ b ∈ Payload.bytes p, b < 256 := by
  have nil : ∀ b ∈ ([] : List Nat), b < 256 := List.forall_mem_nil _
  have hfin {n : Nat} (x : Fin n) (h : n.ble 256 = true) : x.val < 256 := x.isLt.trans_le (Nat.le_of_ble_eq_true h)
  have htwo {n : Nat} (x : Fin n) (h : n.ble 65536 = true) := twoBytes_lt (x.isLt.trans_le (Nat.le_of_ble_eq_true h))
  cases p with
  | offer s i len =>
    have hflags := twoBytes_lt ((Flags.toNat_lt i.flags).trans (by decide))
    simp only [Payload.bytes, List.forall_mem_append, List.forall_mem_cons]
    exact ⟨⟨⟨⟨⟨hfin _ rfl, nil⟩, htwo _ rfl⟩, hfin _ rfl, hfin _ rfl,
      hfin _ rfl, hfin _ rfl, nil⟩, hflags⟩, htwo _ rfl⟩
  | status i =>
    have hrole : (i.role.map Role.code).getD 7 < 256 := by
      cases i.role with
      | none => decide
      | some r => cases r <;> decide
    have hmode : Mode.code i.mode < 256 := by cases i.mode <;> decide
    have hbelt : BeltState.code i.belt < 256 := by cases i.belt <;> decide
    have hlock : LockState.code i.lock < 256 := by cases i.lock <;> decide
    simp only [Payload.bytes, List.forall_mem_append, List.forall_mem_cons]
    exact ⟨⟨⟨hrole, hmode, hbelt, hlock, hfin _ rfl, hfin _ rfl, nil⟩, htwo _ rfl⟩,
      hfin _ rfl, nil⟩
  | attention i =>
    have hcause : (i.cause.map Cause.code).getD 255 < 256 := by
      cases i.cause with
      | none => decide
      | some c => exact (Cause.code_lt c).trans (by decide)
    have hreply : i.reply.toNat < 256 := (Bool.toNat_lt _).trans (by decide)
    simp only [Payload.bytes, List.forall_mem_append, List.forall_mem_cons]
    exact ⟨⟨⟨hcause, hfin _ rfl, nil⟩, twoBytes_lt i.detail.isLt⟩, hfin _ rfl, hreply,
      hfin _ rfl, nil⟩
  | take s | wait s | withdraw s | whereIs s | notSeen s | want s =>
    simp only [Payload.bytes, List.forall_mem_cons]
    exact ⟨hfin _ rfl, nil⟩
  | refuse s r =>
    have hr : RefuseReason.code r < 256 := by cases r <;> decide
    simp only [Payload.bytes, List.forall_mem_cons]
    exact ⟨hfin _ rfl, hr, nil⟩
  | landed s n st =>
    have hst : LandStatus.code st < 256 := by cases st <;> decide
    simp only [Payload.bytes, List.forall_mem_append, List.forall_mem_cons]
    exact ⟨⟨⟨hfin _ rfl, nil⟩, htwo _ rfl⟩, hst, nil⟩
  | go v => exact htwo v rfl
  | rackIn n st =>
    simp only [Payload.bytes, List.forall_mem_append, List.forall_mem_cons]
    exact ⟨htwo _ rfl, hfin _ rfl, nil⟩
  | stall | dozeAsk | dozeAllow | dozeDeny | ask | ack | clear | flush => exact List.forall_mem_nil _

/-- A byte as a character with its stop bit high. -/
def lineChar (b : Nat) : RxChar := ⟨BitVec.ofNat 8 b, true⟩

theorem lineChar_toNat {b : Nat} (h : b < 256) : (lineChar b).byte.toNat = b := Nat.mod_eq_of_lt h

theorem stopOk_of_mem_lineChars (bs : List Nat) : ∀ c ∈ bs.map lineChar, c.stopOk = true := by
  intro c hc
  obtain ⟨b, -, rfl⟩ := List.mem_map.1 hc
  rfl

theorem lineChar_of_stop {c : RxChar} (h : c.stopOk = true) : lineChar c.byte.toNat = c := by
  obtain ⟨b, ok⟩ := c
  cases h
  show (⟨BitVec.ofNat 8 b.toNat, true⟩ : RxChar) = ⟨b, true⟩
  rw [BitVec.ofNat_toNat, BitVec.setWidth_eq]

theorem map_lineChar_toNat {bs : List Nat} (h : ∀ b ∈ bs, b < 256) :
    (bs.map lineChar).map (·.byte.toNat) = bs := by
  rw [List.map_map]
  conv_rhs => rw [← List.map_id bs]
  exact List.map_congr_left fun b hb => lineChar_toNat (h b hb)

theorem map_lineChar_of_stop {cs : List RxChar} (h : ∀ c ∈ cs, c.stopOk = true) :
    (cs.map (·.byte.toNat)).map lineChar = cs := by
  rw [List.map_map]
  conv_rhs => rw [← List.map_id cs]
  exact List.map_congr_left fun c hc => lineChar_of_stop (h c hc)

/-! ### What a run spells -/

/-- A run spells a frame: the header's characters, as many as LEN says and two more, all with their stop bits high,
whose bytes are in their ranges and whose CHECK is the CRC. -/
structure SpeltBy (f : RxFrame) (start kind dst src len : RxChar) (payload check : List RxChar) : Prop where
  marker : start.byte = 0xA5
  short : len.byte.toNat ≤ 24
  length : payload.length = len.byte.toNat
  checks : check.length = 2
  stops : ∀ c ∈ start :: kind :: dst :: src :: len :: (payload ++ check), c.stopOk = true
  crc : check.map (·.byte.toNat) = twoBytes (Sys2Proof.Machine.crc
    ([kind.byte.toNat, dst.byte.toNat, src.byte.toNat, len.byte.toNat] ++ payload.map (·.byte.toNat))).toNat
  dest : f.hdr.dst.val = dst.byte.toNat
  sender : f.hdr.src.val = src.byte.toNat
  sender_ne : f.hdr.src ≠ 0
  parse : Payload.parse kind.byte.toNat (payload.map (·.byte.toNat)) = some f.payload

theorem parseRun_of_speltBy {f : RxFrame} {start kind dst src len : RxChar} {payload check rest : List RxChar}
    (h : SpeltBy f start kind dst src len payload check) :
    parseRun (start :: kind :: dst :: src :: len :: (payload ++ check ++ rest)) = some f := by
  obtain ⟨hmark, hshort, hlen, hcheck, hstops, hcrc, hto, hfrom, hne, hparse⟩ := h
  have htaken : (payload ++ check ++ rest).take (len.byte.toNat + 2) = payload ++ check := by
    rw [← hlen, ← hcheck, ← List.length_append, List.take_left']
    rfl
  have hfront : (payload ++ check).take len.byte.toNat = payload := by rw [← hlen]; exact List.take_left' rfl
  have hback : (payload ++ check).drop len.byte.toNat = check := by rw [← hlen]; exact List.drop_left' rfl
  have hlen2 : (payload ++ check).length = len.byte.toNat + 2 := by rw [List.length_append, hlen, hcheck]
  have hall : (start :: kind :: dst :: src :: len :: (payload ++ check)).all (·.stopOk) = true :=
    List.all_eq_true.2 hstops
  have hd : inRange 64 dst.byte.toNat = some f.hdr.dst := inRange_eq_some_iff.2 hto
  have hs : inRange 64 src.byte.toNat = some f.hdr.src := inRange_eq_some_iff.2 hfrom
  unfold parseRun
  dsimp only
  rw [htaken, if_pos ⟨hmark, hshort, hlen2, hall⟩, hfront, hback, if_pos hcrc, hd, hs]
  simp only [Option.bind_eq_bind, Option.bind_some, if_neg hne, hparse, Option.pure_def]

theorem speltBy_of_parseRun {chars : List RxChar} {f : RxFrame} (h : parseRun chars = some f) :
    ∃ start kind dst src len payload check rest,
      chars = start :: kind :: dst :: src :: len :: (payload ++ check ++ rest)
        ∧ SpeltBy f start kind dst src len payload check := by
  unfold parseRun at h
  split at h
  next start kind dst src len rest =>
    dsimp only at h
    split at h
    next hc =>
      obtain ⟨hmark, hshort, hused, hall⟩ := hc
      split at h
      next hcrc =>
        simp only [Option.bind_eq_bind, Option.bind_eq_some_iff, inRange_eq_some_iff, Option.pure_def] at h
        obtain ⟨d, hd, s, hs, h⟩ := h
        split at h
        next => exact absurd h.symm (Option.some_ne_none f)
        next hne =>
          simp only [Option.bind_eq_some_iff, Option.some.injEq] at h
          obtain ⟨p, hp, rfl⟩ := h
          refine ⟨start, kind, dst, src, len, (rest.take (len.byte.toNat + 2)).take len.byte.toNat,
            (rest.take (len.byte.toNat + 2)).drop len.byte.toNat, rest.drop (len.byte.toNat + 2), ?_,
            hmark, hshort, ?_, ?_, ?_, hcrc, hd, hs, hne, hp⟩
          · rw [List.take_append_drop, List.take_append_drop]
          · rw [List.length_take, hused]; omega
          · rw [List.length_drop, hused]; omega
          · rw [List.take_append_drop]; exact List.all_eq_true.1 hall
      next => exact absurd h.symm (Option.some_ne_none f)
    next => exact absurd h.symm (Option.some_ne_none f)
  next => exact absurd h.symm (Option.some_ne_none f)

/-- The characters of a frame's bytes, and after them anything, spell it (R161). -/
theorem parseRun_frameBytes {h : Hdr} {p : Payload} (hsrc : h.src ≠ 0) (hp : ∀ i, p = .status i → i.mode ≠ .loading) :
    parseRun ((frameBytes h.dst h.src p).map lineChar) = some ⟨h, p⟩ := by
  have hst (x : Station) : x.val < 256 := x.isLt.trans (by decide)
  have hlen : (Payload.bytes p).length < 256 := (Payload.length_bytes_le p).trans_lt (by decide)
  have hpay := map_lineChar_toNat (Payload.bytes_lt p)
  have hcheck := map_lineChar_toNat (twoBytes_lt (crc (frameBody h.dst h.src p)).isLt)
  have hspelt : SpeltBy ⟨h, p⟩ (lineChar 0xA5) (lineChar (Payload.kind p)) (lineChar h.dst.val) (lineChar h.src.val)
      (lineChar (Payload.bytes p).length) ((Payload.bytes p).map lineChar)
      ((twoBytes (crc (frameBody h.dst h.src p)).toNat).map lineChar) := by
    refine ⟨rfl, ?_, ?_, rfl, ?_, ?_, ?_, ?_, hsrc, ?_⟩
    · rw [lineChar_toNat hlen]; exact Payload.length_bytes_le p
    · rw [lineChar_toNat hlen, List.length_map]
    · rw [← List.map_append]
      exact stopOk_of_mem_lineChars (_ :: _ :: _ :: _ :: _ :: _)
    · rw [hcheck, hpay, lineChar_toNat (Payload.kind_lt p), lineChar_toNat (hst _), lineChar_toNat (hst _),
        lineChar_toNat hlen]
      rfl
    · rw [lineChar_toNat (hst _)]
    · rw [lineChar_toNat (hst _)]
    · rw [lineChar_toNat (Payload.kind_lt p), hpay]
      exact Payload.parse_bytes p hp
  have hrun := parseRun_of_speltBy (rest := []) hspelt
  rw [List.append_nil, ← List.map_append] at hrun
  exact hrun

/-- Settles O45: the characters of a frame's bytes meet every test of a run. -/
theorem frameBytesParseBack : Obligations.FrameBytesParseBack := fun _ _ hsrc hp => parseRun_frameBytes hsrc hp

end Sys2Proof.Machine

/-! # The row of broken runs, the send register and ZTX (R161 to R168) -/

namespace Sys2Proof.Machine

/-! ### Broken runs -/

section
variable {chars : List RxChar} {f : RxFrame}

/-- A run that spells a frame begins with that frame's characters. -/
theorem take_of_parseRun (h : parseRun chars = some f) :
    f.hdr.src ≠ 0 ∧ ∃ n, chars.take n = (frameBytes f.hdr.dst f.hdr.src f.payload).map lineChar := by
  obtain ⟨start, kind, dst, src, len, payload, check, rest, rfl, hs⟩ := speltBy_of_parseRun h
  have hbytes : ∀ b ∈ payload.map (·.byte.toNat), b < 256 := by
    intro b hb
    obtain ⟨c, -, rfl⟩ := List.mem_map.1 hb
    exact c.byte.isLt
  obtain ⟨hkind, hpay⟩ := Payload.bytes_of_parse hs.parse hbytes
  have hlen : (Payload.bytes f.payload).length = len.byte.toNat := by rw [hpay, List.length_map, hs.length]
  have hbody : frameBody f.hdr.dst f.hdr.src f.payload
      = [kind.byte.toNat, dst.byte.toNat, src.byte.toNat, len.byte.toNat] ++ payload.map (·.byte.toNat) := by
    unfold frameBody
    rw [hkind, hs.dest, hs.sender, hlen, hpay]
  have hframe : frameBytes f.hdr.dst f.hdr.src f.payload
      = (start :: kind :: dst :: src :: len :: (payload ++ check)).map (·.byte.toNat) := by
    have hmark : start.byte.toNat = 0xA5 := by rw [hs.marker]; rfl
    unfold frameBytes
    dsimp only
    rw [hbody, ← hs.crc]
    simp only [List.map_cons, List.map_append, hmark]
    rfl
  refine ⟨hs.sender_ne, (start :: kind :: dst :: src :: len :: (payload ++ check)).length, ?_⟩
  rw [hframe, map_lineChar_of_stop hs.stops]
  exact List.take_left' (l₁ := start :: kind :: dst :: src :: len :: (payload ++ check)) rfl

theorem parseRun_eq_none_of {P : Prop} (hP : P)
    (h : ∀ f start kind dst src len payload check rest,
      chars = start :: kind :: dst :: src :: len :: (payload ++ check ++ rest) →
      SpeltBy f start kind dst src len payload check → ¬P) : parseRun chars = none := by
  cases hrun : parseRun chars with
  | none => rfl
  | some f =>
    obtain ⟨start, kind, dst, src, len, payload, check, rest, hc, hs⟩ := speltBy_of_parseRun hrun
    exact absurd hP (h f start kind dst src len payload check rest hc hs)

theorem parseRun_of_not_start (h : ∀ c cs, chars = c :: cs → c.byte ≠ 0xA5) : parseRun chars = none :=
  parseRun_eq_none_of h fun _ _ _ _ _ _ _ _ _ hc hs hno => hno _ _ hc hs.marker

theorem parseRun_of_low_stop (h : ∃ c ∈ chars.take 7, c.stopOk = false) : parseRun chars = none := by
  refine parseRun_eq_none_of h fun _ start kind dst src len payload check rest hc hs ⟨c, hmem, hlow⟩ => ?_
  have hsub : chars.take 7 ⊆ start :: kind :: dst :: src :: len :: (payload ++ check) := by
    have h2 : 2 ≤ (payload ++ check).length := by rw [List.length_append, hs.checks]; omega
    have htake : chars.take 7 = start :: kind :: dst :: src :: len :: (payload ++ check).take 2 := by
      rw [hc]
      show start :: kind :: dst :: src :: len :: (payload ++ check ++ rest).take 2 = _
      rw [List.take_append_of_le_length h2]
    rw [htake]
    exact List.cons_subset_cons _ <| List.cons_subset_cons _ <| List.cons_subset_cons _ <|
      List.cons_subset_cons _ <| List.cons_subset_cons _ (List.take_subset _ _)
  rw [hs.stops c (hsub hmem)] at hlow
  exact absurd hlow.symm Bool.false_ne_true

theorem parseRun_of_cut (h : chars.length < 7) : parseRun chars = none := by
  refine parseRun_eq_none_of h fun _ _ _ _ _ _ payload check rest hc hs => ?_
  have h2 := hs.checks
  rw [hc]
  simp only [List.length_cons, List.length_append]
  omega

/-- The tests of a run whose LEN counts its payload: what it spells has its bytes. -/
theorem speltBy_of_run {kind dst src hi lo : Byte} {payload : List Byte} {rest : List RxChar}
    (hlen : payload.length ≤ 24)
    (h : parseRun ((0xA5 :: kind :: dst :: src :: BitVec.ofNat 8 payload.length :: payload ++ [hi, lo]).map
      (fun b => (⟨b, true⟩ : RxChar)) ++ rest) = some f) :
    (crc ([kind.toNat, dst.toNat, src.toNat, payload.length] ++ payload.map (·.toNat))).toNat
        = hi.toNat * 256 + lo.toNat
      ∧ Payload.kind f.payload = kind.toNat ∧ Payload.bytes f.payload = payload.map (·.toNat)
      ∧ dst.toNat < 64 ∧ src.toNat < 64 ∧ src ≠ 0 := by
  obtain ⟨start, k, d, s, l, pay, check, rest', hc, hs⟩ := speltBy_of_parseRun h
  simp only [List.cons_append, List.map_cons, List.cons.injEq] at hc
  obtain ⟨-, rfl, rfl, rfl, rfl, htail⟩ := hc
  have hl : (BitVec.ofNat 8 payload.length).toNat = payload.length := Nat.mod_eq_of_lt (by omega)
  have hpaylen : pay.length = (payload.map fun b => (⟨b, true⟩ : RxChar)).length := by
    rw [hs.length, List.length_map]; exact hl
  have hsplit : (payload.map fun b => (⟨b, true⟩ : RxChar)) ++ ([⟨hi, true⟩, ⟨lo, true⟩] ++ rest)
      = pay ++ (check ++ rest') := by
    rw [← List.append_assoc pay, ← htail, List.map_append, List.append_assoc]; rfl
  obtain ⟨rfl, htail'⟩ := List.append_inj hsplit hpaylen.symm
  obtain ⟨rfl, -⟩ := List.append_inj htail' hs.checks.symm
  have hmap : (payload.map fun b => (⟨b, true⟩ : RxChar)).map (·.byte.toNat) = payload.map (·.toNat) := by
    rw [List.map_map]; rfl
  have hcrc := hs.crc
  have hparse := hs.parse
  have hdst := hs.dest
  have hsrc := hs.sender
  rw [hmap] at hcrc hparse
  dsimp only at hcrc hparse hdst hsrc
  rw [hl] at hcrc
  have hbytes : ∀ b ∈ payload.map (·.toNat), b < 256 := by
    intro b hb
    obtain ⟨c, -, rfl⟩ := List.mem_map.1 hb
    exact c.isLt
  obtain ⟨hkind, hpay⟩ := Payload.bytes_of_parse hparse hbytes
  refine ⟨?_, hkind, hpay, hdst ▸ f.hdr.dst.isLt, hsrc ▸ f.hdr.src.isLt, fun h0 => ?_⟩
  · simp only [List.map_cons, List.map_nil, twoBytes, List.cons.injEq, and_true] at hcrc
    omega
  · refine hs.sender_ne (Fin.ext ?_)
    rw [hsrc, h0]; rfl

end

/-! ### The register (R162, R163) -/

section
variable {s : State} {r : SendReg}

theorem exec_frameRejected_eq (s : State) (chars : List RxChar) :
    exec (.frameRejected chars) s = live s (s.receiveRun chars) := rfl
theorem exec_sendStart_eq (s : State) (q : Nat) : exec (.sendStart q) s = live s (s.doSendStart q) := rfl
theorem exec_frameSent_eq (s : State) : exec .frameSent s = live s s.doFrameSent := rfl
theorem exec_collision_eq (s : State) : exec .collision s = live s s.doCollision := rfl

theorem Line.refill_of_frame {l : Line} {g : Frame} {q : List Frame} (hr : l.reg = none) (hq : l.queue = g :: q) :
    l.refill = { l with reg := some ⟨g, 0, 0, false⟩, queue := q } := by
  unfold Line.refill; rw [hr, hq]

theorem Line.refill_of_empty {l : Line} (hr : l.reg = none) (hq : l.queue = []) : l.refill = l := by
  unfold Line.refill; rw [hr, hq]

/-- The state after a sent or discarded frame has left the register. -/
def State.regFreed (s : State) : State := { s with line := Line.refill { s.line with reg := none } }

theorem State.regFreed_of_empty (hq : s.line.queue = []) :
    s.regFreed = { s with line := { s.line with reg := none } } := by
  unfold State.regFreed
  rw [Line.refill_of_empty (l := { s.line with reg := none }) rfl hq]

theorem State.regFreed_of_frame {g : Frame} {q : List Frame} (hq : s.line.queue = g :: q) :
    s.regFreed = { s with line := { s.line with reg := some ⟨g, 0, 0, false⟩, queue := q } } := by
  unfold State.regFreed
  rw [Line.refill_of_frame (l := { s.line with reg := none }) rfl hq]

/-! A register in use stays as it is while frames are queued. -/

theorem State.reg_offerRoutine (h : s.line.reg ≠ none) (f : Frame) : (s.offerRoutine f).line.reg = s.line.reg := by
  unfold State.offerRoutine
  split
  · rw [State.setQueue_of_reg h]
  · rfl

theorem State.reg_recomputeLevel (h : s.line.reg ≠ none) : s.recomputeLevel.line.reg = s.line.reg := by
  unfold State.recomputeLevel
  split
  · rfl
  · exact (State.queueStatus_of_reg (s := { s with att := { s.att with level := s.levelNow } }) h).1

theorem State.reg_raise (h : s.line.reg ≠ none) (c : Cause) (d : Nat) :
    (s.raise c d).line.reg = s.line.reg := by
  by_cases habs : (s.cause c).st = .absent
  · have hreported : (s.reported c d).line.reg = s.line.reg := by
      rw [s.reported_eq c d habs]
      split
      · exact State.reg_offerRoutine (s := s.changeCause c _) h _
      · rfl
    rw [s.raise_of_absent c d habs, State.reg_recomputeLevel (by rwa [hreported]), hreported]
  · rw [s.raise_of_not_absent c d habs]; rfl

theorem State.doCollision_of_last (hr : s.line.reg = some r) (hs : r.sending = true) (ha : 15 ≤ r.attempts) :
    s.doCollision = State.settle (s.regFreed.raise .lineOverrun (Payload.kind r.frame.payload)) := by
  unfold State.doCollision
  rw [hr]
  dsimp only
  rw [if_pos hs, if_neg (Nat.not_lt.2 ha)]
  rfl

theorem State.doCollision_of_retry (hr : s.line.reg = some r) (hs : r.sending = true) (ha : r.attempts < 15)
    {n : Station} (hn : s.boot.station = some n) :
    s.doCollision = { s with line := { s.line with reg := some { r with
      attempts := r.attempts + 1, sending := false, backoff := (n.val + 5 * (r.attempts + 1)) % 16 + 1 } } } := by
  unfold State.doCollision
  rw [hr]
  dsimp only
  rw [if_pos hs, if_pos ha, hn]
  rfl

end

/-! ### ZTX (R161) -/

theorem charBits_length (b : Nat) : (charBits b).length = 10 := by simp [charBits]

/-- The j-th bit of the k-th character in a row of characters of ten bits each. -/
theorem getD_flatMap_charBits {bs : List Nat} {k b : Nat} (h : bs[k]? = some b) {j : Nat} (hj : j < 10) (x : Bool) :
    (bs.flatMap charBits).getD (10 * k + j) x = (charBits b).getD j x := by
  induction bs generalizing k with
  | nil => exact absurd h.symm (by simp)
  | cons a bs ih =>
    rw [List.flatMap_cons]
    cases k with
    | zero =>
      have hb : a = b := by simpa using h
      rw [hb, Nat.mul_zero, Nat.zero_add, List.getD_append _ _ _ _ (by rw [charBits_length]; exact hj)]
    | succ k =>
      have hle : (charBits a).length ≤ 10 * (k + 1) + j := by rw [charBits_length]; omega
      have hsub : 10 * (k + 1) + j - (charBits a).length = 10 * k + j := by rw [charBits_length]; omega
      rw [List.getD_append_right _ _ _ _ hle, hsub]
      exact ih (by simpa using h)

theorem length_flatMap_charBits (bs : List Nat) : (bs.flatMap charBits).length = 10 * bs.length := by
  induction bs with
  | nil => rfl
  | cons a bs ih => rw [List.flatMap_cons, List.length_append, ih, charBits_length, List.length_cons]; omega

theorem charBits_getD_data (b : Nat) {j : Nat} (hj : j < 8) (x : Bool) : (charBits b).getD (1 + j) x = b.testBit j := by
  have hlen : j < ((List.range 8).map b.testBit).length := by simpa using hj
  rw [Nat.add_comm, charBits, List.cons_append, List.getD_cons_succ, List.getD_append _ _ _ _ hlen]
  simp [List.getD, hj]

section
variable {s : State} {r : SendReg}

theorem State.zdePin_of_sending (hr : s.Runs) (hreg : s.line.reg = some r) (hs : r.sending = true) :
    s.zdePin = true := by
  have hh : s.boot.resetHeld = false := hr
  unfold State.zdePin
  rw [hh, hreg]
  exact hs

theorem State.zdePin_of_quiet (h : ∀ r, s.line.reg = some r → r.sending = false) : s.zdePin = false := by
  unfold State.zdePin
  cases hreg : s.line.reg with
  | none => exact Bool.and_false _
  | some r => exact Bool.and_eq_false_iff.2 (.inr (h r hreg))

end

/-- Settles O43: a run spells a frame only by the characters of that frame; the register moves row by row; ZTX carries
the characters of the frame in the register, ten bits each. -/
theorem sendingAndBrokenRuns : Obligations.SendingAndBrokenRuns := by
  refine ⟨⟨fun s chars hr => ⟨fun hnone => ?dropped, fun f hf => ?received⟩, fun chars =>
      ⟨parseRun_of_not_start, parseRun_of_low_stop, parseRun_of_cut⟩, fun kind dst src hi lo payload rest hlen => ?tests⟩,
    fun s r hr hreg => ⟨fun q hs hq => ?starts, fun q hs hq => ?waits, fun hs => ⟨fun hq => ?sentLast,
      fun g q hq => ?sentNext, fun ha n hn => ?retry, fun ha => ?discards⟩⟩,
    fun s n hr hn => ⟨fun r hreg hs => ?carries, fun hquiet => ?rests⟩⟩
  case dropped =>
    rw [exec_frameRejected_eq, live_of_runs hr]
    unfold State.receiveRun
    rw [hnone]
  case received =>
    obtain ⟨hsrc, n, hn⟩ := take_of_parseRun hf
    refine ⟨?_, hsrc, n, hn⟩
    rw [exec_frameRejected_eq, exec_frameForOther_eq, live_of_runs hr, live_of_runs hr]
    unfold State.receiveRun
    rw [hf]
  case tests =>
    have hspelt {f : RxFrame} := speltBy_of_run (f := f) (kind := kind) (dst := dst) (src := src) (hi := hi)
      (lo := lo) (payload := payload) (rest := rest) hlen
    refine ⟨fun hcrc => ?_, fun hkind => ?_, fun hl => ?_, fun hb => ?_, fun hrange => ?_⟩
    all_goals
      refine Option.eq_none_iff_forall_ne_some.2 fun f hf => ?_
      obtain ⟨hcrc', hk, hbytes, hdst, hsrc, hne⟩ := hspelt hf
    · exact hcrc hcrc'
    · exact hkind _ hk
    · exact hl _ hk (by rw [hbytes, List.length_map])
    · exact hb _ hk hbytes
    · rcases hrange with h | h | h
      · omega
      · omega
      · exact hne h
  case starts =>
    rw [exec_sendStart_eq, live_of_runs hr]
    unfold State.doSendStart
    rw [hreg]
    exact congrArg Host.Outcome.next (if_pos ⟨hs, hq⟩)
  case waits =>
    rw [exec_sendStart_eq, live_of_runs hr]
    unfold State.doSendStart
    rw [hreg]
    exact congrArg Host.Outcome.next (if_neg fun h => absurd h.2 (Nat.not_le.2 hq))
  case sentLast =>
    have hsent : s.doFrameSent = s.regFreed := by
      unfold State.doFrameSent; rw [hreg]; exact if_pos hs
    rw [exec_frameSent_eq, live_of_runs hr, hsent, State.regFreed_of_empty hq]
  case sentNext =>
    have hsent : s.doFrameSent = s.regFreed := by
      unfold State.doFrameSent; rw [hreg]; exact if_pos hs
    rw [exec_frameSent_eq, live_of_runs hr, hsent, State.regFreed_of_frame hq]
  case retry =>
    rw [exec_collision_eq, live_of_runs hr, State.doCollision_of_retry hreg hs ha hn]
  case discards =>
    have rest {b : Block} (h : b ≠ .att) (h' : b ≠ .line) :
        (s.regFreed.raise .lineOverrun (Payload.kind r.frame.payload)).get b = s.get b :=
      (State.get_raise _ _ _ h h').trans (State.get_line _ _ h')
    refine ⟨_, by rw [exec_collision_eq, live_of_runs hr, State.doCollision_of_last hreg hs ha], ?_, ?_, ?_,
      rest (b := .track) (by decide) (by decide), rest (b := .dr) (by decide) (by decide),
          rest (b := .ex) (by decide) (by decide),
      rest (b := .en) (by decide) (by decide)⟩
    · rw [State.cause_raise, if_pos rfl]
    · rw [State.cause_raise, if_pos rfl]
    · intro g q hq
      rw [State.reg_raise (by rw [State.regFreed_of_frame hq]; exact Option.some_ne_none _),
        State.regFreed_of_frame hq]
  case carries =>
    have hpin := State.zdePin_of_sending hr hreg hs
    have hchars : s.ztxChars = frameBytes r.frame.dst n r.frame.payload := by
      unfold State.ztxChars
      rw [if_pos hpin, hreg, hn]
      rfl
    refine ⟨hpin, hchars, fun k b hk => ⟨?_, fun j hj => ?_, ?_⟩, fun i hi => ?_⟩
    · unfold State.ztxPin
      rw [if_pos hpin]
      exact getD_flatMap_charBits (j := 0) hk (by decide) true
    · unfold State.ztxPin
      rw [if_pos hpin, Nat.add_assoc, getD_flatMap_charBits hk (by omega), charBits_getD_data b hj]
    · unfold State.ztxPin
      rw [if_pos hpin, getD_flatMap_charBits hk (by decide)]
      simp [charBits]
    · unfold State.ztxPin
      rw [if_pos hpin, List.getD_eq_default _ _ (by rw [length_flatMap_charBits]; exact hi)]
  case rests =>
    have hpin := State.zdePin_of_quiet hquiet
    have hno : ¬ s.zdePin = true := by rw [hpin]; exact Bool.false_ne_true
    exact ⟨hpin, if_neg hno, fun i => if_neg hno⟩

end Sys2Proof.Machine

/-! # The profile image: its check, its clamps and its distances (R5 to R7, R186, R187) -/

namespace Sys2Proof.Machine

/-! ### The check (R186) -/

theorem Role.ofCode_eq_none_iff {n : Nat} : Role.ofCode n = none ↔ 5 < n := by
  rcases n with _ | _ | _ | _ | _ | _ | n
  all_goals simp [Role.ofCode]

theorem Role.hasU1_of_code {n : Nat} {r : Role} (h : Role.ofCode n = some r) : Role.hasU1 r = decide (n = 2) := by
  have hc := Role.code_of_ofCode h
  subst hc
  cases r <;> rfl

theorem Role.hasD1_of_code {n : Nat} {r : Role} (h : Role.ofCode n = some r) : Role.hasD1 r = decide (n = 4) := by
  have hc := Role.code_of_ofCode h
  subst hc
  cases r <;> rfl

theorem Role.divert_of_code {n : Nat} {r : Role} (h : Role.ofCode n = some r) : r = .divert ↔ n = 4 := by
  have hc := Role.code_of_ofCode h
  subst hc
  cases r <;> simp [Role.code]

/-- The neighbours check of a port by itself, and against the other port's neighbour (R186). -/
theorem badNeighbour_none (self n : Nat) : badNeighbour self n none = (decide (n > 63) || n == self) :=
  Bool.or_false _

theorem profileFault_of_role {n : Station} {img : List Byte} {r : Role} (hmark : imgByte img 0 = 0xC4)
    (hsum : imgSum img = imgWord img 111) (hr : Role.ofCode (imgByte img 1) = some r) :
    profileFault n img =
      if imgWord img 10 = 0 then some 5
      else if badNeighbour n.val (imgByte img 2) none then some 6
      else if Role.hasU1 r && badNeighbour n.val (imgByte img 3) (some (imgByte img 2)) then some 7
      else if badNeighbour n.val (imgByte img 4) none then some 8
      else if Role.hasD1 r && badNeighbour n.val (imgByte img 5) (some (imgByte img 4)) then some 9
      else none := by
  unfold profileFault
  rw [if_neg (not_not.2 hmark), if_neg (not_not.2 hsum), hr]

/-! ### The clamps (R187) -/

/-- A value within its range is kept, and one outside takes the nearest limit (R187). -/
theorem clampNat_eq_near {lo hi : Nat} (h : lo ≤ hi) (x : Nat) :
    clampNat x lo hi = if x < lo then lo else if hi < x then hi else x := by
  unfold clampNat
  split
  · omega
  · split <;> omega

theorem clampStation_val (n : Nat) : (clampStation n).val = if n < 0 then 0 else if 63 < n then 63 else n := by
  have hlt : min n 63 < 64 := by omega
  have hval : (clampStation n).val = min n 63 := Nat.mod_eq_of_lt hlt
  rw [hval, if_neg (Nat.not_lt_zero n)]
  split <;> omega

theorem clampEyePos_eq {length : Nat} (h : 2 ≤ length) (x : Nat) :
    clampEyePos length x
      = if x = 0 then 0 else if x < 1 then 1 else if length - 1 < x then length - 1 else x := by
  unfold clampEyePos
  rw [clampNat_eq_near (by omega)]

theorem length_profileOf (img : List Byte) : 300 ≤ (profileOf img).length ∧ (profileOf img).length ≤ 8000 :=
  clampNat_mem (by decide) _

theorem rackMin_profileOf (img : List Byte) : 300 ≤ (profileOf img).rackMin ∧ (profileOf img).rackMin ≤ 700 :=
  clampNat_mem (by decide) _

theorem rackMax_profileOf (img : List Byte) : (profileOf img).rackMax ≤ 900 :=
  (clampNat_mem ((rackMin_profileOf img).2.trans (by decide)) _).2

theorem k_profileOf (img : List Byte) : (profileOf img).k ≤ 2000 := (clampNat_mem (by decide) _).2

theorem allowance_profileOf (img : List Byte) :
    (profileOf img).jam ≤ 3000 ∧ (profileOf img).transfer ≤ 3000 ∧ (profileOf img).arrival ≤ 3000 :=
  ⟨(clampNat_mem (by decide) _).2, (clampNat_mem (by decide) _).2, (clampNat_mem (by decide) _).2⟩

theorem clampEyePos_le {length : Nat} (h : 2 ≤ length) (x : Nat) : clampEyePos length x ≤ length - 1 := by
  unfold clampEyePos
  split
  · omega
  · exact (clampNat_mem (by omega) _).2

theorem eyePos_profileOf (img : List Byte) :
    (profileOf img).posCheckA ≤ (profileOf img).length - 1 ∧ (profileOf img).posCheckB ≤ (profileOf img).length - 1
      ∧ (profileOf img).posGate ≤ (profileOf img).length - 1 ∧ (profileOf img).posBay ≤ (profileOf img).length - 1 := by
  have h : 2 ≤ (profileOf img).length := (by decide : 2 ≤ 300).trans (length_profileOf img).1
  exact ⟨clampEyePos_le h _, clampEyePos_le h _, clampEyePos_le h _, clampEyePos_le h _⟩

theorem lead_profileOf (img : List Byte) : (profileOf img).stopLead ≤ (profileOf img).approachLead
    ∧ (profileOf img).approachLead ≤ (profileOf img).offerLead :=
  ⟨Nat.min_le_right _ _, Nat.min_le_right _ _⟩

theorem Role.hasU1_iff (r : Role) : Role.hasU1 r = true ↔ r = .merge := by cases r <;> decide
theorem Role.hasD1_iff (r : Role) : Role.hasD1 r = true ↔ r = .divert := by cases r <;> decide

/-- The station of a port that only one role has. -/
theorem val_ite_station {q : Bool} {r : Prop} [Decidable r] (h : q = true ↔ r) (x : Nat) :
    (if q then clampStation x else 0).val = if r then (clampStation x).val else 0 := by
  by_cases hr : r
  · rw [if_pos (h.2 hr), if_pos hr]
  · rw [if_neg (fun hq => hr (h.1 hq)), if_neg hr]; rfl

/-! ### Lists of the image -/

theorem getElem?_map_range {α : Type} (f : Nat → α) {n i : Nat} (h : i < n) :
    ((List.range n).map f)[i]? = some (f i) := by simp [h]

theorem length_map_range {α : Type} (f : Nat → α) (n : Nat) : ((List.range n).map f).length = n := by simp

/-! ### Distances in counts (R5, R6, R7) -/

theorem mmToCounts_mono {k a b : Nat} (h : a ≤ b) : mmToCounts k a ≤ mmToCounts k b :=
  Nat.div_le_div_right (Nat.add_le_add_right (Nat.mul_le_mul_right k h) _)

/-- With K up to 2000 a distance of n millimetres is at most 2 n counts. -/
theorem mmToCounts_le {k mm n : Nat} (hk : k ≤ 2000) (h : mm ≤ n) : mmToCounts k mm ≤ 2 * n := by
  have hmul : mm * k ≤ n * 2000 := Nat.mul_le_mul h hk
  unfold mmToCounts
  omega

theorem counts_natCast (k mm : Nat) :
    (if (mm : Int) < 0 then 0 else ((mm : Int).toNat * k + 500) / 1000) = mmToCounts k mm := by
  rw [if_neg (by omega)]; rfl

theorem counts_lead (k length lead : Nat) :
    (if (length : Int) - lead < 0 then 0 else (((length : Int) - lead).toNat * k + 500) / 1000)
      = leadOffset k length lead := by
  unfold leadOffset mmToCounts
  split
  next h =>
    have hzero : length - lead = 0 := by omega
    rw [hzero]; omega
  next h =>
    have heq : ((length : Int) - lead).toNat = length - lead := by omega
    rw [heq]

/-- Settles O6: the check row by row, the clamps as nearest limits, and the distances by their conversion. -/
theorem profileIsCheckedClampedAndConverted : Obligations.ProfileIsCheckedClampedAndConverted := by
  refine ⟨fun n img => ?check, fun img => ?clamps, fun img => ?bounds, fun p => ?counts⟩
  case check =>
    intro b two one
    by_cases hmark : imgByte img 0 = 0xC4
    · by_cases hsum : imgSum img = imgWord img 111
      · cases hr : Role.ofCode (imgByte img 1) with
        | none =>
          have h5 := Role.ofCode_eq_none_iff.1 hr
          unfold profileFault
          rw [if_neg (not_not.2 hmark), if_neg (not_not.2 hsum), hr, if_neg (not_not.2 hmark),
            if_neg (not_not.2 hsum), if_pos h5]
        | some r =>
          have h5 : ¬ 5 < imgByte img 1 := fun h => by
            rw [Role.ofCode_eq_none_iff.2 h] at hr
            exact absurd hr.symm (Option.some_ne_none r)
          rw [profileFault_of_role hmark hsum hr, if_neg (not_not.2 hmark), if_neg (not_not.2 hsum), if_neg h5,
            Role.hasU1_of_code hr, Role.hasD1_of_code hr, badNeighbour_none, badNeighbour_none]
          simp only [Bool.and_eq_true, decide_eq_true_eq]
          rfl
      · unfold profileFault
        rw [if_neg (not_not.2 hmark), if_pos hsum, if_neg (not_not.2 hmark), if_pos hsum]
    · unfold profileFault
      rw [if_pos hmark, if_pos hmark]
  case clamps =>
    intro p b w near
    have hnear {lo hi : Nat} (h : lo.ble hi = true) (x : Nat) : clampNat x lo hi = near x lo hi :=
      clampNat_eq_near (Nat.le_of_ble_eq_true h) x
    have hstation (x : Nat) : (clampStation x).val = near x 0 63 := clampStation_val x
    have hlen : 2 ≤ p.length := (by decide : 2 ≤ 300).trans (length_profileOf img).1
    have heye (x : Nat) : clampEyePos p.length x = if x = 0 then 0 else near x 1 (p.length - 1) :=
      clampEyePos_eq hlen x
    refine ⟨fun r hr => ?role, ⟨hnear rfl _, hnear rfl _⟩, ?eyes,
      ⟨hnear rfl _, hnear rfl _⟩,
      ⟨hnear rfl _, hnear (Nat.ble_eq_true_of_le ((rackMin_profileOf img).2.trans (by decide))) _, hnear rfl _⟩,
      ⟨hnear rfl _, congrArg (min · p.offerLead) (hnear rfl _),
        congrArg (min · p.approachLead) (hnear rfl _)⟩,
      ⟨hnear rfl _, hnear rfl _, hnear rfl _⟩, hnear rfl _, ?creep,
      ⟨hnear rfl _, hnear rfl _, hnear rfl _⟩, ⟨rfl, rfl, rfl⟩,
      ⟨hnear rfl _, hnear rfl _⟩, ?limit, ⟨hnear rfl _, hnear rfl _⟩, ?park,
      ⟨hnear rfl _, hnear rfl _⟩, fun i hi e he => ?route, ⟨rfl, rfl⟩, fun i hi => ?loaders,
      ⟨hnear rfl _, hnear rfl _, hnear rfl _⟩, ?patience, hnear rfl _,
      fun i hi => ?accept, fun i hi => ?causes, ?stations, ?u1, ?d1, length_map_range _ _, length_map_range _ _,
      length_map_range _ _, length_map_range _ _, length_map_range _ _⟩
    case role => exact congrArg (Option.getD · .feed) hr
    case eyes =>
      simp only [List.forall_mem_cons]
      exact ⟨heye _, heye _, heye _, heye _, List.forall_mem_nil _⟩
    case creep =>
      show clampCreep (b 42) = _
      simp [clampCreep]
    case limit =>
      show (if p.role = .divert then 1 else clampNat (b 51) 1 12) = _
      rw [hnear rfl]
    case park =>
      show (if w 54 = 0 then 0 else clampNat (w 54) 5 600) = _
      rw [hnear rfl]
    case patience =>
      show (if b 89 = 0 then 0 else clampNat (b 89) 1 120) = _
      rw [hnear rfl]
    case route =>
      have hentry : e = routeEntryOf (b (59 + i)) :=
        Option.some.inj (he.symm.trans (getElem?_map_range (fun i => routeEntryOf (imgByte img (59 + i))) hi))
      rw [hentry]
      exact ⟨rfl, rfl⟩
    case loaders =>
      have h0 := getElem?_map_range (fun i => clampStation (imgByte img (76 + i))) hi
      have h1 := getElem?_map_range (fun i => clampStation (imgByte img (80 + i))) hi
      exact ⟨(congrArg (Option.map (·.val)) h0).trans (congrArg some (hstation _)),
        (congrArg (Option.map (·.val)) h1).trans (congrArg some (hstation _))⟩
    case accept =>
      show (BitVec.ofNat 16 (w 91)).getLsbD i = _
      rw [BitVec.getLsbD_ofNat, decide_eq_true hi, Bool.true_and]
    case causes =>
      have hsev : near (b (93 + i) % 16) 0 3 = min (b (93 + i) % 16) 3 := by
        rw [← hnear rfl]; exact Nat.zero_max _
      have h0 := getElem?_map_range (fun i => min (imgByte img (93 + i) % 16) 3) hi
      have h1 := getElem?_map_range (fun i => (imgByte img (93 + i)).testBit 7) hi
      exact ⟨by rw [hsev]; exact h0, h1⟩
    case stations =>
      simp only [List.forall_mem_cons]
      exact ⟨hstation _, hstation _, hstation _, hstation _, List.forall_mem_nil _⟩
    case u1 =>
      exact (val_ite_station (Role.hasU1_iff p.role) _).trans (congrArg (if p.role = .merge then · else 0) (hstation _))
    case d1 =>
      exact (val_ite_station (Role.hasD1_iff p.role) _).trans (congrArg (if p.role = .divert then · else 0) (hstation _))
  case bounds =>
    intro c
    obtain ⟨-, hlen⟩ := length_profileOf img
    have hk := k_profileOf img
    have hmax := rackMax_profileOf img
    obtain ⟨hjam, htransfer, harrival⟩ := allowance_profileOf img
    obtain ⟨ha, hb, hg, hbay⟩ := eyePos_profileOf img
    obtain ⟨hstop, happroach⟩ := lead_profileOf img
    have hexit : c.exit ≤ 2 * 8000 := mmToCounts_le hk hlen
    have hgate : (if (profileOf img).posGate = 0 then (profileOf img).length else (profileOf img).posGate)
        + (profileOf img).rackMax ≤ 8900 := by split <;> omega
    have hoffset {x n : Nat} (h : x ≤ 8900) (he : mmToCounts (profileOf img).k x = n) : n ≤ 17800 :=
      he ▸ mmToCounts_le hk h
    have hlen' : (profileOf img).length ≤ 8900 := hlen.trans (by decide)
    have hless (n : Nat) : (profileOf img).length - n ≤ 8900 := (Nat.sub_le _ n).trans hlen'
    have hallow {x : Nat} (h : x ≤ 3000) : mmToCounts (profileOf img).k x ≤ 2 * 3000 := mmToCounts_le hk h
    simp only [List.forall_mem_cons]
    refine ⟨⟨hoffset hlen' rfl, hoffset (ha.trans (hless 1)) rfl, hoffset (hb.trans (hless 1)) rfl,
        hoffset (hg.trans (hless 1)) rfl, hoffset (hbay.trans (hless 1)) rfl, hoffset (hless _) rfl,
        hoffset (hless _) rfl, hoffset (hless _) rfl, hoffset hgate rfl, List.forall_mem_nil _⟩,
      (Nat.add_le_add hexit (hallow hjam)).trans (by decide),
      (Nat.add_le_add hexit (hallow htransfer)).trans (by decide),
      (Nat.add_le_add hexit (hallow harrival)).trans (by decide),
      mmToCounts_mono (Nat.sub_le_sub_left happroach _), mmToCounts_mono (Nat.sub_le_sub_left hstop _),
      mmToCounts_mono (Nat.sub_le _ _)⟩
  case counts =>
    intro c counts
    have hnat (mm : Nat) : mmToCounts p.k mm = counts mm := (counts_natCast p.k mm).symm
    have hlead (lead : Nat) : leadOffset p.k p.length lead = counts ((p.length : Int) - lead) :=
      (counts_lead p.k p.length lead).symm
    simp only [List.forall_mem_cons]
    refine ⟨⟨hnat _, hnat _, hnat _, hnat _, hnat _⟩,
      ⟨fun _ => hnat _, fun _ => hnat _, fun _ => hnat _, fun _ => hnat _, List.forall_mem_nil _⟩,
      ⟨hlead _, hlead _, hlead _⟩, fun hg => ?_, fun hg => ?_, hnat _, hnat _, hnat _, hnat _⟩
    · rw [← Nat.cast_add, ← hnat]
      exact congrArg (fun n => mmToCounts p.k (n + p.rackMax)) (if_neg hg)
    · rw [← Nat.cast_add, ← hnat]
      exact congrArg (fun n => mmToCounts p.k (n + p.rackMax)) (if_pos hg)

end Sys2Proof.Machine

/-! # The station number and the profile read (R185 to R189) -/

namespace Sys2Proof.Machine

/-! ### The SPI port (R186) -/

theorem readCommand_bits : ∀ d : Bool, ∀ i < 3, ∀ j < 8,
    (([0x03, 0, 0] : List Byte).flatMap spiBits).getD (8 * i + j) d
      = ([0x03, 0, 0] : List Nat)[i]!.testBit (7 - j) := by decide

section
variable {s : State}

theorem State.pckPin_of_low (h : s.boot.pcs = false) {n : Nat} (hn : n < 2 * (8 * 116)) :
    s.pckPin n = decide (n % 2 = 1) := by
  have hn' : n < 2 * (8 * spiLength) := hn
  unfold State.pckPin
  rw [h, decide_eq_true hn']
  exact Bool.true_and _

theorem State.pckPin_of_done {n : Nat} (hn : 2 * (8 * 116) ≤ n) : s.pckPin n = false := by
  have hn' : ¬ n < 2 * (8 * spiLength) := Nat.not_lt.2 hn
  unfold State.pckPin
  rw [decide_eq_false hn', Bool.and_false, Bool.false_and]

theorem State.pckPin_of_high (h : s.boot.pcs = true) (n : Nat) : s.pckPin n = false := by
  unfold State.pckPin
  rw [h]; rfl

theorem State.pdoPin_of_read (h : s.boot.pcs = false) (hout : s.boot.spiOut = [0x03, 0, 0]) {i j m : Nat} (hi : i < 3)
    (hj : j < 8) (hm : m < 2) :
    s.pdoPin (16 * i + 2 * j + m) = ([0x03, 0, 0] : List Nat)[i]!.testBit (7 - j) := by
  have hdiv : (16 * i + 2 * j + m) / 2 = 8 * i + j := by omega
  have hbits : s.pdoBits = ([0x03, 0, 0] : List Byte).flatMap spiBits := by
    unfold State.pdoBits
    rw [h, if_neg Bool.false_ne_true, hout]
  unfold State.pdoPin
  rw [hbits, hdiv]
  exact readCommand_bits _ i hi j hj

/-! ### UNSET (R188) -/

theorem State.boot_enterUnset (d : Nat) : (s.enterUnset d).boot = { s.boot with mode := .unset } :=
  (State.get_raiseStanding (b := .boot) _ _ _ (by decide)
      (by decide)).trans (State.get_queueStatus (b := .boot) _ (by decide))

theorem State.cause_enterUnset (d : Nat) :
    ((s.enterUnset d).cause .profileFault).st = .pending
      ∧ ((s.enterUnset d).cause .profileFault).detail = BitVec.ofNat 16 d := by
  have h := State.cause_raiseStanding
    { (State.queueStatus { s with boot := { s.boot with mode := .unset } }) with
      line := { (State.queueStatus { s with boot := { s.boot with mode := .unset } }).line with
        statusTimer := some Config.statusTicks } } .profileFault .profileFault d
  rw [if_pos rfl] at h
  unfold State.enterUnset
  dsimp only
  rw [h]
  exact ⟨rfl, rfl⟩

theorem State.raiseStanding_keeps (s : State) (c : Cause) (d : Nat) : LineKeeps s (s.raiseStanding c d) :=
  (State.setCause_keeps s c _).trans (State.raise_keeps _ c d)

theorem State.statusTimer_enterUnset (d : Nat) : (s.enterUnset d).line.statusTimer = some 50 :=
  (State.raiseStanding_keeps _ _ _).statusTimer

theorem State.get_enterUnset {b : Block} (d : Nat) (h : b ≠ .boot) (h₁ : b ≠ .line) (h₂ : b ≠ .att) :
    (s.enterUnset d).get b = s.get b :=
  (State.get_raiseStanding _ _ _ h₂ h₁).trans <| (State.get_line _ _ h₁).trans <|
    (State.get_queueStatus _ h₁).trans (by cases b <;> first | rfl | exact absurd rfl h)

theorem State.tick_enterUnset (d : Nat) : (s.enterUnset d).line.tick = s.line.tick :=
  (State.raiseStanding_keeps _ _ _).tick.trans
    (State.offerCoalesced_keeps { s with boot := { s.boot with mode := .unset } } _ _).tick

/-! ### SCANNING (R187, R189) -/

/-- The station at its entry to SCANNING, before the want and the STATUS. -/
def State.profiled (s : State) (img : List Byte) : State :=
  let p := profileOf img
  { s with
    boot := { s.boot with
      loaded := true, prof := p, cts := countsOf p,
      ceiling := if p.minExposure = 0 then 0 else ceilingOf p, mode := .scanning }
    line := { s.line with
      u0 := s.newNeigh p.u0, u1 := s.newNeigh p.u1, d0 := s.newNeigh p.d0, d1 := s.newNeigh p.d1
      statusTimer := some Config.statusTicks } }

/-- The want at the entry to SCANNING (R131). -/
def State.wanting (s : State) : State :=
  { s with bay := { s.bay with want := if s.hasRole .load then s.wantNow else 0 } }

theorem State.enterScanning_eq (img : List Byte) : s.enterScanning img = (s.profiled img).wanting.queueStatus := rfl

theorem State.enterScanning_keeps (img : List Byte) : LineKeeps (s.profiled img) (s.enterScanning img) :=
  LineKeeps.trans (t := (s.profiled img).wanting) ⟨rfl, rfl, fun p => by cases p <;> rfl⟩
    (State.offerCoalesced_keeps _ _ _)

theorem State.get_enterScanning {b : Block} (img : List Byte) (h : b ≠ .line) (h₁ : b ≠ .bay) :
    (s.enterScanning img).get b = (s.profiled img).get b :=
  (State.get_queueStatus _ h).trans (State.get_bay _ _ h₁)

/-- The exposure ceiling, in whole numbers also where the offer lead exceeds the length (R72). -/
theorem ceilingOf_eq (p : Profile) :
    (ceilingOf p : Int) = max 10 (((p.length : Int) - (p.offerLead : Int)) / (p.minExposure : Int)) := by
  unfold ceilingOf
  rw [Nat.cast_max]
  rcases Nat.le_total p.offerLead p.length with h | h
  · rw [← Nat.cast_sub h, ← Int.natCast_div]; rfl
  · have hsub : p.length - p.offerLead = 0 := Nat.sub_eq_zero_of_le h
    have hneg : ((p.length : Int) - p.offerLead) / p.minExposure ≤ 0 := by
      rcases Nat.eq_zero_or_pos p.minExposure with h0 | h0
      · rw [h0, Nat.cast_zero, Int.ediv_zero]
      · exact (Int.ediv_le_ediv (Nat.cast_pos.2 h0) (by omega)).trans_eq (Int.zero_ediv _)
    rw [hsub, Nat.zero_div, max_eq_left (by decide), max_eq_left (hneg.trans (by decide))]
    rfl

/-! ### The commands -/

theorem exec_stationNumberRead_of_due {n : Station} (hr : s.Runs) (hm : s.boot.mode = .loading)
    (hs : s.boot.station = none) (hl : s.boot.strapLast = some n) (h3 : s.boot.strapRun = 3) :
    exec .stationNumberRead s = .next (
      if n = 0 then (State.enterUnset { s with boot := { s.boot with station := some n } } 1).settle
      else State.settle { s with boot := { s.boot with station := some n, pcs := false, spiOut := [0x03, 0, 0] } }) := by
  have he : exec .stationNumberRead s = live s s.doStationNumberRead := rfl
  rw [he, live_of_runs hr]
  unfold State.doStationNumberRead
  rw [hl]
  exact congrArg Host.Outcome.next (if_pos ⟨hm, hs, h3⟩)

theorem State.doProfileRead_of_due {n : Station} {img : List Byte} (hm : s.boot.mode = .loading)
    (hs : s.boot.station = some n) (hn : n ≠ 0) (hlen : img.length = 113) :
    (∀ d, profileFault n img = some d →
        s.doProfileRead img = (State.enterUnset { s with boot := { s.boot with pcs := true } } d).settle)
      ∧ (profileFault n img = none →
        s.doProfileRead img = (State.enterScanning { s with boot := { s.boot with pcs := true } } img).settle) := by
  unfold State.doProfileRead
  rw [hs]
  dsimp only
  rw [if_pos ⟨hm, hn, hlen⟩]
  exact ⟨fun d hd => by rw [hd], fun hd => by rw [hd]⟩

theorem exec_profileRead_eq (s : State) (img : List Byte) : exec (.profileRead img) s = live s (s.doProfileRead img) := rfl

end

/-- Settles O5: the number read fixes the number and begins the read, or leads to UNSET; the image read leads to
SCANNING, or to UNSET with the detail of the check. -/
theorem startUpReadsNumberAndProfile : Obligations.StartUpReadsNumberAndProfile := by
  have hd : derivedCause .profileFault = false := rfl
  refine ⟨fun s n hr hm hs hl h3 => ⟨_, exec_stationNumberRead_of_due hr hm hs hl h3, fun hn => ?reads,
      State.pckPin_of_high, fun hn => ?unset, ?cu, ?tag, ?wants⟩,
    fun s img n hr hm hs hn hlen => ⟨s.doProfileRead img, by rw [exec_profileRead_eq, live_of_runs hr], ?image⟩⟩
  case reads =>
    rw [if_neg hn]
    have hboot := State.settle_boot
      { s with boot := { s.boot with station := some n, pcs := false, spiOut := [0x03, 0, 0] } }
    have hlow : (State.settle { s with boot := { s.boot with
        station := some n, pcs := false, spiOut := [0x03, 0, 0] } }).boot.pcs = false := by rw [hboot]
    have hout : (State.settle { s with boot := { s.boot with
        station := some n, pcs := false, spiOut := [0x03, 0, 0] } }).boot.spiOut = [0x03, 0, 0] := by rw [hboot]
    refine ⟨hboot, fun i hi j hj h hh => ⟨State.pdoPin_of_read hlow hout hi hj hh, ?_⟩, fun j hj => ⟨?_, ?_⟩,
      fun k hk => State.pckPin_of_done hk⟩
    · rw [State.pckPin_of_low hlow (by omega)]
      exact decide_eq_decide.2 (by omega)
    · rw [State.pckPin_of_low hlow (by omega)]
      exact decide_eq_false (by omega)
    · rw [State.pckPin_of_low hlow (by omega)]
      exact decide_eq_true (by omega)
  case unset =>
    subst hn
    rw [if_pos rfl]
    refine ⟨?_, ?_, ?_, ?_⟩
    · rw [State.settle_boot, State.boot_enterUnset]
    · rw [State.cause_settle _ hd]; exact (State.cause_enterUnset 1).1
    · rw [State.cause_settle _ hd]; exact (State.cause_enterUnset 1).2
    · rw [State.kept_statusTimer_eq _ _ (State.kept_settle _)]; exact State.statusTimer_enterUnset 1
  case cu =>
    split
    · exact (State.settle_cu _).trans (State.get_enterUnset (b := .cu) _ (by decide) (by decide) (by decide))
    · exact State.settle_cu _
  case tag =>
    split
    · exact (State.settle_tag _).trans (State.get_enterUnset (b := .tag) _ (by decide) (by decide) (by decide))
    · exact State.settle_tag _
  case wants =>
    split
    · refine (State.kept_wants_eq _ _ (State.kept_settle _)).trans ?_
      exact congrArg RouteUnit.wants (State.get_enterUnset (b := .rt) _ (by decide) (by decide) (by decide))
    · exact (State.kept_wants_eq _ _ (State.kept_settle _) :)
  case image =>
    obtain ⟨hfault, hpass⟩ := State.doProfileRead_of_due (img := img) hm hs hn hlen
    cases hf : profileFault n img with
    | some d =>
      rw [hfault d hf]
      refine ⟨fun h => absurd h (Option.some_ne_none d), fun d' hd' => ?_, ?_, ?_, ?_⟩
      · obtain rfl := Option.some.inj hd'
        refine ⟨?_, ?_, ?_⟩
        · rw [State.settle_boot, State.boot_enterUnset]
        · rw [State.cause_settle _ hd]; exact (State.cause_enterUnset d).1
        · rw [State.cause_settle _ hd]; exact (State.cause_enterUnset d).2
      · exact (State.settle_cu _).trans (State.get_enterUnset (b := .cu) _ (by decide) (by decide) (by decide))
      · exact (State.settle_tag _).trans (State.get_enterUnset (b := .tag) _ (by decide) (by decide) (by decide))
      · exact (State.tick_settle _).trans (State.tick_enterUnset d)
    | none =>
      rw [hpass hf]
      have hkeeps := State.enterScanning_keeps (s := { s with boot := { s.boot with pcs := true } }) img
      have hboot := (State.settle_boot (State.enterScanning { s with boot := { s.boot with pcs := true } } img)).trans
        (State.get_enterScanning (b := .boot) img (by decide) (by decide))
      have hneigh (p : Port) := (State.neigh_settle
        (State.enterScanning { s with boot := { s.boot with pcs := true } } img) p).trans (hkeeps.neigh p)
      refine ⟨fun _ => ⟨by rw [hboot]; rfl, by rw [hboot]; rfl, by rw [hboot]; rfl, by rw [hboot]; rfl, by rw [hboot]; rfl,
        by rw [hboot]; exact hs, ?_, ?_, hneigh .u0, hneigh .d0, hneigh .u1, hneigh .d1⟩,
        fun d h => absurd h.symm (Option.some_ne_none d), ?_, ?_, ?_⟩
      · intro p hp
        rw [hboot, ← ceilingOf_eq]
        exact congrArg Nat.cast (if_neg (Nat.pos_iff_ne_zero.1 hp))
      · exact (State.kept_statusTimer_eq _ _ (State.kept_settle _)).trans hkeeps.statusTimer
      · exact (State.settle_cu _).trans (State.get_enterScanning (b := .cu) img (by decide) (by decide))
      · exact (State.settle_tag _).trans (State.get_enterScanning (b := .tag) img (by decide) (by decide))
      · exact (State.tick_settle _).trans hkeeps.tick

end Sys2Proof.Machine

/-! Records lost: what a removal leaves of lists, tag port and causes, the lost list, and O18 from them. -/

namespace Sys2Proof.Machine

section
variable (s : State) (r : Rec)

theorem State.kept_parted : (s.parted r).kept = s.kept := by
  unfold State.parted
  split
  · exact State.kept_sendWithdraw s r
  · rfl

theorem State.eyes_removeRec : (s.removeRec r).eyes = (s.leaveLists r.id).eyes := by
  have heyes : (s.parted r).eyes = s.eyes := s.get_parted r (b := .eyes) (by decide) (by decide) (by decide)
  rw [State.removeRec_eq]
  refine (State.get_rehead (b := .eyes) _ (by decide) (by decide) (by decide) (by decide) (by decide)).trans <|
    (s.get_takeOff r (b := .eyes) (by decide) (by decide) (by decide) (by decide)).trans <|
    (s.get_lifted r (b := .eyes) (by decide) (by decide) (by decide)).trans ?_
  show (State.leaveLists { s.parted r with track := _ } r.id).eyes = _
  simp only [State.leaveLists, State.updChans, heyes]

theorem State.tag_removeRec : (s.removeRec r).tag =
    if s.tag.owner = some r.id then { s.tag with owner := none } else s.tag := by
  have htag : (s.parted r).tag = s.tag := s.get_parted r (b := .tag) (by decide) (by decide) (by decide)
  have hread (t : State) (ht : t.tag = s.tag) : (t.unread r.id).tag =
      if s.tag.owner = some r.id then { s.tag with owner := none } else s.tag := by
    unfold State.unread
    rw [← ht]
    split <;> rfl
  rw [State.removeRec_eq]
  exact (State.get_rehead (b := .tag) _ (by decide) (by decide) (by decide) (by decide) (by decide)).trans <|
    (s.get_takeOff r (b := .tag) (by decide) (by decide) (by decide) (by decide)).trans <|
    (State.get_unreleased (b := .tag) _ _ (by decide)).trans <|
    (State.get_unrouted (b := .tag) _ (by decide)).trans (hread _ htag)

theorem State.cause_sendLanded (p : UpPort) (n : Serial) (k : RackNo) (a : LandStatus)
    (i : Option (RackNo × Station)) {c : Cause} (hc : derivedCause c = false) :
    (s.sendLanded p n k a i).cause c = s.cause c := by
  have hsend (t : State) (d : Station) (x : Payload) : (t.sendPrompt d x).cause c = t.cause c :=
    State.kept_cause_eq _ _ (State.kept_sendPrompt _ _ _) c hc
  have hlog (l : List LandLog) : (s.setLandLog p l).cause c = s.cause c := State.cause_congr (State.att_setLandLog _ _ _) c
  unfold State.sendLanded
  dsimp only
  split
  · exact (hsend _ _ _).trans (hlog _)
  · exact (hsend _ _ _).trans ((hsend _ _ _).trans (hlog _))

theorem State.cause_abandonLanding (i : Nat) {c : Cause} (hc : derivedCause c = false) :
    (s.abandonLanding i).cause c = s.cause c := by
  unfold State.abandonLanding
  split
  · rfl
  · exact (State.cause_sendLanded _ _ _ _ _ _ hc).trans (State.cause_congr (State.att_setSlot _ _ _) c)

/-- A removal raises nothing itself but what the derived actions can raise. -/
theorem State.cause_removeRec {c : Cause} (hc : derivedCause c = false) : (s.removeRec r).cause c = s.cause c := by
  have hatt : (s.lifted r).att = (s.parted r).att :=
    (s.get_lifted r (b := .att) (by decide) (by decide)
        (by decide)).trans (State.get_leaveLists (b := .att) _ _ (by decide))
  rw [State.removeRec_eq]
  exact (State.kept_cause_eq _ _ (State.kept_rehead _) c hc).trans <|
    (State.kept_cause_eq _ _ (State.kept_bayFollows _) c hc).trans <|
    (State.cause_abandonLanding _ _ hc).trans <| (State.cause_congr hatt c).trans <|
    State.kept_cause_eq _ _ (s.kept_parted r) c hc

/-! ### The lost list (R94) -/

theorem State.ex_raiseLost (b : Bool) :
    (s.raiseLost r b).ex = if b then s.ex else { s.ex with plainLoss := true } := by
  cases b
  · exact State.get_raise (b := .ex) _ _ _ (by decide) (by decide)
  · exact State.get_raise (b := .ex) _ _ _ (by decide) (by decide)

theorem State.cause_raiseLost (b : Bool) : ((s.raiseLost r b).cause .lostRack).st = .pending
    ∧ ((s.raiseLost r b).cause .lostRack).detail = BitVec.ofNat 16 r.number.val := by
  cases b
  all_goals
    simp only [State.raiseLost]
    rw [State.cause_raise, if_pos rfl]
    exact ⟨rfl, rfl⟩

theorem State.cause_toLost : ((s.toLost r).cause .lostRack).st = .pending
    ∧ ((s.toLost r).cause .lostRack).detail = BitVec.ofNat 16 r.number.val := by
  unfold State.toLost
  split <;> exact State.cause_raiseLost _ _ _

theorem State.ex_pushLost (x : LostEntry) : (s.pushLost x).ex = if s.ex.lost.length < 4
    then { s.ex with lost := s.ex.lost ++ [x] }
    else { s.ex with lost := s.ex.lost.drop 1 ++ [x], plainLoss := true } := by
  unfold State.pushLost
  split <;> rfl

variable {r}

theorem State.ex_toLost_of_exchange {p : DownPort} {n : Serial} (hp : r.exitPort = some p) (hn : r.exitSerial = some n) :
    (s.toLost r).ex = (s.pushLost ⟨r.number, n, p⟩).ex := by
  unfold State.toLost
  rw [hp, hn]
  exact State.ex_raiseLost _ _ true

theorem State.ex_toLost_of_none (h : r.exitPort = none ∨ r.exitSerial = none) :
    (s.toLost r).ex = { s.ex with plainLoss := true } := by
  unfold State.toLost
  split
  next hp hn =>
    exact (h.elim (fun h => Option.some_ne_none _ (hp.symm.trans h)) fun h => Option.some_ne_none _ (hn.symm.trans h)).elim
  · exact State.ex_raiseLost _ _ false

theorem State.kept_track_giveUp : (s.giveUp r).track.map Rec.kept
    = (s.track.filter fun q => q.id != r.id).map Rec.kept := by
  rw [← s.kept_track_removeRec r]
  exact congrArg _ (State.get_toLost (b := .track) _ _ (by decide) (by decide) (by decide))

/-- However a record is given up, it leaves the track and LOST-RACK tells its number (R54, R94). -/
theorem State.kept_track_vanish : (s.vanish r).track.map Rec.kept
    = (s.track.filter fun q => q.id != r.id).map Rec.kept := by
  unfold State.vanish
  split
  · exact s.kept_track_giveUp
  · rw [← s.kept_track_removeRec r]
    exact congrArg _ (State.get_raiseLost (b := .track) _ _ _ (by decide) (by decide) (by decide))

theorem State.cause_vanish : ((s.vanish r).cause .lostRack).st = .pending
    ∧ ((s.vanish r).cause .lostRack).detail = BitVec.ofNat 16 r.number.val := by
  unfold State.vanish
  split
  · exact State.cause_toLost _ _
  · exact State.cause_raiseLost _ _ _

theorem State.get_giveUp {b : Block} (h : b = .cu ∨ b = .boot) : (s.giveUp r).get b = s.get b := by
  obtain rfl | rfl := h
  · exact (State.get_toLost (b := .cu) _ _ (by decide) (by decide) (by decide)).trans
      (State.get_removeRec (b := .cu) _ _ (by decide) (by decide) (by decide) (by decide) (by decide)
          (by decide) (by decide) (by decide) (by decide) (by decide))
  · exact (State.get_toLost (b := .boot) _ _ (by decide) (by decide) (by decide)).trans
      (State.get_removeRec (b := .boot) _ _ (by decide) (by decide) (by decide) (by decide) (by decide)
          (by decide) (by decide) (by decide) (by decide) (by decide))

theorem State.get_vanish {b : Block} (h : b = .cu ∨ b = .boot) : (s.vanish r).get b = s.get b := by
  unfold State.vanish
  split
  · exact s.get_giveUp h
  · obtain rfl | rfl := h
    · exact (State.get_raiseLost (b := .cu) _ _ _ (by decide) (by decide) (by decide)).trans
        (State.get_removeRec (b := .cu) _ _ (by decide) (by decide) (by decide) (by decide) (by decide)
            (by decide) (by decide) (by decide) (by decide) (by decide))
    · exact (State.get_raiseLost (b := .boot) _ _ _ (by decide) (by decide) (by decide)).trans
        (State.get_removeRec (b := .boot) _ _ (by decide) (by decide) (by decide) (by decide)
            (by decide) (by decide) (by decide) (by decide) (by decide) (by decide))

theorem State.eyes_toLost : (s.toLost r).eyes = s.eyes := State.get_toLost (b := .eyes) _ _ (by decide)
    (by decide) (by decide)

theorem State.eyes_giveUp : (s.giveUp r).eyes = (s.leaveLists r.id).eyes :=
  (State.eyes_toLost _).trans (s.eyes_removeRec r)

/-- A removal accounts for nothing itself: the lost list stays, whether an offer was withdrawn or not. -/
theorem State.lost_removeRec : (s.removeRec r).ex.lost = s.ex.lost := by
  rw [State.ex_removeRec_eq, State.parted]
  split
  · rw [State.ex_sendWithdraw]
  · rfl

theorem State.ex_giveUp (hr : r.state ≠ .offered) {p : DownPort} {n : Serial} (hp : r.exitPort = some p)
    (hn : r.exitSerial = some n) : (s.giveUp r).ex = (s.pushLost ⟨r.number, n, p⟩).ex := by
  unfold State.giveUp
  rw [State.ex_toLost_of_exchange _ hp hn, State.ex_pushLost, State.ex_pushLost, s.ex_removeRec r hr]

end

/-! ### The EXIT passage (R49, R91) -/

section
variable {s : State} {r : Rec}

theorem Rec.kept_fields {x y : Rec} (h : x.kept = y.kept) : x.id = y.id ∧ x.exitPass = y.exitPass
    ∧ x.number = y.number ∧ x.front = y.front ∧ x.length = y.length :=
  ⟨(congrArg Rec.id h :), (congrArg Rec.exitPass h :), (congrArg Rec.number h :), (congrArg Rec.front h :),
    (congrArg Rec.length h :)⟩

/-- The others keep their place and their kept fields (R55). -/
theorem map_kept_split {l a b : List Rec} {q : Rec} (h : l.map Rec.kept = (a ++ q :: b).map Rec.kept) :
    ∃ a' q' b', l = a' ++ q' :: b' ∧ a'.map Rec.kept = a.map Rec.kept ∧ q'.kept = q.kept
      ∧ b'.map Rec.kept = b.map Rec.kept := by
  rw [List.map_append, List.map_cons] at h
  obtain ⟨a', l₂, rfl, ha, h₂⟩ := List.map_eq_append_iff.1 h
  obtain ⟨q', b', rfl, hq, hb⟩ := List.map_eq_cons_iff.1 h₂
  exact ⟨a', q', b', rfl, ha, hq, hb⟩

theorem find?_split {p : Rec → Bool} {a b : List Rec} {q : Rec} (ha : ∀ x ∈ a, p x = false) (hq : p q = true) :
    (a ++ q :: b).find? p = some q := by
  rw [List.find?_append, List.find?_eq_none.2 fun x hx => by simp [ha x hx], Option.none_or,
    List.find?_cons_of_pos hq]

theorem forall_of_map_kept {l a : List Rec} (h : l.map Rec.kept = a.map Rec.kept) {p : Rec → Prop}
    (hp : ∀ x y : Rec, x.kept = y.kept → p y → p x) (ha : ∀ x ∈ a, p x) : ∀ x ∈ l, p x := by
  intro x hx
  obtain ⟨y, hy, hxy⟩ := List.mem_map.1 (h ▸ List.mem_map_of_mem hx : x.kept ∈ a.map Rec.kept)
  exact hp x y hxy.symm (ha y hy)

/-- The record after it has taken the passage. -/
def Rec.spans (q : Rec) : Rec :=
  { q with exitPass := .spanning, state := if q.state = .taken then .leaving else q.state }

/-- A record takes the passage, before the head is promoted. -/
def State.passTo (s : State) (r : Rec) : State :=
  (s.updRec r.id Rec.spans).updChan .exit fun c => { c with jamDist := s.jamOf r }

theorem State.takePassage_eq : s.takePassage r = (s.passTo r).rehead := rfl

theorem State.track_passTo : (s.passTo r).track = s.track.map fun q => if q.id = r.id then q.spans else q := rfl

theorem State.passOn_of_next (h : s.track.find? (fun q => q.exitPass == .none) = some r) : s.passOn = s.passTo r := by
  unfold State.passOn
  rw [h]
  rfl

theorem State.passOn_of_none (h : ∀ q ∈ s.track, q.exitPass ≠ .none) : s.passOn = s := by
  unfold State.passOn
  rw [List.find?_eq_none.2 fun q hq => by simpa using h q hq]

theorem State.ids_passTo : (s.passTo r).track.map (·.id) = s.track.map (·.id) := by
  rw [State.track_passTo, List.map_map]
  refine List.map_congr_left fun q _ => ?_
  show (if q.id = r.id then q.spans else q).id = q.id
  split <;> rfl

theorem State.get_passTo {b : Block} (h : b ≠ .track) (h₁ : b ≠ .eyes) : (s.passTo r).get b = s.get b :=
  (State.get_updChan _ _ _ h₁).trans (State.get_updRec _ _ _ h)

theorem State.ids_passOn : s.passOn.track.map (·.id) = s.track.map (·.id) := by
  cases h : s.track.find? fun q => q.exitPass == .none with
  | none => rw [State.passOn_of_none fun q hq => by simpa using List.find?_eq_none.1 h q hq]
  | some r => rw [State.passOn_of_next h, State.ids_passTo]

theorem State.get_passOn {b : Block} (h : b ≠ .track) (h₁ : b ≠ .eyes) : s.passOn.get b = s.get b := by
  cases hf : s.track.find? fun q => q.exitPass == .none with
  | none => rw [State.passOn_of_none fun q hq => by simpa using List.find?_eq_none.1 hf q hq]
  | some r => rw [State.passOn_of_next hf, State.get_passTo h h₁]

/-- A released record outlasts the removal of another as it is. -/
theorem State.mem_removeRec (hs : s.NamesSound) {q : Rec} (hq : q ∈ s.track) (hne : q.id ≠ r.id) (hh : q.handed = true) :
    q ∈ (s.removeRec r).track := by
  rw [State.removeRec_eq]
  refine State.mem_rehead ?_ fun h hhead he => ?_
  · rw [State.track_takeOff]
    exact List.mem_filter.2 ⟨hq, by simpa using hne⟩
  · obtain ⟨hm, hnot⟩ := mem_of_head hhead
    rw [State.track_takeOff] at hm
    obtain rfl := hs.unique (List.mem_filter.1 hm).1 hq he.symm
    exact Bool.false_ne_true (hnot.symm.trans hh)

end

section
variable {s : State} {r : Rec} {p : DownPort} {n : Serial}

theorem State.mem_lost_pushLost (x : LostEntry) : x ∈ (s.pushLost x).ex.lost := by
  rw [State.ex_pushLost]
  split <;> simp

end

theorem exec_landedSkipped {s : State} {h : Hdr} (n : Serial) (k : RackNo) (hh : s.HearsAlone h) :
    exec (.landedSkipped h n k) s = .next (State.settle (State.wake ((s.refresh h.src).onSkipped h.src n))) := by
  have he : exec (.landedSkipped h n k) s = live s (s.receive h (.landed n k .skipped)) := rfl
  exact he.trans (State.receive_handOff (fun t => t.onSkipped h.src n) hh fun _ => rfl)

/-- What RECORD_VANISH makes of the front-most record it finds (R54, R94). -/
theorem recordVanish_loses {s : State} {r : Rec} (hr : s.Runs) (hv : s.vanishDue = some r) :
    ∃ u : State, exec .recordVanish s = .next u.settle
      ∧ u.track.map Rec.kept = (s.track.filter fun q => q.id != r.id).map Rec.kept
      ∧ (u.cause .lostRack).st = .pending
      ∧ (u.cause .lostRack).detail = BitVec.ofNat 16 r.number.val
      ∧ (∀ p n, r.state = .taken → r.exitPort = some p → r.exitSerial = some n →
          ⟨r.number, n, p⟩ ∈ u.ex.lost ∧ (s.ex.lost.length < 4 → u.ex.plainLoss = s.ex.plainLoss))
      ∧ (r.state ≠ .taken ∨ r.exitPort = none ∨ r.exitSerial = none →
          u.ex.plainLoss = true ∧ u.ex.lost = s.ex.lost)
      ∧ u.cu = s.cu ∧ u.boot = s.boot := by
  refine ⟨s.vanish r, ?_, s.kept_track_vanish, s.cause_vanish.1, s.cause_vanish.2, fun p n ht hp hn => ?_, fun h => ?_,
    s.get_vanish (b := .cu) (.inl rfl), s.get_vanish (b := .boot) (.inr rfl)⟩
  · rw [exec_recordVanish_eq, live_of_runs hr]
    unfold State.doRecordVanish
    rw [hv]
  · have hno : r.state ≠ .offered := by
      rw [ht]
      decide
    rw [State.vanish, if_pos ht, State.ex_giveUp _ hno hp hn]
    refine ⟨State.mem_lost_pushLost _, fun hl => ?_⟩
    rw [State.ex_pushLost, if_pos hl]
  · have hex : (s.removeRec r).ex.lost = s.ex.lost := s.lost_removeRec
    by_cases ht : r.state = .taken
    · rw [State.vanish, if_pos ht, State.giveUp, State.ex_toLost_of_none _ (h.resolve_left fun hn => hn ht)]
      exact ⟨rfl, hex⟩
    · rw [State.vanish, if_neg ht, State.ex_raiseLost]
      exact ⟨rfl, hex⟩

/-- What the expiry of a transfer allowance makes of the record it finds (R93, R94). -/
theorem transferExpiry_loses {s : State} {r : Rec} {c : Count} {p : DownPort} {n : Serial} (hr : s.Runs)
    (hd : s.transferDue = some r) (hc : r.takenAt = some c) (hp : r.exitPort = some p) (hn : r.exitSerial = some n) :
    s.boot.cts.transfer < travel c s.cu.count ∧ r.handed = true ∧ r.landing = none
      ∧ .transfer r.id ∈ s.found ∧ ∃ u : State, exec .transferAllowanceExpiry s = .next u.settle
        ∧ u.track.map Rec.kept = (s.track.filter fun q => q.id != r.id).map Rec.kept
        ∧ (u.cause .lostRack).st = .pending
        ∧ (u.cause .lostRack).detail = BitVec.ofNat 16 r.number.val
        ∧ u.ex.lost = (if s.ex.lost.length < 4 then s.ex.lost else s.ex.lost.drop 1)
            ++ [⟨r.number, n, p⟩]
        ∧ u.ex.serial0 = s.ex.serial0 ∧ u.ex.serial1 = s.ex.serial1
        ∧ u.cu = s.cu ∧ u.boot = s.boot := by
  have hfound := List.find?_some hd
  simp only [Bool.and_eq_true, List.contains_iff_mem] at hfound
  obtain ⟨hhand, -, hland, x, hx, ht⟩ := (s.transferPast_iff r).1 hfound.2
  obtain rfl : x = c := Option.some.inj (hx.symm.trans hc)
  have hex := s.ex_giveUp (Rec.not_offered_of_handed hhand) hp hn
  rw [State.ex_pushLost] at hex
  refine ⟨ht, hhand, hland, hfound.1, s.giveUp r, ?_, s.kept_track_giveUp, (State.cause_toLost _ _).1,
    (State.cause_toLost _ _).2, ?_, ?_, ?_, s.get_giveUp (b := .cu) (.inl rfl), s.get_giveUp (b := .boot) (.inr rfl)⟩
  · rw [exec_transferAllowanceExpiry_eq, live_of_runs hr]
    unfold State.doTransferExpiry
    rw [hd]
  all_goals
    rw [hex]
    split <;> rfl

theorem State.transferDue_of_past {s : State} {r : Rec} {c : Count} (hm : r ∈ s.track) (hf : .transfer r.id ∈ s.found)
    (hh : r.handed = true) (hs : r.exitSerial ≠ none) (hl : r.landing = none) (hc : r.takenAt = some c)
    (ht : s.boot.cts.transfer < travel c s.cu.count) : s.transferDue ≠ none := fun hn => by
  have hnot := List.find?_eq_none.1 hn r hm
  refine hnot ?_
  rw [Bool.and_eq_true, List.contains_iff_mem]
  exact ⟨hf, (s.transferPast_iff r).2 ⟨hh, hs, hl, c, hc, ht⟩⟩

/-! ### LANDED SKIPPED (R91) -/

section
variable {s : State} {r q : Rec} {a b : List Rec}

/-- The passage of a record given up goes to the front-most one left without a passage. -/
theorem State.passOn_giveUp (hs : s.NamesSound)
    (hsplit : (s.track.filter fun x => x.id != r.id) = a ++ q :: b) (ha : ∀ x ∈ a, x.exitPass ≠ .none)
    (hq : q.exitPass = .none) : ∃ q', (s.giveUp r).passOn = (s.giveUp r).passTo q' ∧ q'.kept = q.kept
      ∧ q' ∈ (s.giveUp r).track ∧ (q.state = .taken → q'.state = .taken) := by
  have hk := s.kept_track_giveUp (r := r)
  rw [hsplit] at hk
  obtain ⟨a', q', b', htr, ha', hq', -⟩ := map_kept_split hk
  obtain ⟨hid, hpass, -⟩ := Rec.kept_fields hq'
  have hfirst : ∀ x ∈ a', x.exitPass ≠ .none :=
    forall_of_map_kept ha' (fun x y hxy hy => (Rec.kept_fields hxy).2.1 ▸ hy) ha
  have hmem : q' ∈ (s.giveUp r).track := by
    rw [htr]
    exact List.mem_append_right _ (List.mem_cons_self ..)
  refine ⟨q', State.passOn_of_next ?_, hq', hmem, fun ht => ?_⟩
  · rw [htr]
    exact find?_split (fun x hx => by simpa using hfirst x hx) (by simp [hpass, hq])
  · have hqm : q ∈ s.track.filter fun x => x.id != r.id := by
      rw [hsplit]
      exact List.mem_append_right _ (List.mem_cons_self ..)
    obtain ⟨hqs, hne⟩ := List.mem_filter.1 hqm
    have hstay : q ∈ (s.giveUp r).track := by
      rw [State.giveUp, show ((s.removeRec r).toLost r).track = (s.removeRec r).track from
        State.get_toLost (b := .track) _ _ (by decide) (by decide) (by decide)]
      exact State.mem_removeRec hs hqs (by simpa using hne) (by simp [Rec.handed, ht])
    have hnames : ((s.giveUp r).track.map (·.id)).Nodup := by
      have hids : (s.giveUp r).track.map (·.id) = (s.track.filter fun x => x.id != r.id).map (·.id) := by
        have := congrArg (List.map Rec.id) (s.kept_track_giveUp (r := r))
        rwa [List.map_map, List.map_map] at this
      rw [hids]
      exact hs.1.sublist (List.filter_sublist.map _)
    obtain rfl : q' = q := List.inj_on_of_nodup_map hnames hmem hstay hid
    exact ht

theorem State.jamDist_passTo : (s.passTo r).eyes.exit.jamDist = r.length.getD s.boot.cts.rackMax + s.boot.cts.jam := rfl

end

section
variable {s : State} {r : Rec} {p : DownPort} {n : Serial}

/-- The state that a SKIPPED leaves before the wake (R91). -/
theorem State.onSkipped_of_handed {x : Station} (hp : s.downPortOf x = some p) (hr : s.handedAs p n = some r) :
    s.onSkipped x n = if r.exitPass = .spanning then (s.giveUp r).passOn else s.giveUp r := by
  unfold State.onSkipped
  rw [hp]
  dsimp only
  rw [hr]

theorem State.get_skipped {b : Block} (h : b ≠ .track) (h₁ : b ≠ .eyes) :
    (if r.exitPass = .spanning then (s.giveUp r).passOn else s.giveUp r).get b = (s.giveUp r).get b := by
  split
  · exact State.get_passOn h h₁
  · rfl

theorem State.ids_skipped : (if r.exitPass = .spanning then (s.giveUp r).passOn else s.giveUp r).track.map (·.id)
    = (s.track.filter fun q => q.id != r.id).map (·.id) := by
  have hids : (s.giveUp r).track.map (·.id) = (s.track.filter fun x => x.id != r.id).map (·.id) := by
    have := congrArg (List.map Rec.id) (s.kept_track_giveUp (r := r))
    rwa [List.map_map, List.map_map] at this
  rw [← hids]
  split
  · exact State.ids_passOn
  · rfl

end

/-- Settles O18: what vanishes, what outruns its allowance, and what a SKIPPED tells of. -/
theorem givenUpRecordsAreLost : Obligations.GivenUpRecordsAreLost := by
  refine ⟨fun s r hr hl hf => recordVanish_loses hr ?_,
    ⟨fun s r c hm hf hh hs hland hc ht => State.transferDue_of_past hm hf hh hs hland hc ht,
     fun s r c p n hr hd hc hp hn => transferExpiry_loses hr hd hc hp hn⟩, fun s h n k p r hh hp hr => ?_⟩
  · rw [← hf]
    unfold State.vanishDue State.vanishPast
    rw [hl]
    simp only [Bool.not_false, Bool.true_and, Bool.and_assoc, Rec.crossing, Count.plus]
    rfl
  · obtain ⟨-, hhand, hport, hserial⟩ := State.handedAs_some hr
    have hv : (s.refresh h.src).onSkipped h.src n = _ := State.onSkipped_of_handed
      ((s.downPortOf_refresh _ _).trans hp) ((s.handedAs_refresh _ _ _).trans hr)
    have htr : (s.refresh h.src).track = s.track := s.track_refresh _
    have hboot : (s.refresh h.src).boot = s.boot := s.boot_refresh _
    have hgive : ((s.refresh h.src).giveUp r).track.map Rec.kept
        = (s.track.filter fun q => q.id != r.id).map Rec.kept := by
      rw [State.kept_track_giveUp, htr]
    have hsub : ∀ x ∈ ((s.refresh h.src).giveUp r).track, ∃ y ∈ s.track, y.id ≠ r.id ∧ y.kept = x.kept := fun x hx => by
      obtain ⟨y, hy, hxy⟩ := List.mem_map.1
        (hgive ▸ List.mem_map_of_mem hx : x.kept ∈ (s.track.filter fun q => q.id != r.id).map Rec.kept)
      obtain ⟨hys, hne⟩ := List.mem_filter.1 hy
      exact ⟨y, hys, by simpa using hne, hxy⟩
    generalize hu : (s.refresh h.src).onSkipped h.src n = u at hv
    have key {b : Block} (h₀ : b ≠ .dr) (h₁ : b ≠ .att) (h₂ : b ≠ .line) (h₃ : b ≠ .en) (h₄ : b ≠ .idle) :
        u.wake.get b = u.get b := State.get_wake _ h₀ h₁ h₂ h₃ h₄
    have htrack : u.wake.track = u.track := key (b := .track) (by decide) (by decide) (by decide)
        (by decide) (by decide)
    have heyes : u.wake.eyes = u.eyes := key (b := .eyes) (by decide) (by decide) (by decide) (by decide) (by decide)
    have hcause : u.wake.cause .lostRack = ((s.refresh h.src).giveUp r).cause .lostRack :=
      (State.kept_cause_eq _ _ (State.kept_wake _) .lostRack rfl).trans <| State.cause_congr
        (by rw [hv]; exact State.get_skipped (b := .att) (by decide) (by decide)) .lostRack
    have hlost := State.cause_toLost ((s.refresh h.src).removeRec r) r
    refine ⟨u.wake, by rw [exec_landedSkipped n k hh, hu], ?_, ?_, ?_, ?_, fun hsp => ?_, fun hs hsp a q b hsplit ha hq => ?_,
      fun hsp hnone => ?_, ?_, ?_⟩
    · rw [htrack, hv, State.ids_skipped, htr]
    · have hex : u.wake.ex = _ := (key (b := .ex) (by decide) (by decide) (by decide) (by decide) (by decide)).trans <|
        (by rw [hv]; exact State.get_skipped (b := .ex) (by decide)
              (by decide) : u.ex = ((s.refresh h.src).giveUp r).ex).trans <|
        State.ex_giveUp _ (Rec.not_offered_of_handed hhand) hport hserial
      rw [hex]
      exact State.mem_lost_pushLost _
    · rw [hcause]
      exact hlost.1
    · rw [hcause]
      exact hlost.2
    · rw [htrack, hv, if_neg hsp, hgive]
    · have hs' : (s.refresh h.src).NamesSound := by
        unfold State.NamesSound
        rwa [htr, show (s.refresh h.src).nextId = s.nextId from s.get_refresh_of_ne (b := .nextId) _
            (by decide) (by decide)]
      obtain ⟨q', hpass, hkq, hmem, htaken⟩ := State.passOn_giveUp (s := s.refresh h.src) (r := r)
        hs' (by rw [htr]; exact hsplit) ha hq
      obtain ⟨hid, hep, hnum, hfront, hlen⟩ := Rec.kept_fields hkq
      rw [htrack, heyes, hv, if_pos hsp, hpass]
      refine ⟨⟨q'.spans, ?_, hid, rfl, hnum, hfront, hlen, fun ht => ?_⟩, fun x hx hne => ?_, ?_⟩
      · rw [State.track_passTo]
        exact List.mem_map.2 ⟨q', hmem, if_pos rfl⟩
      · show (if q'.state = .taken then _ else _) = _
        rw [if_pos (htaken ht)]
      · rw [State.track_passTo] at hx
        obtain ⟨y, hy, rfl⟩ := List.mem_map.1 hx
        by_cases hyq : y.id = q'.id
        · rw [if_pos hyq] at hne
          exact absurd (hyq.trans hid) hne
        · rw [if_neg hyq]
          obtain ⟨z, hz, -, hk⟩ := hsub y hy
          exact ⟨z, hz, (Rec.kept_fields hk).1, (Rec.kept_fields hk).2.1⟩
      · have hb : ((s.refresh h.src).giveUp r).boot = s.boot := (State.get_giveUp (b := .boot) _ (.inr rfl)).trans hboot
        rw [State.jamDist_passTo, hb, hlen]
    · have hstay : ((s.refresh h.src).giveUp r).passOn = (s.refresh h.src).giveUp r :=
        State.passOn_of_none fun x hx => by
          obtain ⟨y, hy, hne, hk⟩ := hsub x hx
          exact (Rec.kept_fields hk).2.1 ▸ hnone y hy hne
      rw [htrack, heyes, hv, if_pos hsp, hstay]
      refine ⟨hgive, ?_⟩
      rw [State.eyes_giveUp]
      have heq : (s.refresh h.src).eyes = s.eyes := s.get_refresh_of_ne (b := .eyes) _ (by decide) (by decide)
      exact (congrArg (fun e : Eyes => e.exit.jamDist) heq :)
    · exact (key (b := .cu) (by decide) (by decide) (by decide) (by decide) (by decide)).trans <|
        (by rw [hv]; exact State.get_skipped (b := .cu) (by decide)
              (by decide) : u.cu = ((s.refresh h.src).giveUp r).cu).trans <|
        (State.get_giveUp (b := .cu) _ (.inl rfl)).trans (s.get_refresh_of_ne (b := .cu) _ (by decide) (by decide))
    · exact (key (b := .boot) (by decide) (by decide) (by decide) (by decide) (by decide)).trans <|
        (by rw [hv]; exact State.get_skipped (b := .boot) (by decide)
              (by decide) : u.boot = ((s.refresh h.src).giveUp r).boot).trans <|
        (State.get_giveUp (b := .boot) _ (.inr rfl)).trans hboot

end Sys2Proof.Machine

end

section
-- One declaration after the other, as above: the whole text is checked in one process with a limit on its memory.
set_option Elab.async false

/-! # MARK_FIRE, the loading of a mark group, and the firing of the stop mark (R9, R11 to R13, R125) -/

namespace Sys2Proof.Machine

/-! ### An ARMED mark at the next count (R13) -/

section
variable {s : State}

/-- An ARMED mark lies at the next count. -/
def Mark.ahead (m : Mark) (c : Count) : Prop := m.st = .armed ∧ m.pos = c + 1

theorem State.markAhead_iff : s.markAhead = true ↔
    ∃ m ∈ [MarkGroup.offer, MarkGroup.approach, MarkGroup.stop, MarkGroup.gateClear],
      (m s.marks).ahead s.cu.count := by
  unfold State.markAhead Mark.ahead
  simp only [Bool.or_eq_true, Bool.and_eq_true, beq_iff_eq, List.mem_cons, List.not_mem_nil, or_false,
    exists_eq_or_imp, exists_eq_left, or_assoc]

theorem exec_markFire_of_ahead (h : s.markAhead = true) : exec .markFire s = exec .forwardEdge s := by
  rw [exec_markFire_eq, exec_forwardEdge_eq, State.doMarkFire, if_pos h]

theorem exec_markFire_of_none (hr : s.Runs) (h : s.markAhead = false) : exec .markFire s = .next s := by
  rw [exec_markFire_eq, live_of_runs hr, State.doMarkFire, if_neg (by simp [h])]

/-- With nothing due the forward edge tests the marks right after its count. -/
theorem exec_forwardEdge_of_nothingDue (hr : s.Runs) (hd : s.NothingDue) :
    exec .forwardEdge s = .next s.edged.testMarks.settleEdge := by
  rw [exec_forwardEdge_eq, live_of_runs hr, State.forwardEdge_eq, show s.takeDue = s from hd]

/-- The marks of the group are tested one by one. -/
theorem MarkGroup.mark_map (g : MarkGroup) (f : Mark → Mark) :
    ∀ m ∈ [MarkGroup.offer, MarkGroup.approach, MarkGroup.stop, MarkGroup.gateClear], m (g.map f) = f (m g) := by
  simp [MarkGroup.map]

theorem State.fired_edged {m : MarkGroup → Mark}
    (hm : m ∈ [MarkGroup.offer, MarkGroup.approach, MarkGroup.stop, MarkGroup.gateClear])
    (h : (m s.marks).ahead s.cu.count) : (m s.edged.testMarks.marks).st = .fired := by
  rw [State.marks_testMarks, MarkGroup.mark_map _ _ m hm, (Mark.hit_pos_st _ _).2]
  exact if_pos h

end

/-! ### Loading the group (R11, R12) -/

section
variable (s : State) (r : Rec)

theorem loadMark_pos_st (front c : Count) (k : Nat) : (loadMark front c k).pos = front + BitVec.ofNat 16 k
    ∧ (loadMark front c k).st = if dist (loadMark front c k).pos c < 32768 then .fired else .armed := by
  refine ⟨rfl, ?_⟩
  show (if reached _ c = true then _ else _) = _
  simp only [reached_iff]
  rfl

/-- The bay unit hears of a stop mark that fires, and leaves the group. -/
theorem State.marks_loadGroup : (s.loadGroup r).marks =
    { owner := some r.id, front := r.front,
      offer := loadMark r.front s.cu.count s.boot.cts.offer,
      approach := loadMark r.front s.cu.count s.boot.cts.approach,
      stop := loadMark r.front s.cu.count s.boot.cts.stop,
      gateClear := if s.hasRole .divert then loadMark r.front s.cu.count s.boot.cts.gateClear
        else { pos := Count.plus r.front s.boot.cts.gateClear, st := .absent } } := by
  unfold State.loadGroup
  dsimp only
  split
  · exact State.get_stopFired (b := .marks) _ (by decide) (by decide) (by decide)
  · rfl

end

/-! ### The firing of the stop mark (R125) -/

section
variable {s : State} {r : Rec}

theorem State.hasRole_unique {a b : Role} (ha : s.hasRole a = true) (hb : s.hasRole b = true) : a = b := by
  simp only [State.hasRole, Bool.and_eq_true, beq_iff_eq] at ha hb
  exact ha.2.symm.trans hb.2

theorem State.bayBound_iff : s.bayBound r = true ↔
    (s.hasRole .load = true ∧ (r.cls = classEmpty
      ∨ r.cls = classUnknown ∧ (r.flags.placed = true ∨ r.flags.start = true)))
    ∨ (s.hasRole .unload = true ∧ r.cls ≠ classEmpty) := by
  unfold State.bayBound
  by_cases hl : s.hasRole .load = true
  · have hu : s.hasRole .unload ≠ true := fun hu => absurd (State.hasRole_unique hl hu) (by decide)
    simp [hl, hu]
  · simp [hl]

/-- The head that a firing stop mark holds at the bay. -/
def State.Stops (s : State) (r : Rec) : Prop :=
  (r.state = .head ∨ r.state = .entering) ∧ s.bayBound r = true ∧ s.bay.released = false

/-- The record as it stands AT-BAY. -/
def Rec.atBay (r : Rec) : Rec := { r with state := .atBay }

theorem State.stopFired_of_stops (hb : s.bayRole = true) (hh : s.head = some r) (h : s.Stops r) :
    s.stopFired = if (s.hasRole .unload && !s.boot.prof.accept.getLsbD r.cls.val) = true
      then State.raise (State.flagRec (s.updRec r.id Rec.atBay) r.id { misrouted := true }) .misroute r.number.val
      else s.updRec r.id Rec.atBay := by
  obtain ⟨hstate, hbound, hrel⟩ := h
  unfold State.stopFired
  rw [hh]
  dsimp only
  rw [if_pos]
  · rfl
  · simp only [Bool.and_eq_true, Bool.or_eq_true, beq_iff_eq, Bool.not_eq_true']
    exact ⟨⟨⟨hb, hstate⟩, hbound⟩, hrel⟩

theorem State.stopFired_of_not_stops (hh : s.head = some r) (h : ¬s.Stops r) : s.stopFired = s := by
  unfold State.stopFired
  rw [hh]
  dsimp only
  rw [if_neg]
  simp only [Bool.and_eq_true, Bool.or_eq_true, beq_iff_eq, Bool.not_eq_true']
  exact fun ⟨⟨⟨_, hstate⟩, hbound⟩, hrel⟩ => h ⟨hstate, hbound, hrel⟩

/-- The record with flags set on this segment (R103). -/
def Rec.flagged (r : Rec) (f : Flags) : Rec :=
  { r with flags := Flags.union r.flags f, localFlags := Flags.union r.localFlags f }

theorem State.mem_flagRec {q : Rec} (f : Flags) (h : q ∈ s.track) : q.flagged f ∈ (s.flagRec q.id f).track :=
  State.mem_updRec _ _ h

/-- At a stop the head stands AT-BAY, MISROUTED where the station does not accept its class. -/
theorem State.mem_stopFired_of_stops (hb : s.bayRole = true) (hh : s.head = some r) (h : s.Stops r) :
    ∃ q ∈ s.stopFired.track, q.id = r.id ∧ q.state = .atBay ∧ q.cls = r.cls ∧ q.number = r.number
      ∧ q.flags.misrouted = (r.flags.misrouted
        || (s.hasRole .unload && !s.boot.prof.accept.getLsbD r.cls.val)) := by
  have hm : r.atBay ∈ (s.updRec r.id Rec.atBay).track := State.mem_updRec _ _ (State.mem_of_head hh).1
  rw [State.stopFired_of_stops hb hh h]
  split
  next hwrong =>
    rw [show ∀ (t : State) c d, (t.raise c d).track = t.track from
      fun t c d => State.get_raise (b := .track) t c d (by decide) (by decide)]
    exact ⟨_, State.mem_flagRec (q := r.atBay) _ hm, rfl, rfl, rfl, rfl, by rw [hwrong]; rfl⟩
  next hright =>
    exact ⟨_, hm, rfl, rfl, rfl, rfl, by rw [Bool.eq_false_iff.2 hright, Bool.or_false]; rfl⟩

theorem State.cause_stopFired_of_wrong (hb : s.bayRole = true) (hh : s.head = some r) (h : s.Stops r)
    (hu : s.hasRole .unload = true) (hacc : s.boot.prof.accept.getLsbD r.cls.val = false) :
    (s.stopFired.cause .misroute).st = .pending
      ∧ (s.stopFired.cause .misroute).detail = BitVec.ofNat 16 r.number.val := by
  rw [State.stopFired_of_stops hb hh h, if_pos (by rw [hu, hacc]; rfl), State.cause_raise, if_pos rfl]
  exact ⟨rfl, rfl⟩

theorem State.att_stopFired_of_right (hb : s.bayRole = true) (hh : s.head = some r)
    (h : s.hasRole .load = true ∨ s.boot.prof.accept.getLsbD r.cls.val = true) : s.stopFired.att = s.att := by
  by_cases hs : s.Stops r
  · rw [State.stopFired_of_stops hb hh hs, if_neg]
    · rfl
    · rcases h with hl | hacc
      · have hu : s.hasRole .unload ≠ true := fun hu => absurd (State.hasRole_unique hl hu) (by decide)
        simp [hu]
      · rw [hacc, Bool.not_true, Bool.and_false]
        exact Bool.false_ne_true
  · rw [State.stopFired_of_not_stops hh hs]

/-- A firing stop mark tells the bay unit. -/
theorem State.testMarks_of_stop (h : s.marks.stop.st = .armed ∧ s.marks.stop.pos = s.cu.count) :
    s.testMarks = State.stopFired { s with marks := s.marks.map fun m => m.hit s.cu.count } := by
  unfold State.testMarks
  exact if_pos ⟨h.1, show (s.marks.stop.hit s.cu.count).st = _ by rw [(Mark.hit_pos_st _ _).2, if_pos h]⟩

end

/-- Settles O9: MARK_FIRE by cases on a mark ahead, the loaded group mark by mark, and the stop mark's firing by
what the bay unit does of it. -/
theorem marksFireOntoTheirCount : Obligations.MarksFireOntoTheirCount := by
  refine ⟨fun s hr => ⟨fun m hm ha hp => ?fires, fun hnone => ?idle⟩, fun s r => ?load,
    fun s r hr hd hb hh ha hp hs => ?stop⟩
  case fires =>
    have he := exec_markFire_of_ahead (State.markAhead_iff.2 ⟨m, hm, ha, hp⟩)
    refine ⟨he, fun hd => ⟨s.edged.testMarks, he.trans (exec_forwardEdge_of_nothingDue hr hd),
      State.fired_edged hm ⟨ha, hp⟩, ?_, ?_⟩⟩
    · rw [State.cu_testMarks, hp]
      rfl
    · rw [State.cu_testMarks]
      rfl
  case idle =>
    refine exec_markFire_of_none hr (Bool.eq_false_iff.2 fun h => ?_)
    obtain ⟨m, hm, ha, hp⟩ := State.markAhead_iff.1 h
    exact hnone m hm ha hp
  case load =>
    dsimp only
    rw [State.marks_loadGroup]
    refine ⟨rfl, rfl, ?_, fun hdiv => ?_, fun hdiv => ?_⟩
    · simp only [List.forall_mem_cons, List.not_mem_nil, false_imp_iff, implies_true, and_true]
      exact ⟨loadMark_pos_st _ _ _, loadMark_pos_st _ _ _, loadMark_pos_st _ _ _⟩
    · simp only [hdiv, if_true]
      exact loadMark_pos_st _ _ _
    · simp [hdiv]
  case stop =>
    have ht : s.edged.testMarks = _ := State.testMarks_of_stop (s := s.edged) ⟨ha, hp⟩
    generalize hv : ({ s.edged with marks := s.edged.marks.map fun m => m.hit s.edged.cu.count } : State) = v at ht
    have hboot : v.boot = s.boot := by rw [← hv]; rfl
    have htrack : v.track = s.track := by rw [← hv]; rfl
    have hbay : v.bay = s.bay := by rw [← hv]; rfl
    have hatt : v.att = s.att := by rw [← hv]; rfl
    have hhv : v.head = some r := by rw [State.head, htrack]; exact hh
    have hrole (x : Role) : v.hasRole x = s.hasRole x := by simp only [State.hasRole, hboot]
    have hbv : v.bayRole = true := by simp only [State.bayRole, hrole]; exact hb
    have hstops : (((r.state = .head ∨ r.state = .entering) ∧ ((s.hasRole .load = true ∧ (r.cls = classEmpty
          ∨ r.cls = classUnknown ∧ (r.flags.placed = true ∨ r.flags.start = true)))
        ∨ (s.hasRole .unload = true ∧ r.cls ≠ classEmpty)) ∧ s.bay.released = false)) ↔ v.Stops r := by
      unfold State.Stops
      rw [State.bayBound_iff, hrole, hrole, hbay]
    have hmem := State.mem_stopFired_of_stops hbv hhv
    have hwrong := State.cause_stopFired_of_wrong hbv hhv
    have hright := State.att_stopFired_of_right hbv hhv
    rw [hrole, hboot] at hmem hwrong hright
    refine ⟨s.edged.testMarks, exec_forwardEdge_of_nothingDue hr hd, ?_⟩
    rw [ht]
    refine ⟨fun h => hmem (hstops.1 h), fun h hu hacc => hwrong (hstops.1 h) hu hacc,
      fun h => (hright h).trans hatt, fun h => ?_, fun q hq hne => ?_⟩
    · rw [State.stopFired_of_not_stops hhv fun hst => h (hstops.2 hst)]
      exact ⟨htrack, hatt⟩
    · exact State.mem_stopFired (State.headIs_of_head hhv) (htrack ▸ hq) hne

end Sys2Proof.Machine

/-! # Confirmed edges: what comes before and after the delivery (R20 to R22, R29, R30) -/

namespace Sys2Proof.Machine

section
variable {s t : State} {e : Eye} {p : PendEdge}

theorem exec_eyeEdgeConfirm_eq (s : State) (e : Eye) : exec (.eyeEdgeConfirm e) s = live s (s.doEyeEdgeConfirm e) := rfl

/-- In ACTIVE and outside PARK a pending edge with its run of samples is confirmed (R20). -/
theorem exec_eyeEdgeConfirm_of_due (hr : s.Runs) (hm : s.boot.mode = .active) (hf : s.fitted e = true)
    (hb : s.dr.belt ≠ .park) (hp : (s.chan e).pend = some p) (hrun : s.boot.prof.eyeFilter ≤ p.run) :
    exec (.eyeEdgeConfirm e) s = .next (s.confirm e p).settle := by
  have hdue : s.confirmDue e = some p := by
    unfold State.confirmDue
    rw [hp]
    exact if_pos (by simp [hm, hf, hb, hrun])
  rw [exec_eyeEdgeConfirm_eq, live_of_runs hr, State.doEyeEdgeConfirm, hdue]

theorem State.fitted_entry (h : s.boot.loaded = true) : s.fitted .entry = true := by simp [State.fitted, h]
theorem State.fitted_exit (h : s.boot.loaded = true) : s.fitted .exit = true := by simp [State.fitted, h]

/-! ### The parts of a confirmation -/

/-- The edge is delivered, and the unaccounted-from count of its eye still to be brought up to date. -/
def State.delivered (s : State) (e : Eye) (p : PendEdge) : State :=
  match (EyeState.confirm (s.chan e).st p.reverse).2 with
  | some k => (s.changeChan e p).deliver e p.count k
  | none => s.changeChan e p

/-- The channel with its unaccounted-from count up to date (R30). -/
def State.accounted (s : State) (e : Eye) (x : Count) : State :=
  s.updChan e fun c => { c with unaccounted := s.unaccountedOf e x }

theorem State.confirm_eq (s : State) (e : Eye) (p : PendEdge) :
    s.confirm e p = (s.delivered e p).accounted e p.count := rfl

theorem State.get_accounted (s : State) (e : Eye) (x : Count) {b : Block} (h : b ≠ .eyes) :
    (s.accounted e x).get b = s.get b := State.get_updChan _ _ _ h

@[simp] theorem State.track_accounted (s : State) (e : Eye) (x : Count) : (s.accounted e x).track = s.track :=
  State.track_updChan _ _ _
@[simp] theorem State.att_accounted (s : State) (e : Eye) (x : Count) : (s.accounted e x).att = s.att :=
  State.att_updChan _ _ _

theorem State.cause_accounted (s : State) (e : Eye) (x : Count) (c : Cause) : (s.accounted e x).cause c = s.cause c :=
  State.cause_congr (State.att_accounted _ _ _) c

theorem State.chan_accounted (s : State) (e f : Eye) (x : Count) :
    ∃ u, (s.accounted e x).chan f = { s.chan f with unaccounted := u } := by
  by_cases h : f = e
  · subst h
    exact ⟨_, State.chan_updChan_self _ _ _⟩
  · exact ⟨(s.chan f).unaccounted, State.chan_updChan_other _ _ h⟩

/-- The captures of ENTRY stay. -/
theorem State.captures_setChan (s : State) (e : Eye) (c : EyeChan) :
    (s.setChan e c).eyes.lead = s.eyes.lead ∧ (s.setChan e c).eyes.leadFresh = s.eyes.leadFresh
      ∧ (s.setChan e c).eyes.trail = s.eyes.trail ∧ (s.setChan e c).eyes.trailFresh = s.eyes.trailFresh := by
  cases e <;> exact ⟨rfl, rfl, rfl, rfl⟩

theorem State.captures_accounted (s : State) (e : Eye) (x : Count) :
    (s.accounted e x).eyes.lead = s.eyes.lead ∧ (s.accounted e x).eyes.leadFresh = s.eyes.leadFresh
      ∧ (s.accounted e x).eyes.trail = s.eyes.trail ∧ (s.accounted e x).eyes.trailFresh = s.eyes.trailFresh :=
  State.captures_setChan _ _ _

/-! ### The table of R21 for forward motion -/

/-- A lead edge: the channel is BLOCKED, and no condition ends. -/
theorem State.delivered_of_lead (hst : (s.chan e).st = .clear) (hrev : p.reverse = false) :
    s.delivered e p = (s.setChan e (s.edgeChan e p)).deliver e p.count .lead := by
  have hc : EyeState.confirm (s.chan e).st p.reverse = (.blocked, some .lead) := by rw [hst, hrev]; rfl
  unfold State.delivered
  rw [State.changeChan_eq, hc]
  rfl

/-- A trail edge: the channel is CLEAR, and the conditions of its eye end before the delivery. -/
theorem State.delivered_of_trail (hst : (s.chan e).st = .blocked) (hrev : p.reverse = false) :
    s.delivered e p = ((s.setChan e (s.edgeChan e p)).eyeCleared e).deliver e p.count .trail := by
  have hc : EyeState.confirm (s.chan e).st p.reverse = (.clear, some .trail) := by rw [hst, hrev]; rfl
  unfold State.delivered
  rw [State.changeChan_eq, hc]
  rfl

/-! ### Conditions that a clear eye ends (R29, R30, R176) -/

/-- The causes whose condition an eye reports. -/
def eyeCause : Cause → Bool
  | .entryJam => true
  | .exitJam => true
  | .eyeStuck => true
  | _ => false

theorem eyeCause_cases {c : Cause} (h : eyeCause c = true) : c = .entryJam ∨ c = .exitJam ∨ c = .eyeStuck := by
  cases c <;> simp_all [eyeCause]

/-- Neither lost list nor lock hangs on the cause of an eye. -/
theorem State.get_conditionEnd_eye {b : Block} {c : Cause} (s : State) (hc : eyeCause c = true) (h : b ≠ .att)
    (h' : b ≠ .line) : (s.conditionEnd c).get b = s.get b := by
  have hone (t : State) : (t.absentOne c).get b = t.get b := by
    rcases eyeCause_cases hc with rfl | rfl | rfl
    all_goals
      unfold State.absentOne
      split
      · rfl
      · exact State.get_changeCause _ _ _ h
  unfold State.conditionEnd
  dsimp only
  split
  · exact (State.get_recomputeLevel _ h h').trans ((hone _).trans (State.get_setCause _ _ _ h))
  · exact State.get_setCause _ _ _ h

/-- The channel of an eye that reads clear. -/
def EyeChan.cleared (c : EyeChan) : EyeChan := { c with jam := false, stuck := false, unaccounted := none }

theorem State.get_eyeCleared_of_ne {b : Block} (s : State) (e : Eye) (h : b ≠ .att) (h' : b ≠ .line) :
    (s.eyeCleared e).get b = (s.setChan e (s.chan e).cleared).get b := by
  have hjam : eyeCause (if e = .entry then .entryJam else .exitJam) = true := by split <;> rfl
  unfold State.eyeCleared
  extract_lets c t u
  have hu : u.get b = t.get b := by
    simp only [u]
    split
    · exact State.get_conditionEnd_eye _ hjam h h'
    · rfl
  split
  · exact (State.get_conditionEnd_eye _ rfl h h').trans hu
  · exact hu

theorem State.eyes_eyeCleared (s : State) (e : Eye) : (s.eyeCleared e).eyes = (s.setChan e (s.chan e).cleared).eyes :=
  s.get_eyeCleared_of_ne e (b := .eyes) (by decide) (by decide)

theorem State.get_eyeCleared_quiet {b : Block} (s : State) (e : Eye) (h : b ≠ .att) (h' : b ≠ .line) (h₁ : b ≠ .eyes) :
    (s.eyeCleared e).get b = s.get b :=
  (s.get_eyeCleared_of_ne e h h').trans (State.get_setChan _ _ _ h₁)

theorem State.cause_conditionEnd_of_ne (s : State) {c k : Cause} (h : k ≠ c) :
    (s.conditionEnd c).cause k = s.cause k := by
  rw [State.cause_conditionEnd, if_neg h]

/-- Every other cause stays as it is. -/
theorem State.cause_eyeCleared (s : State) (e : Eye) {k : Cause} (hk : eyeCause k = false) :
    (s.eyeCleared e).cause k = s.cause k := by
  have hne {c : Cause} (hc : eyeCause c = true) : k ≠ c := fun h => Bool.false_ne_true (hk.symm.trans (h ▸ hc))
  have hjam : eyeCause (if e = .entry then .entryJam else .exitJam) = true := by split <;> rfl
  unfold State.eyeCleared
  extract_lets c t u
  have ht : t.cause k = s.cause k := State.cause_congr (State.att_setChan _ _ _) k
  have hu : u.cause k = t.cause k := by
    simp only [u]
    split
    · exact State.cause_conditionEnd_of_ne _ (hne hjam)
    · rfl
  split
  · exact (State.cause_conditionEnd_of_ne _ (hne rfl)).trans (hu.trans ht)
  · exact hu.trans ht

/-- The state in which a trail edge is delivered: the blocks beside eyes, causes and queue are those before it. -/
theorem State.get_trailed {b : Block} (s : State) (e : Eye) (p : PendEdge) (h : b ≠ .att) (h' : b ≠ .line)
    (h₁ : b ≠ .eyes) : ((s.setChan e (s.edgeChan e p)).eyeCleared e).get b = s.get b :=
  (State.get_eyeCleared_quiet _ _ h h' h₁).trans (State.get_setChan _ _ _ h₁)

theorem State.cause_trailed (s : State) (e : Eye) (p : PendEdge) {k : Cause} (hk : eyeCause k = false) :
    ((s.setChan e (s.edgeChan e p)).eyeCleared e).cause k = s.cause k :=
  (State.cause_eyeCleared _ _ hk).trans (State.cause_congr (State.att_setChan _ _ _) k)

theorem State.captures_trailed (s : State) (e : Eye) (p : PendEdge) :
    let t := (s.setChan e (s.edgeChan e p)).eyeCleared e
    t.eyes.lead = s.eyes.lead ∧ t.eyes.leadFresh = s.eyes.leadFresh := by
  dsimp only
  rw [State.eyes_eyeCleared]
  obtain ⟨h, h', -⟩ := State.captures_setChan (s.setChan e (s.edgeChan e p)) e
    ((s.setChan e (s.edgeChan e p)).chan e).cleared
  obtain ⟨k, k', -⟩ := State.captures_setChan s e (s.edgeChan e p)
  exact ⟨h.trans k, h'.trans k'⟩

theorem State.NamesSound.congr (h : s.NamesSound) (ht : t.track = s.track) (hi : t.nextId = s.nextId) :
    t.NamesSound := by
  unfold State.NamesSound
  rwa [ht, hi]

end

/-! # The trail edge at ENTRY: O13 (R22, R23, R44, R45) -/

section
variable {s : State} {r : Rec} {l : Option Nat}

/-- A record past ENTRY, its length measured or absent. -/
def Rec.pastEntry (isHead : Bool) (length : Option Nat) (q : Rec) : Rec :=
  { q with entryOpen := false, length := length,
           state := if q.state = .entering then (if isHead then .head else .riding) else q.state }

/-- The record of a name is past ENTRY, before CROWDED is tested. -/
def State.entryClosed (s : State) (r : Rec) (length : Option Nat) : State :=
  s.updRec r.id (Rec.pastEntry (decide (s.head.map (·.id) = some r.id)) length)

/-- A measured length above the rack maximum. -/
def State.tooLong (s : State) (length : Option Nat) : Bool := length.any fun n => decide (s.boot.cts.rackMax < n)

theorem State.entryTrail_of_none (h : ∀ q ∈ s.track, q.entryOpen = false) : s.entryTrail l = s := by
  unfold State.entryTrail
  rw [List.find?_eq_none.2 fun q hq => by simp [h q hq]]

theorem State.entryTrail_of_open (h : s.track.find? (·.entryOpen) = some r) :
    s.entryTrail l = if s.tooLong l
      then ((s.entryClosed r l).flagRec r.id { crowded := true }).raise .crowding r.number.val
      else s.entryClosed r l := by
  have hupd : (s.updRec r.id fun q => { q with
      entryOpen := false, length := l,
      state := if q.state = .entering then (if s.head.map (·.id) = some r.id then .head else .riding) else q.state })
      = s.entryClosed r l := congrArg (s.updRec r.id) (funext fun q => by simp only [Rec.pastEntry, decide_eq_true_eq])
  unfold State.entryTrail
  rw [h]
  dsimp only
  rw [hupd]
  cases l with
  | none => rfl
  | some n => simp only [State.tooLong, Option.any_some, decide_eq_true_eq]; rfl

/-- The one record whose entry passage is OPEN is the one found. -/
theorem State.find_open (hm : r ∈ s.track) (ho : r.entryOpen = true)
    (hu : ∀ q ∈ s.track, q.entryOpen = true → q = r) : s.track.find? (·.entryOpen) = some r := by
  cases hf : s.track.find? (·.entryOpen) with
  | none => exact absurd ho (List.find?_eq_none.1 hf r hm)
  | some q => rw [hu q (List.mem_of_find?_eq_some hf) (List.find?_some (p := fun q : Rec => q.entryOpen) hf)]

theorem State.track_raise (s : State) (c : Cause) (d : Nat) : (s.raise c d).track = s.track :=
  State.get_raise (b := .track) s c d (by decide) (by decide)

/-- The record past ENTRY is CLOSED, measured, and CROWDED where it is too long (R44, R45). -/
theorem State.mem_entryTrail (hm : r ∈ s.track) (h : s.track.find? (·.entryOpen) = some r) :
    ∃ q ∈ (s.entryTrail l).track, q.id = r.id ∧ q.entryOpen = false ∧ q.length = l ∧ q.front = r.front
      ∧ q.number = r.number ∧ (r.state ≠ .entering → q.state = r.state)
      ∧ (r.state = .entering → q.state = if s.head.map (·.id) = some r.id then .head else .riding)
      ∧ q.flags = if s.tooLong l then { r.flags with crowded := true } else r.flags := by
  have hclosed : r.pastEntry (decide (s.head.map (·.id) = some r.id)) l ∈ (s.entryClosed r l).track :=
    State.mem_updRec _ _ hm
  have hstate (hs : r.state = .entering) : (r.pastEntry (decide (s.head.map (·.id) = some r.id)) l).state
      = if s.head.map (·.id) = some r.id then .head else .riding := by simp [Rec.pastEntry, hs]
  rw [State.entryTrail_of_open h]
  by_cases hl : s.tooLong l = true
  · rw [if_pos hl, if_pos hl, State.track_raise]
    refine ⟨_, State.mem_flagRec (q := r.pastEntry _ l) _ hclosed, rfl, rfl, rfl, rfl, rfl, fun hs => if_neg hs, hstate, ?_⟩
    simp [Rec.flagged, Rec.pastEntry, Flags.union]
  · rw [if_neg hl, if_neg hl]
    exact ⟨_, hclosed, rfl, rfl, rfl, rfl, rfl, fun hs => if_neg hs, hstate, rfl⟩

/-- The others stay as they are. -/
theorem State.mem_entryTrail_of_ne (hs : s.NamesSound) (hm : r ∈ s.track) (h : s.track.find? (·.entryOpen) = some r)
    {q : Rec} (hq : q ∈ s.track) (hne : q ≠ r) : q ∈ (s.entryTrail l).track := by
  have hid : q.id ≠ r.id := fun hid => hne (hs.unique hq hm hid)
  rw [State.entryTrail_of_open h]
  split
  · rw [State.track_raise]
    exact State.mem_updRec_of_ne _ (State.mem_updRec_of_ne _ hq hid) hid
  · exact State.mem_updRec_of_ne _ hq hid

/-- CROWDING tells of a rack too long, and of no other. -/
theorem State.cause_entryTrail_of_long (h : s.track.find? (·.entryOpen) = some r) (hl : s.tooLong l = true) :
    ((s.entryTrail l).cause .crowding).st = .pending
      ∧ ((s.entryTrail l).cause .crowding).detail = BitVec.ofNat 16 r.number.val := by
  rw [State.entryTrail_of_open h, if_pos hl, State.cause_raise, if_pos rfl]
  exact ⟨rfl, rfl⟩

theorem State.att_entryTrail_of_short (h : s.track.find? (·.entryOpen) = some r) (hl : s.tooLong l = false) :
    (s.entryTrail l).att = s.att := by
  rw [State.entryTrail_of_open h, if_neg (by simp [hl])]
  rfl

theorem State.eyes_entryTrail (s : State) (l : Option Nat) : (s.entryTrail l).eyes = s.eyes := by
  cases h : s.track.find? (·.entryOpen) with
  | none => rw [State.entryTrail_of_none fun q hq => by simpa using List.find?_eq_none.1 h q hq]
  | some r =>
    rw [State.entryTrail_of_open h]
    split
    · exact State.get_raise (b := .eyes) _ _ _ (by decide) (by decide)
    · rfl

/-! ### The captures of ENTRY (R22, R23) -/

/-- The trail capture is taken. -/
def State.trailSeen (s : State) (x : Count) : State :=
  { s with eyes := { s.eyes with trail := some x, trailFresh := false, leadFresh := false } }

/-- The length that a trail capture measures: absent with no fresh lead capture. -/
def State.measuredTo (s : State) (x : Count) : Option Nat :=
  if s.eyes.leadFresh then s.eyes.lead.map fun l => dist l x else none

theorem State.entryTrailEdge_eq (s : State) (x : Count) :
    s.entryTrailEdge x = (s.trailSeen x).entryTrail (s.measuredTo x) := by
  unfold State.entryTrailEdge State.measuredTo
  cases s.eyes.leadFresh <;> cases s.eyes.lead <;> rfl

theorem State.measuredTo_of_fresh {c : Count} (hl : s.eyes.lead = some c) (hf : s.eyes.leadFresh = true) (x : Count) :
    s.measuredTo x = some (dist c x) := by
  rw [State.measuredTo, if_pos hf, hl]
  rfl

theorem State.measuredTo_of_stale (h : s.eyes.leadFresh = false ∨ s.eyes.lead = none) (x : Count) :
    s.measuredTo x = none := by
  rcases h with h | h <;> simp [State.measuredTo, h]

theorem State.measuredTo_congr {t : State} (hl : t.eyes.lead = s.eyes.lead) (hf : t.eyes.leadFresh = s.eyes.leadFresh)
    (x : Count) : t.measuredTo x = s.measuredTo x := by
  unfold State.measuredTo
  rw [hl, hf]

end

section
variable {s : State} {r : Rec}

/-- What a trail edge at ENTRY says of the record whose passage it closes, as a function. -/
theorem entryTrailEdge_measures {l x : Count} (hm : r ∈ s.track) (ho : r.entryOpen = true)
    (hu : ∀ q ∈ s.track, q.entryOpen = true → q = r) (hl : s.eyes.lead = some l) (hf : s.eyes.leadFresh = true) :
    ∃ q ∈ (s.entryTrailEdge x).track, q.id = r.id ∧ q.entryOpen = false ∧ q.length = some (dist l x)
      ∧ q.front = r.front ∧ q.number = r.number
      ∧ (r.state ≠ .entering → q.state = r.state)
      ∧ (r.state = .entering → q.state = if s.head.map (·.id) = some r.id then .head else .riding)
      ∧ (s.boot.cts.rackMax < dist l x → q.flags.crowded = true
          ∧ ((s.entryTrailEdge x).cause .crowding).st = .pending
          ∧ ((s.entryTrailEdge x).cause .crowding).detail = BitVec.ofNat 16 r.number.val)
      ∧ (dist l x ≤ s.boot.cts.rackMax → q.flags = r.flags ∧ (s.entryTrailEdge x).att = s.att)
      ∧ (s.entryTrailEdge x).eyes.leadFresh = false ∧ (s.entryTrailEdge x).eyes.trailFresh = false := by
  have hfind : (s.trailSeen x).track.find? (·.entryOpen) = some r := State.find_open hm ho hu
  have hlong : (s.trailSeen x).tooLong (some (dist l x)) = decide (s.boot.cts.rackMax < dist l x) := rfl
  rw [State.entryTrailEdge_eq, State.measuredTo_of_fresh hl hf, State.eyes_entryTrail]
  obtain ⟨q, hq, hid, hopen, hlen, hfront, hnum, hstay, hstate, hflags⟩ :=
    State.mem_entryTrail (s := s.trailSeen x) (l := some (dist l x)) hm hfind
  refine ⟨q, hq, hid, hopen, hlen, hfront, hnum, hstay, hstate, fun hgt => ⟨?_, ?_⟩, fun hle => ⟨?_, ?_⟩, rfl, rfl⟩
  · rw [hflags, if_pos (by rw [hlong]; exact decide_eq_true hgt)]
  · exact State.cause_entryTrail_of_long hfind (hlong.trans (decide_eq_true hgt))
  · rw [hflags, if_neg (by rw [hlong]; simpa using hle)]
  · exact State.att_entryTrail_of_short hfind (hlong.trans (decide_eq_false (Nat.not_lt.2 hle)))

end

/-- Settles O13: the trail edge as a function, and its confirmation, which ends the conditions of ENTRY before it. -/
theorem entryTrailMeasuresTheRack : Obligations.EntryTrailMeasuresTheRack := by
  refine ⟨fun s r l x _ hm ho hu hl hf => entryTrailEdge_measures hm ho hu hl hf,
    fun s p hr ha hload hb hp hrun hrev hst hs => ⟨s.confirm .entry p,
      exec_eyeEdgeConfirm_of_due hr ha (State.fitted_entry hload) hb hp hrun, ?_⟩⟩
  let v := (s.setChan .entry (s.edgeChan .entry p)).eyeCleared .entry
  have hv : v = (s.setChan .entry (s.edgeChan .entry p)).eyeCleared .entry := rfl
  have hdel : s.delivered .entry p = (v.trailSeen p.count).entryTrail (v.measuredTo p.count) :=
    (State.delivered_of_trail (e := .entry) hst hrev).trans (State.entryTrailEdge_eq v p.count)
  have htrack : (v.trailSeen p.count).track = s.track :=
    s.get_trailed .entry p (b := .track) (by decide) (by decide) (by decide)
  have hboot : v.boot = s.boot := s.get_trailed .entry p (b := .boot) (by decide) (by decide) (by decide)
  have hnext : v.nextId = s.nextId := s.get_trailed .entry p (b := .nextId) (by decide) (by decide) (by decide)
  have hcause : (v.trailSeen p.count).cause .crowding = s.cause .crowding := s.cause_trailed .entry p rfl
  obtain ⟨hlead, hfresh⟩ := s.captures_trailed .entry p
  have hhead : (v.trailSeen p.count).head = s.head := State.head_congr htrack
  have hlen : v.measuredTo p.count = s.measuredTo p.count := State.measuredTo_congr hlead hfresh _
  rw [State.confirm_eq, hdel, hlen, State.cause_accounted, State.track_accounted]
  obtain ⟨hcl, hcf, hct, hctf⟩ := State.captures_accounted
    ((v.trailSeen p.count).entryTrail (s.measuredTo p.count)) .entry p.count
  rw [hcl, hcf, hct, hctf, State.eyes_entryTrail]
  refine ⟨hlead, rfl, rfl, rfl, fun hnone => ?_, fun r hm ho hu => ?_⟩
  · rw [State.entryTrail_of_none (by rw [htrack]; exact hnone), htrack]
  · have hm' : r ∈ (v.trailSeen p.count).track := htrack ▸ hm
    have hfind : (v.trailSeen p.count).track.find? (·.entryOpen) = some r :=
      State.find_open hm' ho (htrack ▸ hu)
    have hlong (n : Nat) : (v.trailSeen p.count).tooLong (some n) = decide (s.boot.cts.rackMax < n) := by
      rw [← hboot]
      rfl
    have hnames : (v.trailSeen p.count).NamesSound := hs.congr htrack hnext
    refine ⟨fun q hq hne => State.mem_entryTrail_of_ne hnames hm' hfind (htrack ▸ hq) hne, ?_⟩
    obtain ⟨q, hq, hid, hopen, hqlen, hfront, hnum, hstay, hstate, hflags⟩ :=
      State.mem_entryTrail (l := s.measuredTo p.count) hm' hfind
    rw [hhead] at hstate
    refine ⟨q, hq, hid, hopen, hfront, hnum, hstay, hstate, fun l hl hf => ?_, fun hstale => ?_⟩
    · rw [State.measuredTo_of_fresh hl hf] at hqlen hflags ⊢
      rw [hlong] at hflags
      refine ⟨hqlen, fun hgt => ?_, fun hle => ?_⟩
      · rw [if_pos (decide_eq_true hgt)] at hflags
        exact ⟨hflags, State.cause_entryTrail_of_long hfind ((hlong _).trans (decide_eq_true hgt))⟩
      · have hno : decide (s.boot.cts.rackMax < dist l p.count) = false := decide_eq_false (Nat.not_lt.2 hle)
        rw [hno] at hflags
        exact ⟨hflags, (State.cause_congr (State.att_entryTrail_of_short hfind ((hlong _).trans hno)) _).trans hcause⟩
    · rw [State.measuredTo_of_stale hstale] at hqlen hflags ⊢
      exact ⟨hqlen, hflags, (State.cause_congr (State.att_entryTrail_of_short hfind rfl) _).trans hcause⟩

end Sys2Proof.Machine

/-! # A record's creation at ENTRY, step by step (R40, R41, R101) -/

namespace Sys2Proof.Machine

section
variable (s : State)

/-- A record joins the track at its rear, and the awaited list of every check eye. -/
def State.enroll (s : State) (r : Rec) : State := (s.appendRec r).joinAwaited r.id fun _ => true

/-- The record that a slot's rack gets (R40). -/
def State.slotRec (s : State) (x : Slot) (front : Count) : Rec :=
  { blankRec s.nextId front with
      number := x.image.number, cls := x.image.cls, origin := x.image.origin,
      steeredBy := x.image.steeredBy, hop := satSucc x.image.hop, flags := x.image.flags,
      entry := some ⟨x.port, x.serial⟩ }

/-- At a DIVERT a record takes the route its slot has, if any (R114). -/
def State.routed (s : State) (i : Nat) (rt : Option Route) : State :=
  match s.hasRole .divert, rt with
  | true, some rt => s.takeRoute i rt
  | _, _ => s

/-- The slot is LANDING for the next record, which stands on the track, before its number is tested. -/
def State.enrollSlot (s : State) (n : SlotName) (x : Slot) (front : Count) : State :=
  ((((s.setSlot n (some { x with landing := some s.nextId })).enroll (s.slotRec x front)).routed s.nextId
    x.route).rehead).hopTest s.nextId

/-- The record has its number, before its READ is due or its landing ends. -/
def State.numberSlot (s : State) (n : SlotName) (x : Slot) (front : Count) : State :=
  (s.enrollSlot n x front).setNumber s.nextId x.image.number

theorem State.createFromSlot_eq (n : SlotName) (x : Slot) (front : Count) : s.createFromSlot n x front =
    if (s.numberSlot n x front).boot.prof.reader then (s.numberSlot n x front).readDue s.nextId
    else (s.numberSlot n x front).endLanding s.nextId .ok none := rfl

/-- The record of a rack that no slot expects (R41). -/
def State.strayRec (s : State) (front : Count) : Rec :=
  { blankRec s.nextId front with flags := { stray := true }, localFlags := { stray := true } }

/-- At a DIVERT the route of a STRAY is resolved at its creation (R114). -/
def State.strayRouted (s : State) (i : Nat) : State :=
  if s.hasRole .divert then (s.resolve classUnknown).1.takeRoute i (s.resolve classUnknown).2 else s

/-- The STRAY stands on the track and is reported, before its READ is due. -/
def State.enrollStray (s : State) (front : Count) : State :=
  (((s.enroll (s.strayRec front)).strayRouted s.nextId).rehead).strayAt .entry

theorem State.createStray_eq (front : Count) : s.createStray front = (s.enrollStray front).readDue s.nextId := rfl

variable {b : Block}

theorem State.get_enroll (r : Rec) (h : b ≠ .track) (h₁ : b ≠ .nextId) (h₂ : b ≠ .eyes) :
    (s.enroll r).get b = s.get b := (State.get_joinAwaited _ _ _ h₂).trans (State.get_appendRec _ _ h h₁)

theorem State.track_enroll (r : Rec) : (s.enroll r).track = s.track ++ [r] :=
  State.get_joinAwaited (b := .track) _ _ _ (by decide)

theorem State.get_routed (i : Nat) (rt : Option Route) (h : b ≠ .track) (h₁ : b ≠ .gate) :
    (s.routed i rt).get b = s.get b := by
  unfold State.routed
  split
  · exact State.get_takeRoute _ _ _ h h₁
  · rfl

theorem State.get_strayRouted (i : Nat) (h : b ≠ .track) (h₁ : b ≠ .gate) (h₂ : b ≠ .att) (h₃ : b ≠ .line)
    (h₄ : b ≠ .rt) : (s.strayRouted i).get b = s.get b := by
  unfold State.strayRouted
  split
  · exact (State.get_takeRoute _ _ _ h h₁).trans (State.get_resolve _ _ h₂ h₃ h₄)
  · rfl

theorem State.get_strayAt (e : Eye) (h : b ≠ .att) (h₁ : b ≠ .line) : (s.strayAt e).get b = s.get b :=
  State.get_raise _ _ _ h h₁

end

/-! # What the channels sense, and no delivery writes (R18 to R21) -/

/-- A channel without what the track's records write in it: its lists, its EXIT jam distance and its
unaccounted-from count. -/
def EyeChan.sensor (c : EyeChan) : EyeChan := { c with jamDist := 0, unaccounted := none, awaited := [], missed := [] }

/-- The channels without what the track's records write in them, and the captures of ENTRY. -/
def Eyes.sensed (e : Eyes) : Eyes :=
  { e with entry := e.entry.sensor, exit := e.exit.sensor, checkA := e.checkA.sensor, checkB := e.checkB.sensor,
           gate := e.gate.sensor, bay := e.bay.sensor }

/-- What the channels of a state sense. -/
def State.sensed (s : State) : Eyes := s.eyes.sensed

section
variable (s : State) {t : State}

theorem State.sensor_of_sensed {s : State} (h : t.sensed = s.sensed) (e : Eye) :
    (t.chan e).sensor = (s.chan e).sensor := by
  cases e
  · exact (congrArg Eyes.entry h :)
  · exact (congrArg Eyes.exit h :)
  · exact (congrArg Eyes.checkA h :)
  · exact (congrArg Eyes.checkB h :)
  · exact (congrArg Eyes.gate h :)
  · exact (congrArg Eyes.bay h :)

theorem State.captures_of_sensed {s : State} (h : t.sensed = s.sensed) :
    t.eyes.lead = s.eyes.lead ∧ t.eyes.leadFresh = s.eyes.leadFresh :=
  ⟨(congrArg Eyes.lead h :), (congrArg Eyes.leadFresh h :)⟩

theorem EyeChan.fields_of_sensor {c d : EyeChan} (h : c.sensor = d.sensor) :
    c.st = d.st ∧ c.raw = d.raw ∧ c.pend = d.pend ∧ c.settled = d.settled :=
  ⟨(congrArg EyeChan.st h :), (congrArg EyeChan.raw h :), (congrArg EyeChan.pend h :), (congrArg EyeChan.settled h :)⟩

theorem State.sensed_of_eyes {s : State} (h : t.get .eyes = s.get .eyes) : t.sensed = s.sensed :=
  (congrArg Eyes.sensed h :)

theorem State.sensed_setChan (e : Eye) (c : EyeChan) (h : c.sensor = (s.chan e).sensor) :
    (s.setChan e c).sensed = s.sensed := by
  cases e <;> simp_all [State.sensed, Eyes.sensed, State.setChan, State.chan]

theorem State.sensed_updChan (e : Eye) (f : EyeChan → EyeChan) (h : ∀ c, (f c).sensor = c.sensor) :
    (s.updChan e f).sensed = s.sensed := s.sensed_setChan e _ (h _)

theorem State.sensed_updChans (f : EyeChan → EyeChan) (h : ∀ c, (f c).sensor = c.sensor) :
    (s.updChans f).sensed = s.sensed := by
  simp [State.sensed, Eyes.sensed, State.updChans, h]

theorem State.sensed_foldl {α : Type} {f : State → α → State} (hf : ∀ t x, (f t x).sensed = t.sensed) (l : List α) :
    ∀ t : State, (l.foldl f t).sensed = t.sensed := by
  induction l with
  | nil => exact fun _ => rfl
  | cons x l ih => exact fun t => (ih _).trans (hf t x)

theorem State.sensed_joinAwaited (i : Nat) (f : Eye → Bool) : (s.joinAwaited i f).sensed = s.sensed := by
  unfold State.joinAwaited
  refine State.sensed_foldl (fun t e => ?_) _ s
  split
  · exact t.sensed_updChan e _ fun _ => rfl
  · rfl

theorem State.sensed_enroll (r : Rec) : (s.enroll r).sensed = s.sensed := State.sensed_joinAwaited _ _ _

theorem State.sensed_removeRec (r : Rec) : (s.removeRec r).sensed = s.sensed :=
  (congrArg Eyes.sensed (s.eyes_removeRec r)).trans (s.sensed_updChans _ fun _ => rfl)

theorem State.sensed_vanish (r : Rec) : (s.vanish r).sensed = s.sensed := by
  unfold State.vanish
  split
  · exact (congrArg Eyes.sensed s.eyes_giveUp).trans (s.sensed_updChans _ fun _ => rfl)
  · exact (State.sensed_of_eyes (State.get_raiseLost (b := .eyes) _ _ _ (by decide) (by decide) (by decide))).trans
      (s.sensed_removeRec r)

theorem State.sensed_rehead : s.rehead.sensed = s.sensed :=
  State.sensed_of_eyes (State.get_rehead (b := .eyes) _ (by decide) (by decide) (by decide) (by decide) (by decide))

theorem State.sensed_strayAt (e : Eye) : (s.strayAt e).sensed = s.sensed :=
  State.sensed_of_eyes (s.get_strayAt (b := .eyes) e (by decide) (by decide))

theorem State.sensed_readDue (i : Nat) : (s.readDue i).sensed = s.sensed :=
  State.sensed_of_eyes (State.get_readDue (b := .eyes) _ _ (by decide) (by decide) (by decide) (by decide) (by decide)
    (by decide))

theorem State.sensed_numberSlot (n : SlotName) (x : Slot) (c : Count) : (s.numberSlot n x c).sensed = s.sensed := by
  refine (State.sensed_of_eyes <| (State.get_setNumber (b := .eyes) _ _ _ (by decide) (by decide) (by decide)).trans
    (State.get_hopTest (b := .eyes) _ _ (by decide) (by decide))).trans ?_
  refine (State.sensed_rehead _).trans ?_
  exact (State.sensed_of_eyes (State.get_routed (b := .eyes) _ _ _ (by decide) (by decide))).trans <|
    (State.sensed_enroll _ _).trans (State.sensed_of_eyes (State.get_setSlot (b := .eyes) _ _ _ (by decide)))

theorem State.sensed_entryLead (c : Count) : (s.entryLead c).sensed = s.sensed := by
  unfold State.entryLead
  split
  · exact s.sensed_strayAt _
  · split
    · rw [State.createFromSlot_eq]
      split
      · exact (State.sensed_readDue _ _).trans (s.sensed_numberSlot _ _ _)
      · exact (State.sensed_of_eyes (State.get_endLanding (b := .eyes) _ _ _ _ (by decide) (by decide)
          (by decide))).trans (s.sensed_numberSlot _ _ _)
    · rw [State.createStray_eq]
      refine (State.sensed_readDue _ _).trans <| (State.sensed_strayAt _ _).trans <| (State.sensed_rehead _).trans ?_
      exact (State.sensed_of_eyes (State.get_strayRouted (b := .eyes) _ _ (by decide) (by decide) (by decide)
        (by decide) (by decide))).trans (State.sensed_enroll _ _)

theorem State.sensed_correct (r : Rec) (v : Int) : (s.correct r v).sensed = s.sensed := by
  unfold State.correct
  dsimp only
  split
  · exact State.sensed_of_eyes (State.get_recomputeGroup (b := .eyes) _ _ (by decide) (by decide) (by decide)
      (by decide))
  · rfl

theorem State.sensed_slipped (ids : List Nat) : (s.slipped ids).sensed = s.sensed := by
  unfold State.slipped
  exact State.sensed_foldl (f := fun t i => t.flagRec i { slipped := true }) (fun _ _ => rfl) ids s

theorem State.sensed_checkLead (e : Eye) (x : Count) : (s.checkLead e x).sensed = s.sensed := by
  unfold State.checkLead
  dsimp only
  split
  · refine (State.sensed_correct _ _ _).trans ((State.sensed_slipped _ _).trans ?_)
    exact s.sensed_setChan e _ rfl
  · split
    · exact (State.sensed_correct _ _ _).trans (s.sensed_setChan e _ rfl)
    · exact s.sensed_strayAt e

theorem State.sensed_exitLead (x : Count) : (s.exitLead x).sensed = s.sensed := by
  unfold State.exitLead
  dsimp only
  split
  · refine (State.sensed_rehead _).trans ?_
    refine (State.sensed_updChan _ .exit _ fun _ => rfl).trans ?_
    exact State.sensed_foldl (fun t r => t.sensed_vanish r) _ s
  · exact (State.sensed_updChan _ .exit _ fun _ => rfl).trans (s.sensed_strayAt _)

theorem State.sensed_exitTrail : s.exitTrail.sensed = s.sensed := by
  unfold State.exitTrail
  dsimp only
  split
  · rfl
  · split
    · split
      · exact State.sensed_removeRec _ _
      · rfl
    · exact State.sensed_vanish _ _

theorem State.sensed_placeRec (x : Count) : (s.placeRec x).sensed = s.sensed := by
  unfold State.placeRec
  split
  · exact s.sensed_strayAt _
  · extract_lets i o src r n t u
    have ht : t.sensed = s.sensed := by
      simp only [t]
      split
      · exact State.sensed_of_eyes (State.get_displaceHead (b := .eyes) _ (by decide) (by decide) (by decide)
          (by decide) (by decide))
      · rfl
    exact (State.sensed_rehead _).trans ((State.sensed_joinAwaited _ _ _).trans ht)

theorem State.sensed_bayTrail : s.bayTrail.sensed = s.sensed := by
  unfold State.bayTrail
  split
  · exact s.sensed_removeRec _
  · rfl

/-- No delivery changes what a channel senses. -/
theorem State.sensor_deliver (e : Eye) (x : Count) (k : Edge) (f : Eye) :
    ((s.deliver e x k).chan f).sensor = (s.chan f).sensor := by
  have hlead : ((s.entryLeadEdge x).chan f).sensor = (s.chan f).sensor :=
    (State.sensor_of_sensed (State.sensed_entryLead _ _) f).trans (by cases f <;> rfl)
  have htrail : ((s.entryTrailEdge x).chan f).sensor = (s.chan f).sensor := by
    rw [State.entryTrailEdge_eq]
    exact (State.sensor_of_sensed (State.sensed_of_eyes (State.eyes_entryTrail _ _)) f).trans (by cases f <;> rfl)
  have hbay : ((s.bayLead x).chan f).sensor = (s.chan f).sensor := by
    unfold State.bayLead
    split
    · rfl
    · exact State.sensor_of_sensed (s.sensed_placeRec x) f
  have hcheck (e : Eye) := State.sensor_of_sensed (s.sensed_checkLead e x) f
  cases k with
  | lead =>
    cases e with
    | entry => exact hlead
    | exit => exact State.sensor_of_sensed (s.sensed_exitLead x) f
    | checkA => exact hcheck _
    | checkB => exact hcheck _
    | gate => exact hcheck _
    | bay =>
      show ((if s.bayRole then _ else _ : State).chan f).sensor = _
      split
      · exact hbay
      · exact hcheck _
  | trail =>
    cases e with
    | entry => exact htrail
    | exit => exact State.sensor_of_sensed s.sensed_exitTrail f
    | checkA => rfl
    | checkB => rfl
    | gate => rfl
    | bay =>
      show ((if s.bayRole then _ else _ : State).chan f).sensor = _
      split
      · exact State.sensor_of_sensed s.sensed_bayTrail f
      · rfl

/-! ### A confirmation, channel by channel -/

variable {e : Eye} {p : PendEdge}

/-- The state of the channel is that of the table (R21), and no edge is pending there any more. -/
theorem State.chan_changeChan_self (e : Eye) (p : PendEdge) :
    ((s.changeChan e p).chan e).st = (EyeState.confirm (s.chan e).st p.reverse).1
      ∧ ((s.changeChan e p).chan e).pend = none ∧ ((s.changeChan e p).chan e).raw = (s.chan e).raw := by
  have hcleared (t : State) : (t.eyeCleared e).chan e = (t.chan e).cleared := by
    have h := t.eyes_eyeCleared e
    have hc : (t.eyeCleared e).chan e = (t.setChan e (t.chan e).cleared).chan e := by
      cases e <;> simp only [State.chan, h]
    rw [hc, State.chan_setChan_self]
  rw [State.changeChan_eq]
  split
  · rw [State.chan_setChan_self]
    exact ⟨rfl, rfl, rfl⟩
  · rw [hcleared, State.chan_setChan_self]
    exact ⟨rfl, rfl, rfl⟩

theorem State.chan_changeChan_other {f : Eye} (h : f ≠ e) (p : PendEdge) :
    (s.changeChan e p).chan f = s.chan f := by
  have hcleared (t : State) : (t.eyeCleared e).chan f = t.chan f := by
    have he := t.eyes_eyeCleared e
    have hc : (t.eyeCleared e).chan f = (t.setChan e (t.chan e).cleared).chan f := by
      cases f <;> simp only [State.chan, he]
    rw [hc, State.chan_setChan_other _ _ h]
  rw [State.changeChan_eq]
  split
  · exact State.chan_setChan_other _ _ h
  · rw [hcleared, State.chan_setChan_other _ _ h]

/-- After a confirmation a channel senses what the change of its state made it sense. -/
theorem State.fields_confirm (e f : Eye) (p : PendEdge) :
    ((s.confirm e p).chan f).st = ((s.changeChan e p).chan f).st
      ∧ ((s.confirm e p).chan f).raw = ((s.changeChan e p).chan f).raw
      ∧ ((s.confirm e p).chan f).pend = ((s.changeChan e p).chan f).pend := by
  have hdel : ((s.delivered e p).chan f).sensor = ((s.changeChan e p).chan f).sensor := by
    unfold State.delivered
    split
    · exact State.sensor_deliver _ _ _ _ _
    · rfl
  obtain ⟨u, hu⟩ := State.chan_accounted (s.delivered e p) e f p.count
  obtain ⟨hst, hraw, hpend, -⟩ := EyeChan.fields_of_sensor hdel
  rw [State.confirm_eq, hu]
  exact ⟨hst, hraw, hpend⟩

/-- The derived actions leave a channel what it senses. -/
theorem State.fields_settle (f : Eye) : (s.settle.chan f).st = (s.chan f).st ∧ (s.settle.chan f).raw = (s.chan f).raw
    ∧ (s.settle.chan f).pend = (s.chan f).pend ∧ (s.settle.chan f).settled = (s.chan f).settled := by
  have h := State.kept_chan_eq _ _ s.kept_settle f
  exact ⟨(congrArg EyeChan.st h :), (congrArg EyeChan.raw h :), (congrArg EyeChan.pend h :),
    (congrArg EyeChan.settled h :)⟩

end

/-! # A raw change of an eye (R18, R19) -/

/-- The channel after a raw change: its pin, and its pending edge. -/
theorem EyeChan.rawChange_eq (c : EyeChan) (high : Bool) (u : CountUnit) (live : Bool) :
    c.rawChange high u live = { c with
      raw := high
      pend := if live && c.settled then
          (if high = EyeState.isBlocked c.st then none else some (c.pend.getD ⟨u.count, u.reverse, 0⟩))
        else c.pend } := by
  unfold EyeChan.rawChange EyeChan.differs
  by_cases hl : (live && c.settled) = true
  · by_cases hh : high = EyeState.isBlocked c.st
    · simp [hl, hh]
    · rw [if_pos hl, if_pos hl, if_neg hh]
      cases c.pend with
      | none => simp [hh]
      | some q => simp [hh]
  · simp [hl]

theorem eyeRawChange_pends {s : State} {e : Eye} {high : Bool} (hr : s.Runs) (hd : s.NothingDue) :
    ∃ c : EyeChan, exec (.eyeRawChange e high) s = .next (s.setChan e c)
      ∧ c.raw = high
      ∧ c = { s.chan e with raw := high, pend := c.pend }
      ∧ (s.fitted e = false ∨ (s.chan e).settled = false → c.pend = (s.chan e).pend)
      ∧ (s.fitted e = true → (s.chan e).settled = true →
          high = EyeState.isBlocked (s.chan e).st → c.pend = none)
      ∧ (s.fitted e = true → (s.chan e).settled = true →
          high ≠ EyeState.isBlocked (s.chan e).st →
          c.pend = match (s.chan e).pend with
            | some p => some p
            | none => some ⟨s.cu.count, s.cu.reverse, 0⟩) := by
  refine ⟨(s.chan e).rawChange high s.cu (s.fitted e), ?_, ?_⟩
  · rw [exec_eyeRawChange_of_runs hr, State.doEyeRawChange, show s.takeDue = s from hd]
  · rw [EyeChan.rawChange_eq]
    refine ⟨rfl, rfl, fun h => if_neg ?_, fun hf hs hh => ?_, fun hf hs hh => ?_⟩
    · rcases h with h | h <;> simp [h]
    · simp [hf, hs, hh]
    · cases hp : (s.chan e).pend <;> simp [hf, hs, hh]

/-- The table of R21, as a confirmation makes it. -/
theorem EyeState.confirm_table (c : EyeState) (reverse : Bool) : (EyeState.confirm c reverse).1 =
    match c, reverse with
    | .clear, false => .blocked
    | .clear, true => .returned
    | .blocked, false => .clear
    | .blocked, true => .receded
    | .receded, _ => .blocked
    | .returned, _ => .clear := by
  cases c <;> cases reverse <;> rfl

theorem eyeEdgeConfirm_changes {s : State} {e : Eye} {p : PendEdge} (hr : s.Runs) (hm : s.boot.mode = .active)
    (hf : s.fitted e = true) (hb : s.dr.belt ≠ .park) (hp : (s.chan e).pend = some p)
    (hrun : s.boot.prof.eyeFilter ≤ p.run) :
    ∃ t, exec (.eyeEdgeConfirm e) s = .next t
      ∧ (t.chan e).st = (match (s.chan e).st, p.reverse with
          | .clear, false => .blocked
          | .clear, true => .returned
          | .blocked, false => .clear
          | .blocked, true => .receded
          | .receded, _ => .blocked
          | .returned, _ => .clear)
      ∧ (t.chan e).pend = none ∧ (t.chan e).raw = (s.chan e).raw
      ∧ (∀ f, f ≠ e → (t.chan f).st = (s.chan f).st ∧ (t.chan f).raw = (s.chan f).raw
          ∧ (t.chan f).pend = (s.chan f).pend)
      ∧ t.cu = s.cu := by
  have hfields (f : Eye) : ((s.confirm e p).settle.chan f).st = ((s.changeChan e p).chan f).st
      ∧ ((s.confirm e p).settle.chan f).raw = ((s.changeChan e p).chan f).raw
      ∧ ((s.confirm e p).settle.chan f).pend = ((s.changeChan e p).chan f).pend := by
    obtain ⟨hst, hraw, hpend⟩ := s.fields_confirm e f p
    obtain ⟨hst', hraw', hpend', -⟩ := (s.confirm e p).fields_settle f
    exact ⟨hst'.trans hst, hraw'.trans hraw, hpend'.trans hpend⟩
  obtain ⟨hst, hraw, hpend⟩ := hfields e
  obtain ⟨hst', hpend', hraw'⟩ := s.chan_changeChan_self e p
  refine ⟨(s.confirm e p).settle, exec_eyeEdgeConfirm_of_due hr hm hf hb hp hrun, ?_, hpend.trans hpend',
    hraw.trans hraw', fun f hne => ?_, ?_⟩
  · exact (hst.trans hst').trans (EyeState.confirm_table _ _)
  · rw [← s.chan_changeChan_other hne p]
    exact hfields f
  · rw [State.settle_cu]
    exact s.still_confirm e p (b := .cu) rfl

/-! # Lifted and placed racks (R57, R129, R130) -/

section
variable (s : State) {r : Rec}

/-- With its head a track loses the head's release. -/
theorem State.released_removeRec (h : s.head.map (·.id) = some r.id) : (s.removeRec r).bay.released = false := by
  have hlift : (s.lifted r).bay.released = false := by
    unfold State.lifted State.unreleased
    rw [if_pos (by simpa using h)]
  have hland : ((s.lifted r).abandonLanding r.id).bay = (s.lifted r).bay :=
    State.get_abandonLanding (b := .bay) _ _ (by decide) (by decide) (by decide)
  have hoff : (s.takeOff r).bay.released = false := by
    unfold State.takeOff State.bayFollows State.callLampStep State.wantStep
    rw [← hlift, ← hland]
    dsimp only
    split
    · split
      · rw [show ∀ t : State, t.queueWant.bay = t.bay from fun t => State.get_queueWant (b := .bay) t (by decide)]
      · rfl
    · rfl
  rw [State.removeRec_eq]
  unfold State.rehead
  split
  · split
    · exact hoff
    · dsimp only
      rw [show ∀ (t : State) (q : Rec), (t.loadGroup q).bay = t.bay from fun t q =>
        State.get_loadGroup (b := .bay) t q (by decide) (by decide) (by decide) (by decide)]
      split <;> rfl
  · split
    · exact hoff
    · split <;> exact hoff

/-- A trail edge at the bay eye lifts the bay record, which leaves with no cause (R57). -/
theorem State.bayTrail_lifts (hh : s.head = some r) (ho : s.marks.owner = some r.id) (hf : s.marks.stop.st = .fired)
    (hs : r.state = .atBay ∨ r.state = .offered) :
    s.bayTrail.track.map Rec.kept = (s.track.filter fun q => q.id != r.id).map Rec.kept
      ∧ s.bayTrail.bay.released = false ∧ s.bayTrail.cause .lostRack = s.cause .lostRack
      ∧ s.bayTrail.ex.lost = s.ex.lost := by
  have hb : s.bayRecord = some r := by
    rcases hs with hs | hs <;> simp [State.bayRecord, hh, ho, hf, hs]
  have e : s.bayTrail = s.removeRec r := by unfold State.bayTrail; rw [hb]
  rw [e]
  exact ⟨s.kept_track_removeRec r, s.released_removeRec (by rw [hh]; rfl), s.cause_removeRec r rfl,
    s.lost_removeRec⟩

/-- With no bay record the trail edge lifts nothing (R57). -/
theorem State.bayTrail_of_none (h : ∀ r, s.head = some r → s.marks.owner ≠ some r.id ∨ s.marks.stop.st ≠ .fired
    ∨ (r.state ≠ .atBay ∧ r.state ≠ .offered)) : s.bayTrail = s := by
  have hb : s.bayRecord = none := by
    unfold State.bayRecord
    split
    · rfl
    · next r hr => rcases h r hr with h | h | ⟨h, h'⟩ <;> simp_all
  unfold State.bayTrail
  rw [hb]

/-- The record of a rack placed at the bay eye (R57). -/
def State.placedRec (s : State) (x : Count) : Rec :=
  { blankRec s.nextId (Count.minus x s.boot.cts.bay) with
      flags := { placed := true }, localFlags := { placed := true }, state := .riding, entryOpen := false }

theorem State.kept_displaceHead : s.displaceHead.kept = s.kept := by
  unfold State.displaceHead
  dsimp only
  split
  · exact s.kept_withdrawHead
  · rw [State.kept_callLampStep, State.kept_updRec, State.kept_withdrawHead]
    exact fun _ => rfl

/-- A placed record stands behind the released records and those as far as it (R57). -/
theorem State.placeRec_places (x : Count) (hroom : s.trackFull = false) :
    ∃ a b, s.track = a ++ b
      ∧ (s.placeRec x).track.map Rec.kept = a.map Rec.kept ++ (s.placedRec x).kept :: b.map Rec.kept
      ∧ (∀ r ∈ a, r.handed = true ∨ s.travelOf (s.placedRec x) ≤ s.travelOf r)
      ∧ ∀ r, b.head? = some r → r.handed = false ∧ s.travelOf r < s.travelOf (s.placedRec x) := by
  let ahead := fun q : Rec => q.handed || decide (s.travelOf (s.placedRec x) ≤ s.travelOf q)
  have htake : s.track.take (s.track.takeWhile ahead).length = s.track.takeWhile ahead := by
    conv_lhs => rw [← List.takeWhile_append_dropWhile (p := ahead) (l := s.track)]
    exact List.take_left' (by rw [List.takeWhile_append_dropWhile])
  have hdrop : s.track.drop (s.track.takeWhile ahead).length = s.track.dropWhile ahead := by
    conv_lhs => rw [← List.takeWhile_append_dropWhile (p := ahead) (l := s.track)]
    exact List.drop_left' (by rw [List.takeWhile_append_dropWhile])
  refine ⟨s.track.takeWhile ahead, s.track.dropWhile ahead, List.takeWhile_append_dropWhile.symm, ?_, fun r hr => ?_,
    fun r hr => ?_⟩
  · unfold State.placeRec
    rw [if_neg (by simp [hroom])]
    extract_lets i o src q n t u
    have ht : t.track.map Rec.kept = s.track.map Rec.kept := by
      simp only [t]
      split
      · exact State.kept_track_eq _ _ s.kept_displaceHead
      · rfl
    rw [State.kept_track_eq _ _ (State.kept_rehead _)]
    have hj : (u.joinAwaited i fun e => decide (o < u.offset e)).track = u.track :=
      State.get_joinAwaited (b := .track) _ _ _ (by decide)
    rw [hj, ← htake, ← hdrop, List.map_take, List.map_drop]
    simp only [u, List.map_append, List.map_cons, List.map_take, List.map_drop, ht]
    rfl
  · simpa [ahead] using List.mem_takeWhile_imp hr
  · have h := List.head?_dropWhile_not ahead s.track
    rw [hr] at h
    simpa [ahead] using h

end

theorem State.bayRole_congr {s t : State} (h : t.boot = s.boot) : t.bayRole = s.bayRole := by
  unfold State.bayRole State.hasRole
  rw [h]

section
variable {s : State} {p : PendEdge}

/-- The bay eye's trail edge is delivered after its conditions have ended. -/
theorem State.confirm_bay_trail (hb : s.bayRole = true) (hst : s.eyes.bay.st = .blocked) (hrev : p.reverse = false) :
    s.confirm .bay p = ((s.setChan .bay (s.edgeChan .bay p)).eyeCleared .bay).bayTrail.accounted .bay p.count := by
  have hb' : ((s.setChan .bay (s.edgeChan .bay p)).eyeCleared .bay).bayRole = true :=
    (State.bayRole_congr (s.get_trailed (b := .boot) .bay p (by decide) (by decide) (by decide))).trans hb
  rw [State.confirm_eq, State.delivered_of_trail (e := .bay) hst hrev]
  exact congrArg (fun t : State => t.accounted .bay p.count) (if_pos hb')

theorem State.confirm_bay_lead (hb : s.bayRole = true) (hst : s.eyes.bay.st = .clear) (hrev : p.reverse = false) :
    s.confirm .bay p = ((s.setChan .bay (s.edgeChan .bay p)).bayLead p.count).accounted .bay p.count := by
  rw [State.confirm_eq, State.delivered_of_lead (e := .bay) hst hrev]
  exact congrArg (fun t : State => t.accounted .bay p.count) (if_pos hb)

theorem bayEdge_lifts (hb : s.bayRole = true) (hst : s.eyes.bay.st = .blocked) (hrev : p.reverse = false) :
    (∀ r, s.head = some r → s.marks.owner = some r.id → s.marks.stop.st = .fired →
        (r.state = .atBay ∨ r.state = .offered) →
        (s.confirm .bay p).track.map Rec.kept = (s.track.filter fun q => q.id != r.id).map Rec.kept
        ∧ (s.confirm .bay p).bay.released = false ∧ (s.confirm .bay p).cause .lostRack = s.cause .lostRack
        ∧ (s.confirm .bay p).ex.lost = s.ex.lost)
      ∧ ((∀ r, s.head = some r → s.marks.owner ≠ some r.id ∨ s.marks.stop.st ≠ .fired
          ∨ (r.state ≠ .atBay ∧ r.state ≠ .offered)) → (s.confirm .bay p).track = s.track) := by
  rw [State.confirm_bay_trail hb hst hrev]
  let v := (s.setChan .bay (s.edgeChan .bay p)).eyeCleared .bay
  have htrack : v.track = s.track := s.get_trailed (b := .track) .bay p (by decide) (by decide) (by decide)
  have hmarks : v.marks = s.marks := s.get_trailed (b := .marks) .bay p (by decide) (by decide) (by decide)
  have hex : v.ex = s.ex := s.get_trailed (b := .ex) .bay p (by decide) (by decide) (by decide)
  refine ⟨fun r hr ho hf hs => ?_, fun h => ?_⟩
  · obtain ⟨hkept, hrel, hcause, hlost⟩ := v.bayTrail_lifts (r := r) ((State.head_congr htrack).trans hr)
      (hmarks ▸ ho) (hmarks ▸ hf) hs
    refine ⟨?_, ?_, ?_, ?_⟩
    · rw [State.track_accounted, hkept, htrack]
    · rw [show ∀ t : State, (t.accounted .bay p.count).bay = t.bay from fun t =>
        t.get_accounted (b := .bay) .bay p.count (by decide)]
      exact hrel
    · rw [State.cause_accounted, hcause]
      exact s.cause_trailed .bay p rfl
    · rw [show ∀ t : State, (t.accounted .bay p.count).ex = t.ex from fun t =>
        t.get_accounted (b := .ex) .bay p.count (by decide), hlost, hex]
  · rw [State.track_accounted, show v.bayTrail = v from v.bayTrail_of_none fun r hr => ?_]
    · exact htrack
    · rw [hmarks]
      exact h r ((State.head_congr htrack).symm.trans hr)

theorem bayEdge_places (hb : s.bayRole = true) (hst : s.eyes.bay.st = .clear) (hrev : p.reverse = false) :
    ((∃ r ∈ s.track, s.over .bay r = true) → (s.confirm .bay p).track = s.track ∧ (s.confirm .bay p).att = s.att)
      ∧ ((∀ r ∈ s.track, s.over .bay r = false) → s.boot.prof.trackLimit ≤ s.track.length →
          (s.confirm .bay p).track = s.track ∧ ((s.confirm .bay p).cause .strayRack).st = .pending
          ∧ ((s.confirm .bay p).cause .strayRack).detail = BitVec.ofNat 16 (Eye.code .bay))
      ∧ ((∀ r ∈ s.track, s.over .bay r = false) → s.track.length < s.boot.prof.trackLimit →
          ∃ a b, s.track = a ++ b
            ∧ (s.confirm .bay p).track.map Rec.kept =
                a.map Rec.kept ++ (s.placedRec p.count).kept :: b.map Rec.kept
            ∧ (∀ r ∈ a, r.handed = true ∨ s.travelOf (s.placedRec p.count) ≤ s.travelOf r)
            ∧ ∀ r, b.head? = some r → r.handed = false ∧ s.travelOf r < s.travelOf (s.placedRec p.count)) := by
  rw [State.confirm_bay_lead hb hst hrev]
  let w := s.setChan .bay (s.edgeChan .bay p)
  have hnone (h : ∀ r ∈ s.track, s.over .bay r = false) : w.bayLead p.count = w.placeRec p.count :=
    if_neg fun ha => by
      obtain ⟨r, hr, ho⟩ := List.any_eq_true.1 ha
      exact Bool.noConfusion ((h r hr).symm.trans ho)
  refine ⟨fun ⟨r, hr, ho⟩ => ?_, fun h hl => ?_, fun h hl => ?_⟩
  · rw [show w.bayLead p.count = w from if_pos (List.any_eq_true.2 ⟨r, hr, ho⟩)]
    exact ⟨State.track_accounted _ _ _, State.att_accounted _ _ _⟩
  · rw [State.track_accounted, State.cause_accounted, hnone h,
      show w.placeRec p.count = w.strayAt .bay from if_pos (decide_eq_true hl)]
    unfold State.strayAt
    rw [State.cause_raise, if_pos rfl]
    exact ⟨State.track_raise _ _ _, rfl, rfl⟩
  · rw [State.track_accounted, hnone h]
    exact w.placeRec_places p.count (decide_eq_false (Nat.not_le.2 hl))

end

/-- Settles O11: a raw change and a confirmation write the one channel; what the bay eye confirms then lifts the bay
record or places one. -/
theorem eyeEdgesArePendedAndConfirmed : Obligations.EyeEdgesArePendedAndConfirmed := by
  unfold Obligations.EyeEdgesArePendedAndConfirmed
  refine ⟨fun s e high => eyeRawChange_pends, fun s e p => eyeEdgeConfirm_changes,
    fun s p hr hm hb hf hbelt hp hrun hrev _ => ⟨s.confirm .bay p, ?_, ?_, fun hst => ?_⟩⟩
  · exact exec_eyeEdgeConfirm_of_due hr hm hf hbelt hp hrun
  · exact fun hst => bayEdge_lifts hb hst hrev
  · obtain ⟨hover, hfull, hroom⟩ := bayEdge_places hb hst hrev
    refine ⟨hover, hfull, fun h hl => ?_⟩
    obtain ⟨a, b, htrack, hkept, ha, hb⟩ := hroom h hl
    exact ⟨a, s.placedRec p.count, b, htrack, hkept, rfl, rfl, rfl, rfl, rfl, rfl, rfl, rfl, rfl, rfl, rfl, rfl,
      ha, hb⟩

end Sys2Proof.Machine

/-! # Which record an edge goes to (R26, R28, R49) -/

namespace Sys2Proof.Machine

theorem nearest_eq_none {o : Nat} {x : Count} {l : List Rec} : nearest o x l = none ↔ l = [] := by
  cases l with
  | nil => simp [nearest]
  | cons r l =>
    unfold nearest
    split
    · simp
    · split <;> simp

/-- What `nearest` finds is in the list, and no record of it has a smaller slip. -/
theorem nearest_least {o : Nat} {x : Count} {l : List Rec} {r : Rec} (h : nearest o x l = some r) :
    r ∈ l ∧ ∀ q ∈ l, (r.slipAt o x).natAbs ≤ (q.slipAt o x).natAbs := by
  induction l generalizing r with
  | nil => cases h
  | cons y l ih =>
    unfold nearest at h
    split at h
    · next hn =>
      cases h
      rw [nearest_eq_none.1 hn]
      simp
    · next q hq =>
      obtain ⟨hmem, hmin⟩ := ih hq
      split at h
      · next hlt =>
        cases h
        refine ⟨List.mem_cons_of_mem _ hmem, fun z hz => ?_⟩
        rcases List.mem_cons.1 hz with rfl | hz
        · exact hlt.le
        · exact hmin z hz
      · next hlt =>
        cases h
        refine ⟨List.mem_cons_self, fun z hz => ?_⟩
        rcases List.mem_cons.1 hz with rfl | hz
        · exact le_rfl
        · exact (Nat.le_of_not_lt hlt).trans (hmin z hz)

/-- The record of the smallest slip takes the edge, of equals the front-most (R26). -/
theorem nearest_append {o : Nat} {x : Count} {a b : List Rec} {r : Rec}
    (ha : ∀ q ∈ a, (r.slipAt o x).natAbs < (q.slipAt o x).natAbs)
    (hb : ∀ q ∈ b, (r.slipAt o x).natAbs ≤ (q.slipAt o x).natAbs) : nearest o x (a ++ r :: b) = some r := by
  induction a with
  | nil =>
    show nearest o x (r :: b) = some r
    unfold nearest
    split
    · rfl
    · next q hq => exact if_neg (Nat.not_lt.2 (hb q (nearest_least hq).1))
  | cons y a ih =>
    show nearest o x (y :: (a ++ r :: b)) = some r
    unfold nearest
    rw [ih fun q hq => ha q (List.mem_cons_of_mem _ hq)]
    exact if_pos (ha y List.mem_cons_self)

/-! # Removal (R55) -/

section
variable (s : State) {r : Rec}

theorem State.chan_leaveLists (i : Nat) (e : Eye) : (s.leaveLists i).chan e =
    { s.chan e with awaited := (s.chan e).awaited.filter (· != i), missed := (s.chan e).missed.filter (· != i) } := by
  cases e <;> rfl

theorem State.slot_sendLanded (p : UpPort) (k : Serial) (x : RackNo) (a : LandStatus) (i : Option (RackNo × Station))
    (n : SlotName) : (s.sendLanded p k x a i).slot n = s.slot n := by
  have hsend (t : State) (d : Station) (y : Payload) : (t.sendPrompt d y).slot n = t.slot n := by
    have h : (t.sendPrompt d y).en = t.en := State.get_sendPrompt (b := .en) _ _ _ (by decide) (by decide)
    cases n <;> simp [State.slot, h]
  have hlog (l : List LandLog) : (s.setLandLog p l).slot n = s.slot n := by cases p <;> cases n <;> rfl
  unfold State.sendLanded
  dsimp only
  split
  · exact (hsend _ _ _).trans (hlog _)
  · exact (hsend _ _ _).trans ((hsend _ _ _).trans (hlog _))

/-- The slot that was LANDING for a record is FREE with its removal. -/
theorem State.slot_removeRec {n : SlotName} {x : Slot} (h : s.slotOf r.id = some (n, x)) :
    (s.removeRec r).slot n = none := by
  have hen {t u : State} (k : t.en = u.en) : t.slot n = u.slot n := by cases n <;> simp [State.slot, k]
  have hlift : (s.lifted r).en = s.en :=
    (s.get_lifted r (b := .en) (by decide) (by decide) (by decide)).trans <|
      (State.get_leaveLists (b := .en) _ _ (by decide)).trans <|
      s.get_parted r (b := .en) (by decide) (by decide) (by decide)
  have hof : (s.lifted r).slotOf r.id = some (n, x) := by
    rw [← h]
    unfold State.slotOf
    rw [hlift]
  rw [State.removeRec_eq, hen (State.get_rehead (b := .en) _ (by decide) (by decide) (by decide) (by decide) (by decide)),
    State.takeOff, hen (State.get_bayFollows (b := .en) _ (by decide) (by decide))]
  unfold State.abandonLanding
  rw [hof]
  exact (State.slot_sendLanded _ _ _ _ _ _ _).trans (State.slot_setSlot_self _ _ _)

end

theorem removeRec_leavesNoTrace (s : State) (r : Rec) :
    let t := s.removeRec r
    (t.track.map Rec.kept = (s.track.filter fun q => q.id != r.id).map Rec.kept)
      ∧ (∀ e, r.id ∉ (t.chan e).awaited ∧ r.id ∉ (t.chan e).missed)
      ∧ t.tag.owner ≠ some r.id ∧ t.tag.st = s.tag.st ∧ t.tag.timeout = s.tag.timeout
      ∧ (∀ n x, s.slotOf r.id = some (n, x) → t.slot n = none)
      ∧ (r.state = .offered → t.ex.resend = none ∧ t.ex.patience = none)
      ∧ (∀ q, t.head = some q → t.marks.owner = some q.id)
      ∧ t.cu = s.cu ∧ t.dr = s.dr ∧ t.ex.lost = s.ex.lost := by
  have htag := s.tag_removeRec r
  refine ⟨s.kept_track_removeRec r, fun e => ?_, ?_, ?_, ?_, fun n x => s.slot_removeRec, fun ho => ?_, fun q hq => ?_,
    ?_, ?_, s.lost_removeRec⟩
  · have he : (s.removeRec r).chan e = (s.leaveLists r.id).chan e := by
      cases e <;> simp only [State.chan, s.eyes_removeRec r]
    rw [he, State.chan_leaveLists]
    exact ⟨fun h => by simpa using (List.mem_filter.1 h).2, fun h => by simpa using (List.mem_filter.1 h).2⟩
  · rw [htag]
    split
    · exact (Option.some_ne_none _).symm
    · assumption
  · rw [htag]
    split <;> rfl
  · rw [htag]
    split <;> rfl
  · rw [s.ex_removeRec_eq r, State.parted, if_pos ho, State.ex_sendWithdraw]
    exact ⟨rfl, rfl⟩
  · rw [State.removeRec_eq] at hq ⊢
    exact State.owner_rehead hq
  · exact State.get_removeRec (b := .cu) _ _ (by decide) (by decide) (by decide) (by decide) (by decide)
      (by decide) (by decide) (by decide) (by decide) (by decide)
  · exact State.get_removeRec (b := .dr) _ _ (by decide) (by decide) (by decide) (by decide) (by decide)
      (by decide) (by decide) (by decide) (by decide) (by decide)

/-! # The lead edge at EXIT (R49, R50) -/

/-- A choice by what the derived actions keep is the same of tracks that they keep. -/
theorem kept_filter {f : Rec → Bool} (hf : ∀ x y : Rec, x.kept = y.kept → f x = f y) {l m : List Rec}
    (h : l.map Rec.kept = m.map Rec.kept) : (l.filter f).map Rec.kept = (m.filter f).map Rec.kept := by
  induction l generalizing m with
  | nil =>
    cases m with
    | nil => rfl
    | cons y m => simp at h
  | cons x l ih =>
    cases m with
    | nil => simp at h
    | cons y m =>
      obtain ⟨hxy, hl⟩ := List.cons_eq_cons.1 h
      rw [List.filter_cons, List.filter_cons, hf x y hxy]
      split
      · rw [List.map_cons, List.map_cons, hxy, ih hl]
      · exact ih hl

theorem ids_of_map_kept {l m : List Rec} (h : l.map Rec.kept = m.map Rec.kept) : l.map (·.id) = m.map (·.id) := by
  have hk : (fun r : Rec => r.id) = (fun r : Rec => r.id) ∘ Rec.kept := rfl
  rw [hk, ← List.map_map, ← List.map_map, h]

theorem State.NamesSound.ne {s : State} (h : s.NamesSound) {a b : List Rec} (hs : s.track = a ++ b) {x y : Rec}
    (hx : x ∈ a) (hy : y ∈ b) : x.id ≠ y.id := by
  have hn := h.1
  rw [hs, List.map_append] at hn
  exact (List.nodup_append.1 hn).2.2 _ (List.mem_map_of_mem hx) _ (List.mem_map_of_mem hy)

section
variable {s : State} {r : Rec}

theorem State.mem_rehead_of_handed (hs : s.NamesSound) {q : Rec} (hq : q ∈ s.track) (hh : q.handed = true) :
    q ∈ s.rehead.track := by
  refine State.mem_rehead hq fun h hhead he => ?_
  obtain ⟨hm, hnot⟩ := mem_of_head hhead
  obtain rfl := hs.unique hm hq he.symm
  exact Bool.false_ne_true (hnot.symm.trans hh)

theorem State.track_vanish : (s.vanish r).track = (s.removeRec r).track := by
  unfold State.vanish
  split
  · exact State.get_toLost (b := .track) _ _ (by decide) (by decide) (by decide)
  · exact State.get_raiseLost (b := .track) _ _ _ (by decide) (by decide) (by decide)

theorem State.nextId_vanish : (s.vanish r).nextId = s.nextId := by
  have h : (s.removeRec r).nextId = s.nextId := State.get_removeRec (b := .nextId) _ _ (by decide) (by decide)
    (by decide) (by decide) (by decide) (by decide) (by decide) (by decide) (by decide) (by decide)
  unfold State.vanish
  split
  · exact (State.get_toLost (b := .nextId) _ _ (by decide) (by decide) (by decide)).trans h
  · exact (State.get_raiseLost (b := .nextId) _ _ _ (by decide) (by decide) (by decide)).trans h

theorem State.NamesSound.vanish (hs : s.NamesSound) : (s.vanish r).NamesSound := by
  have hids : (s.vanish r).track.map (·.id) = (s.track.filter fun q => q.id != r.id).map (·.id) :=
    ids_of_map_kept s.kept_track_vanish
  constructor
  · rw [hids]
    exact hs.1.sublist (List.filter_sublist.map _)
  · intro q hq
    have hm : q.id ∈ (s.track.filter fun q => q.id != r.id).map (·.id) := hids ▸ List.mem_map_of_mem hq
    obtain ⟨q', hq', he⟩ := List.mem_map.1 hm
    rw [State.nextId_vanish, ← he]
    exact hs.2 q' (List.mem_filter.1 hq').1

/-! ### Records that vanish one after the other -/

/-- Records given up leave the track, and the others keep their order and what the derived actions keep. -/
theorem State.kept_track_vanishAll (l : List Rec) (s : State) : (l.foldl State.vanish s).track.map Rec.kept =
    (s.track.filter fun q => l.all fun x => q.id != x.id).map Rec.kept := by
  induction l generalizing s with
  | nil => simp
  | cons x l ih =>
    have hid (y z : Rec) (h : y.kept = z.kept) : y.id = z.id := (Rec.kept_fields h).1
    rw [List.foldl_cons, ih, kept_filter (fun y z h => by rw [hid y z h]) s.kept_track_vanish, List.filter_filter]
    refine congrArg _ (List.filter_congr fun q _ => ?_)
    rw [List.all_cons, Bool.and_comm]

theorem State.NamesSound.vanishAll (l : List Rec) (hs : s.NamesSound) : (l.foldl State.vanish s).NamesSound := by
  induction l generalizing s with
  | nil => exact hs
  | cons x l ih => exact ih hs.vanish

theorem State.boot_vanishAll (l : List Rec) (s : State) : (l.foldl State.vanish s).boot = s.boot := by
  induction l generalizing s with
  | nil => rfl
  | cons x l ih => exact (ih _).trans (s.get_vanish (b := .boot) (.inr rfl))

/-- A released record that is not among them stays as it is. -/
theorem State.mem_vanishAll {l : List Rec} (hs : s.NamesSound) {q : Rec} (hq : q ∈ s.track) (hh : q.handed = true)
    (hne : ∀ x ∈ l, q.id ≠ x.id) : q ∈ (l.foldl State.vanish s).track := by
  induction l generalizing s with
  | nil => exact hq
  | cons x l ih =>
    refine ih hs.vanish ?_ fun y hy => hne y (List.mem_cons_of_mem _ hy)
    rw [State.track_vanish]
    exact State.mem_removeRec hs hq (hne x List.mem_cons_self) hh

theorem State.cause_vanishAll {l : List Rec} (hl : l ≠ []) (s : State) :
    ((l.foldl State.vanish s).cause .lostRack).st = .pending := by
  obtain ⟨l, x, rfl⟩ := (List.eq_nil_or_concat' l).resolve_left hl
  rw [List.foldl_append]
  exact (State.cause_vanish _).1

end

section
variable (s : State) (x : Count) {a b : List Rec} {r : Rec}

/-- The record may take an EXIT edge captured at x (R49). -/
def State.canExit (s : State) (x : Count) (r : Rec) : Bool :=
  r.exitPass == .none && decide (-(4 * s.boot.cts.tol : Int) ≤ r.slipAt s.boot.cts.exit x)
    && decide (r.slipAt s.boot.cts.exit x ≤ (s.boot.cts.jam : Int))

theorem State.canExit_iff : s.canExit x r = true ↔ r.exitPass = .none
    ∧ -(4 * (s.boot.cts.tol : Int)) ≤ r.slipAt s.boot.cts.exit x
    ∧ r.slipAt s.boot.cts.exit x ≤ (s.boot.cts.jam : Int) := by
  simp [State.canExit, and_assoc]

theorem State.exitCandidates_eq : s.exitCandidates x = s.track.filter (s.canExit x) := rfl

theorem State.exitLead_of_none (h : ∀ q ∈ s.track, ¬s.canExit x q) :
    s.exitLead x = (s.strayAt .exit).updChan .exit fun c => { c with jamDist := s.jamOfMax } := by
  unfold State.exitLead
  rw [State.exitCandidates_eq, nearest_eq_none.2 (List.filter_eq_nil_iff.2 h)]

variable {s x}

/-- The nearest candidate takes the edge, when those ahead of it with no passage have vanished (R49, R50). -/
theorem State.exitLead_of_nearest (hs : s.NamesSound) (ht : s.track = a ++ r :: b) (hr : s.canExit x r)
    (ha : ∀ q ∈ a, s.canExit x q → (r.slipAt s.boot.cts.exit x).natAbs < (q.slipAt s.boot.cts.exit x).natAbs)
    (hb : ∀ q ∈ b, s.canExit x q → (r.slipAt s.boot.cts.exit x).natAbs ≤ (q.slipAt s.boot.cts.exit x).natAbs) :
    s.exitLead x = ((a.filter fun q => q.exitPass == .none).foldl State.vanish s).takePassage r := by
  have hcan : s.exitCandidates x = a.filter (s.canExit x) ++ r :: b.filter (s.canExit x) := by
    rw [State.exitCandidates_eq, ht, List.filter_append, List.filter_cons_of_pos hr]
  have hahead : (s.track.takeWhile fun q => q.id != r.id) = a := by
    rw [ht, List.takeWhile_append_of_pos fun q hq => bne_iff_ne.2 (hs.ne ht hq List.mem_cons_self),
      List.takeWhile_cons_of_neg (by simp), List.append_nil]
  unfold State.exitLead
  rw [hcan, nearest_append (fun q hq => ha q (List.mem_filter.1 hq).1 (List.mem_filter.1 hq).2)
    fun q hq => hb q (List.mem_filter.1 hq).1 (List.mem_filter.1 hq).2]
  dsimp only
  rw [hahead]

/-- With the vanished ones off the track, the others stand in their order. -/
theorem State.filter_ahead (hs : s.NamesSound) (ht : s.track = a ++ r :: b) :
    (s.track.filter fun q => (a.filter fun q => q.exitPass == .none).all fun x => q.id != x.id) =
      (a.filter fun q => q.exitPass != .none) ++ r :: b := by
  have hmem {q : Rec} (hq : q ∈ a) : q ∈ s.track := ht ▸ List.mem_append_left _ hq
  rw [ht, List.filter_append, (List.filter_eq_self (l := r :: b)).2 fun q hq => ?_]
  · refine congrArg (· ++ r :: b) (List.filter_congr fun q hq => Bool.eq_iff_iff.2 ⟨fun h => ?_, fun h => ?_⟩)
    · refine bne_iff_ne.2 fun hp => ?_
      simpa using List.all_eq_true.1 h q (List.mem_filter.2 ⟨hq, beq_iff_eq.2 hp⟩)
    · refine List.all_eq_true.2 fun y hy => bne_iff_ne.2 fun he => bne_iff_ne.1 h ?_
      obtain ⟨hya, hp⟩ := List.mem_filter.1 hy
      rw [hs.unique (hmem hq) (hmem hya) he]
      exact beq_iff_eq.1 hp
  · exact List.all_eq_true.2 fun y hy => bne_iff_ne.2 (hs.ne ht (List.mem_filter.1 hy).1 hq).symm

theorem State.NamesSound.passTo (hs : s.NamesSound) : (s.passTo r).NamesSound := by
  constructor
  · rw [State.ids_passTo]
    exact hs.1
  · intro q hq
    have hm : q.id ∈ s.track.map (·.id) := State.ids_passTo (r := r) ▸ List.mem_map_of_mem hq
    obtain ⟨q', hq', he⟩ := List.mem_map.1 hm
    exact he ▸ hs.2 q' hq'

/-- A released record that takes the passage is SPANNING, and LEAVING where it was TAKEN (R49). -/
theorem State.mem_takePassage (hs : s.NamesSound) {q : Rec} (hq : q ∈ s.track) (hid : q.id = r.id) :
    ∃ y ∈ (s.takePassage r).track, y.kept = q.spans.kept ∧ (q.state = .taken → y.state = .leaving) := by
  rw [State.takePassage_eq]
  have hm : q.spans ∈ (s.passTo r).track := by
    rw [State.track_passTo]
    exact List.mem_map.2 ⟨q, hq, if_pos hid⟩
  by_cases hst : q.state = .taken
  · have hl : q.spans.state = .leaving := if_pos hst
    exact ⟨q.spans, State.mem_rehead_of_handed hs.passTo hm (by simp [Rec.handed, hl]), rfl, fun _ => hl⟩
  · have hk := State.kept_track_eq _ _ (s.passTo r).kept_rehead
    obtain ⟨y, hy, he⟩ := List.mem_map.1 (hk ▸ List.mem_map_of_mem hm : q.spans.kept ∈ _)
    exact ⟨y, hy, he, fun h => absurd h hst⟩

/-- The passage of every other record stays. -/
theorem State.exitPass_takePassage {q : Rec} (hq : q ∈ (s.takePassage r).track) (hne : q.id ≠ r.id) :
    ∃ y ∈ s.track, y.id = q.id ∧ q.exitPass = y.exitPass := by
  rw [State.takePassage_eq] at hq
  have hk := State.kept_track_eq _ _ (s.passTo r).kept_rehead
  obtain ⟨z, hz, he⟩ := List.mem_map.1 (hk ▸ List.mem_map_of_mem hq : q.kept ∈ _)
  obtain ⟨hid, hp, -⟩ := Rec.kept_fields he
  rw [State.track_passTo] at hz
  obtain ⟨y, hy, rfl⟩ := List.mem_map.1 hz
  have hy' : y.id ≠ r.id := fun h => hne (by rw [← hid, if_pos h]; exact h)
  rw [if_neg hy'] at hid hp
  exact ⟨y, hy, hid, hp.symm⟩

theorem State.jamDist_takePassage :
    (s.takePassage r).eyes.exit.jamDist = r.length.getD s.boot.cts.rackMax + s.boot.cts.jam := by
  rw [State.takePassage_eq, show (s.passTo r).rehead.eyes = (s.passTo r).eyes from
    State.get_rehead (b := .eyes) _ (by decide) (by decide) (by decide) (by decide) (by decide)]
  exact s.jamDist_passTo

theorem State.cause_takePassage {c : Cause} (hc : derivedCause c = false) : (s.takePassage r).cause c = s.cause c := by
  rw [State.takePassage_eq, State.kept_cause_eq _ _ (State.kept_rehead _) c hc]
  exact State.cause_congr (State.get_passTo (b := .att) (by decide) (by decide)) c

/-- What the lead edge at EXIT leaves (R49, R50). -/
theorem exitLead_spans (hs : s.NamesSound) (ht : s.track = a ++ r :: b) (hr : s.canExit x r)
    (ha : ∀ q ∈ a, s.canExit x q → (r.slipAt s.boot.cts.exit x).natAbs < (q.slipAt s.boot.cts.exit x).natAbs)
    (hb : ∀ q ∈ b, s.canExit x q → (r.slipAt s.boot.cts.exit x).natAbs ≤ (q.slipAt s.boot.cts.exit x).natAbs) :
    (s.exitLead x).track.map (·.id) = ((a.filter fun q => q.exitPass != .none) ++ r :: b).map (·.id)
      ∧ (∃ q ∈ (s.exitLead x).track, q.id = r.id ∧ q.exitPass = .spanning ∧ q.front = r.front
          ∧ q.number = r.number ∧ (r.state = .taken → q.state = .leaving))
      ∧ (∀ q ∈ (s.exitLead x).track, q.id ≠ r.id → ∃ q' ∈ s.track, q'.id = q.id ∧ q.exitPass = q'.exitPass)
      ∧ (s.exitLead x).eyes.exit.jamDist = r.length.getD s.boot.cts.rackMax + s.boot.cts.jam
      ∧ ((∃ q ∈ a, q.exitPass = .none) → ((s.exitLead x).cause .lostRack).st = .pending)
      ∧ ((∀ q ∈ a, q.exitPass ≠ .none) → (s.exitLead x).cause .lostRack = s.cause .lostRack) := by
  rw [State.exitLead_of_nearest hs ht hr ha hb]
  let l := a.filter fun q => q.exitPass == .none
  have hkept : (l.foldl State.vanish s).track.map Rec.kept =
      ((a.filter fun q => q.exitPass != .none) ++ r :: b).map Rec.kept := by
    rw [State.kept_track_vanishAll, State.filter_ahead hs ht]
  have hstays {q : Rec} (h : q ∈ (a.filter fun q => q.exitPass != .none) ++ r :: b) : q ∈ s.track := by
    rw [← State.filter_ahead hs ht] at h
    exact (List.mem_filter.1 h).1
  have hids := (State.ids_passTo (s := l.foldl State.vanish s) (r := r)).trans (ids_of_map_kept hkept)
  refine ⟨(ids_of_map_kept (State.kept_track_eq _ _ (State.kept_rehead _))).trans hids, ?_, fun q hq hne => ?_, ?_,
    fun ⟨q, hq, hp⟩ => ?_, fun h => ?_⟩
  · obtain ⟨r', hr', hk, hst⟩ : ∃ r' ∈ (l.foldl State.vanish s).track, r'.kept = r.kept
        ∧ (r.state = .taken → r'.state = .taken) := by
      by_cases hst : r.state = .taken
      · exact ⟨r, State.mem_vanishAll hs (ht ▸ by simp) (by simp [Rec.handed, hst])
          (fun y hy => (hs.ne ht (List.mem_filter.1 hy).1 List.mem_cons_self).symm), rfl, fun _ => hst⟩
      · obtain ⟨r', hr', he⟩ := List.mem_map.1 (hkept ▸ List.mem_map_of_mem (List.mem_append_right _ List.mem_cons_self) : r.kept ∈ _)
        exact ⟨r', hr', he, fun h => absurd h hst⟩
    obtain ⟨hid, -, hnum, hfront, -⟩ := Rec.kept_fields hk
    obtain ⟨y, hy, hyk, hyst⟩ := State.mem_takePassage (hs.vanishAll l) hr' hid
    obtain ⟨hyid, hyp, hynum, hyfront, -⟩ := Rec.kept_fields hyk
    exact ⟨y, hy, hyid.trans hid, hyp, hyfront.trans hfront, hynum.trans hnum, fun h => hyst (hst h)⟩
  · obtain ⟨y, hy, hid, hp⟩ := State.exitPass_takePassage hq hne
    obtain ⟨z, hz, he⟩ := List.mem_map.1 (hkept ▸ List.mem_map_of_mem hy : y.kept ∈ _)
    obtain ⟨hzid, hzp, -⟩ := Rec.kept_fields he
    exact ⟨z, hstays hz, hzid.trans hid, hp.trans hzp.symm⟩
  · rw [State.jamDist_takePassage, State.boot_vanishAll]
  · rw [State.cause_takePassage rfl]
    exact State.cause_vanishAll (List.ne_nil_of_mem (a := q) (List.mem_filter.2 ⟨hq, by simpa using hp⟩)) s
  · rw [State.cause_takePassage rfl, List.filter_eq_nil_iff.2 fun q hq => by simpa using h q hq]
    rfl

end

/-! # The trail edge at EXIT (R51, R52) -/

section
variable {s : State} {a b : List Rec} {r : Rec}

theorem State.exitTrail_of_none (h : ∀ q ∈ s.track, q.exitPass ≠ .spanning) : s.exitTrail = s := by
  unfold State.exitTrail
  rw [List.find?_eq_none.2 fun q hq => by simpa using h q hq]

theorem State.exitTrail_of_spanning (ht : s.track = a ++ r :: b) (ha : ∀ q ∈ a, q.exitPass ≠ .spanning)
    (hr : r.exitPass = .spanning) :
    s.exitTrail = if r.state = .leaving then
        if r.landing.isSome then (s.updRec r.id fun q => { q with exitPass := .passed }).removeRec r
        else s.updRec r.id fun q => { q with exitPass := .passed }
      else (s.updRec r.id fun q => { q with exitPass := .passed }).vanish r := by
  unfold State.exitTrail
  rw [ht, find?_split (fun q hq => by simpa using ha q hq) (by simpa using hr)]

/-- A change of one record of a track is made where it stands. -/
theorem State.track_updRec_append (hs : s.NamesSound) (ht : s.track = a ++ r :: b) {f : Rec → Rec} :
    (s.updRec r.id f).track = a ++ f r :: b := by
  have hother {l : List Rec} (h : ∀ q ∈ l, q.id ≠ r.id) : (l.map fun q => if q.id = r.id then f q else q) = l :=
    (List.map_congr_left (g := id) fun q hq => if_neg (h q hq)).trans (List.map_id l)
  show (s.track.map fun q => if q.id = r.id then f q else q) = _
  rw [ht, List.map_append, List.map_cons, if_pos rfl, hother fun q hq => hs.ne ht hq List.mem_cons_self]
  rw [hother fun q hq => ?_]
  exact (hs.ne (a := a ++ [r]) (b := b) (by simp [ht]) (by simp) hq).symm

theorem State.filter_removed (hs : s.NamesSound) (ht : s.track = a ++ r :: b) :
    (s.track.filter fun q => q.id != r.id) = a ++ b := by
  rw [ht, List.filter_append, List.filter_cons_of_neg (by simp),
    List.filter_eq_self.2 fun q hq => bne_iff_ne.2 (hs.ne ht hq List.mem_cons_self),
    List.filter_eq_self.2 fun q hq =>
      bne_iff_ne.2 (hs.ne (a := a ++ [r]) (b := b) (by simp [ht]) (by simp) hq).symm]

/-- What the trail edge at EXIT leaves of the SPANNING record (R51, R52). -/
theorem exitTrail_passes (hs : s.NamesSound) (ht : s.track = a ++ r :: b) (ha : ∀ q ∈ a, q.exitPass ≠ .spanning)
    (hr : r.exitPass = .spanning) :
    (r.state = .leaving → r.landing = none → s.exitTrail.track = a ++ { r with exitPass := .passed } :: b)
      ∧ (r.state = .leaving → r.landing ≠ none →
          s.exitTrail.track.map Rec.kept = (a ++ b).map Rec.kept ∧ s.exitTrail.cause .lostRack = s.cause .lostRack)
      ∧ (r.state ≠ .leaving → s.exitTrail.track.map Rec.kept = (a ++ b).map Rec.kept
          ∧ (s.exitTrail.cause .lostRack).st = .pending
          ∧ (s.exitTrail.cause .lostRack).detail = BitVec.ofNat 16 r.number.val
          ∧ (r.state ≠ .taken → s.exitTrail.ex.plainLoss = true)) := by
  let t := s.updRec r.id fun q => { q with exitPass := .passed }
  have hfilter : (t.track.filter fun q => q.id != r.id) = a ++ b := by
    rw [State.filter_updRec, State.filter_removed hs ht]
    exact fun _ => rfl
  rw [State.exitTrail_of_spanning ht ha hr]
  refine ⟨fun hl hn => ?_, fun hl hn => ?_, fun hl => ?_⟩
  · rw [if_pos hl, if_neg (by simp [hn])]
    exact State.track_updRec_append hs ht
  · rw [if_pos hl, if_pos (Option.isSome_iff_ne_none.2 hn), State.kept_track_removeRec, hfilter]
    exact ⟨rfl, t.cause_removeRec r rfl⟩
  · rw [if_neg hl, State.kept_track_vanish, hfilter]
    obtain ⟨hst, hdet⟩ := t.cause_vanish (r := r)
    refine ⟨rfl, hst, hdet, fun hnt => ?_⟩
    unfold State.vanish
    rw [if_neg hnt, State.ex_raiseLost, if_neg Bool.false_ne_true]

end

/-! # The edges at EXIT, as they are confirmed -/

section
variable {s : State} {p : PendEdge}

theorem State.confirm_exit_lead (hst : s.eyes.exit.st = .clear) (hrev : p.reverse = false) :
    s.confirm .exit p = ((s.setChan .exit (s.edgeChan .exit p)).exitLead p.count).accounted .exit p.count := by
  rw [State.confirm_eq, State.delivered_of_lead (e := .exit) hst hrev]
  rfl

theorem State.confirm_exit_trail (hst : s.eyes.exit.st = .blocked) (hrev : p.reverse = false) : s.confirm .exit p =
    ((s.setChan .exit (s.edgeChan .exit p)).eyeCleared .exit).exitTrail.accounted .exit p.count := by
  rw [State.confirm_eq, State.delivered_of_trail (e := .exit) hst hrev]
  rfl

theorem State.jamDist_accounted (s : State) (x : Count) : (s.accounted .exit x).eyes.exit.jamDist = s.eyes.exit.jamDist := by
  obtain ⟨u, hu⟩ := s.chan_accounted .exit .exit x
  exact (congrArg EyeChan.jamDist hu :)

theorem exitEdge_strays (hst : s.eyes.exit.st = .clear) (hrev : p.reverse = false)
    (h : ∀ r ∈ s.track, ¬s.canExit p.count r) :
    (s.confirm .exit p).track = s.track
      ∧ (s.confirm .exit p).eyes.exit.jamDist = s.boot.cts.rackMax + s.boot.cts.jam
      ∧ ((s.confirm .exit p).cause .strayRack).st = .pending
      ∧ ((s.confirm .exit p).cause .strayRack).detail = BitVec.ofNat 16 (Eye.code .exit) := by
  let w := s.setChan .exit (s.edgeChan .exit p)
  rw [State.confirm_exit_lead hst hrev, State.track_accounted, State.jamDist_accounted, State.cause_accounted,
    show w.exitLead p.count = _ from w.exitLead_of_none p.count h, State.cause_congr (State.att_updChan _ _ _)]
  refine ⟨State.track_raise _ _ _, rfl, ?_⟩
  unfold State.strayAt
  rw [State.cause_raise, if_pos rfl]
  exact ⟨rfl, rfl⟩

end

/-- Settles O17: what a removal leaves, block by block, and the two edges at EXIT. -/
theorem removalLeavesNoTrace : Obligations.RemovalLeavesNoTrace := by
  unfold Obligations.RemovalLeavesNoTrace
  refine ⟨fun s r _ => removeRec_leavesNoTrace s r, fun s p hr hm hl hb hp hrun hrev hs => ?_⟩
  have hlead : (s.setChan .exit (s.edgeChan .exit p)).NamesSound := hs
  have htrail : ((s.setChan .exit (s.edgeChan .exit p)).eyeCleared .exit).track = s.track :=
    s.get_trailed (b := .track) .exit p (by decide) (by decide) (by decide)
  have hnext : ((s.setChan .exit (s.edgeChan .exit p)).eyeCleared .exit).nextId = s.nextId :=
    s.get_trailed (b := .nextId) .exit p (by decide) (by decide) (by decide)
  refine ⟨s.confirm .exit p, exec_eyeEdgeConfirm_of_due hr hm (State.fitted_exit hl) hb hp hrun,
    fun hst h => exitEdge_strays hst hrev fun r hr => (s.canExit_iff p.count).not.2 (h r hr),
    fun a r b hst ht hcan ha hb => ?_, fun hst h => ?_, fun a r b hst ht ha hsp => ?_, ?_⟩
  · have hiff (q : Rec) := s.canExit_iff p.count (r := q)
    obtain ⟨hids, hspans, hothers, hjam, hlost, hkeeps⟩ := exitLead_spans (x := p.count) hlead ht ((hiff r).2 hcan)
      (fun q hq hc => ha q hq ((hiff q).1 hc)) fun q hq hc => hb q hq ((hiff q).1 hc)
    rw [State.confirm_exit_lead hst hrev, State.track_accounted, State.jamDist_accounted, State.cause_accounted]
    exact ⟨hids, hspans, hothers, hjam, hlost, hkeeps⟩
  · rw [State.confirm_exit_trail hst hrev, State.track_accounted, State.exitTrail_of_none (by rwa [htrail]), htrail]
  · obtain ⟨hstays, hanswered, hvanishes⟩ := exitTrail_passes (hs.congr htrail hnext) (htrail.trans ht) ha hsp
    have hex (t : State) : (t.accounted .exit p.count).ex = t.ex := t.get_accounted (b := .ex) _ _ (by decide)
    rw [State.confirm_exit_trail hst hrev, State.track_accounted, State.cause_accounted, hex,
      ← s.cause_trailed .exit p (k := .lostRack) rfl]
    exact ⟨hstays, hanswered, hvanishes⟩
  · obtain ⟨hst, -, -⟩ := s.fields_confirm .exit .exit p
    obtain ⟨hst', -, -⟩ := s.chan_changeChan_self .exit p
    split
    · next hc => exact (hst.trans hst').trans (by rw [hrev, show (s.chan .exit).st = .clear from hc]; rfl)
    · split
      · next hc => exact (hst.trans hst').trans (by rw [hrev, show (s.chan .exit).st = .blocked from hc]; rfl)
      · rfl

end Sys2Proof.Machine

/-! # Missed records (R27), jams and stuck eyes (R29, R30) -/

namespace Sys2Proof.Machine

section
variable {s : State} {e : Eye}

/-- The derived actions leave the lists of a channel. -/
theorem State.lists_of_kept {t : State} (h : t.kept = s.kept) (e : Eye) :
    (t.chan e).awaited = (s.chan e).awaited ∧ (t.chan e).missed = (s.chan e).missed
      ∧ (t.chan e).jam = (s.chan e).jam ∧ (t.chan e).stuck = (s.chan e).stuck := by
  have hk := State.kept_chan_eq _ _ h e
  exact ⟨(congrArg EyeChan.awaited hk :), (congrArg EyeChan.missed hk :), (congrArg EyeChan.jam hk :),
    (congrArg EyeChan.stuck hk :)⟩

theorem State.mem_inTrackOrder {i : Nat} {l : List Nat} : i ∈ s.inTrackOrder l ↔ i ∈ l ∧ ∃ q ∈ s.track, q.id = i := by
  simp [State.inTrackOrder, and_comm]

/-- The state in which the first awaited record is missed, before the derived actions (R27). -/
def State.missedFirst (s : State) (e : Eye) (r : Rec) : State :=
  State.flagRec (s.setChan e { s.chan e with
      awaited := (s.chan e).awaited.filter (· != r.id), missed := s.inTrackOrder ((s.chan e).missed ++ [r.id]) })
    r.id { slipped := true }

theorem checkMissed_slips {r : Rec} {rest : List Nat} (hr : s.Runs) (hc : s.isCheck e = true)
    (ha : (s.chan e).awaited = r.id :: rest) (hrest : r.id ∉ rest) (hrec : s.recOf r.id = some r)
    (hp : (s.chan e).pendingLead = false) (hf : .missed e r.id ∈ s.found)
    (ht : s.boot.cts.tol < travel (r.front + BitVec.ofNat 16 (s.offset e)) s.cu.count) :
    ∃ t, exec (.checkMissed e) s = .next t
      ∧ (t.chan e).awaited = rest ∧ r.id ∈ (t.chan e).missed
      ∧ (∀ i ∈ (t.chan e).missed, i ∈ (s.chan e).missed ∨ i = r.id)
      ∧ (∃ q ∈ t.track, q.id = r.id ∧ q.flags.slipped = true ∧ q.front = r.front ∧ q.number = r.number)
      ∧ (∀ f, f ≠ e → (t.chan f).awaited = (s.chan f).awaited ∧ (t.chan f).missed = (s.chan f).missed) := by
  have hdue : s.missedDue e = some r := by
    have hlate := (s.latePast_iff e r).2 ⟨hc, hp, ht⟩
    unfold State.missedDue
    rw [ha]
    dsimp only
    rw [hrec]
    exact if_pos (by rw [hlate, Bool.and_true]; exact List.contains_iff_mem.2 hf)
  have hmem := (State.mem_of_recOf hrec).1
  have hlists (f : Eye) := (s.missedFirst e r).settle.lists_of_kept (s.missedFirst e r).kept_settle.symm f
  have hself : (s.missedFirst e r).chan e = _ := State.chan_setChan_self s e _
  refine ⟨(s.missedFirst e r).settle, ?_, ?_, ?_, fun i hi => ?_, ?_, fun f hfe => ?_⟩
  · rw [exec_checkMissed_eq, live_of_runs hr, State.doCheckMissed, hdue]
    rfl
  · rw [← (hlists e).1, hself, ha]
    rw [List.filter_cons_of_neg (by simp), List.filter_eq_self.2 fun i hi => bne_iff_ne.2 fun (h : i = r.id) => hrest (h ▸ hi)]
  · rw [← (hlists e).2.1, hself]
    exact State.mem_inTrackOrder.2 ⟨by simp, r, hmem, rfl⟩
  · rw [← (hlists e).2.1, hself] at hi
    simpa using (State.mem_inTrackOrder.1 hi).1
  · obtain ⟨q, hq, hk⟩ := State.kept_mem _ _ (s.missedFirst e r).kept_settle
      (State.mem_flagRec (s := s.setChan e _) { slipped := true } (by simpa using hmem))
    obtain ⟨hid, -, hnum, hfront, -⟩ := Rec.kept_fields hk
    have hsl : q.flags.slipped = (r.flagged { slipped := true }).flags.slipped := (congrArg (fun r => r.flags.slipped) hk :)
    exact ⟨q, hq, hid, by simp [hsl, Rec.flagged, Flags.union], hfront, hnum⟩
  · rw [← (hlists f).1, ← (hlists f).2.1]
    have hother : (s.missedFirst e r).chan f = s.chan f := State.chan_setChan_other s _ hfe
    rw [hother]
    exact ⟨rfl, rfl⟩

theorem State.chan_congr {t : State} (h : t.eyes = s.eyes) (e : Eye) : t.chan e = s.chan e := by
  cases e <;> simp only [State.chan, h]

/-- A channel that reports its condition. -/
theorem State.chan_report (s : State) (e : Eye) (f : EyeChan → EyeChan) (c : Cause) (d : Nat) :
    (State.raiseStanding (s.updChan e f) c d).chan e = f (s.chan e) :=
  (State.chan_congr (State.get_raiseStanding (b := .eyes) _ _ _ (by decide) (by decide)) e).trans
    (State.chan_updChan_self s e f)

theorem eyeJam_raises (hr : s.Runs) (hl : s.boot.loaded = true) (he : e = .entry ∨ e = .exit)
    (hb : EyeState.isBlocked (s.chan e).st = true) (hj : (s.chan e).jam = false) (hf : .jam e ∈ s.found)
    (ht : (if e = .exit then (s.chan e).jamDist else s.boot.cts.rackMax + s.boot.cts.jam)
      < travel (s.chan e).blockedFrom s.cu.count) :
    ∃ t, exec (.eyeJam e) s = .next t ∧ (t.chan e).jam = true
      ∧ (let c : Cause := if e = .entry then .entryJam else .exitJam
         (t.cause c).st = .pending ∧ (t.cause c).present = true
          ∧ (t.cause c).detail = BitVec.ofNat 16 (Eye.code e)
          ∧ (t.cause c).repeats = if (s.cause c).st = .absent then 0 else satSucc (s.cause c).repeats)
      ∧ t.cu = s.cu := by
  have hfit : s.fitted e = true := by
    rcases he with rfl | rfl
    · exact State.fitted_entry hl
    · exact State.fitted_exit hl
  have hdue : s.jamDue e = true := by
    rw [State.jamDue, (s.jamPast_iff e).2 ⟨he, hfit, hb, hj, ht⟩, Bool.and_true]
    exact List.contains_iff_mem.2 hf
  let c : Cause := if e = .entry then .entryJam else .exitJam
  let u := State.raiseStanding (s.updChan e fun c => { c with jam := true }) c (Eye.code e)
  have hc : derivedCause c = false := by simp only [c]; split <;> rfl
  have hold (k : Cause) : (s.updChan e fun c => { c with jam := true }).cause k = s.cause k :=
    State.cause_congr (State.att_updChan _ _ _) k
  refine ⟨u.settle, ?_, ?_, ?_, ?_⟩
  · rw [exec_eyeJam_eq, live_of_runs hr, State.doEyeJam, if_pos hdue]
  · rw [(State.lists_of_kept u.kept_settle e).2.2.1, State.chan_report]
  · show (u.settle.cause c).st = _ ∧ (u.settle.cause c).present = _ ∧ (u.settle.cause c).detail = _
      ∧ (u.settle.cause c).repeats = _
    rw [State.cause_settle _ hc, State.cause_raiseStanding, if_pos rfl, hold]
    exact ⟨rfl, rfl, rfl, rfl⟩
  · rw [State.settle_cu]
    exact (State.get_raiseStanding (b := .cu) _ _ _ (by decide) (by decide)).trans
      (State.get_updChan (b := .cu) _ _ _ (by decide))

theorem eyeStuck_raises {x : Count} (hr : s.Runs) (hw : s.watches e = true) (hu : (s.chan e).unaccounted = some x)
    (hs : (s.chan e).stuck = false) (hf : .stuck e ∈ s.found) (ht : s.boot.cts.jam < travel x s.cu.count) :
    ∃ t, exec (.eyeStuck e) s = .next t ∧ (t.chan e).stuck = true
      ∧ (t.cause .eyeStuck).st = .pending ∧ (t.cause .eyeStuck).present = true
      ∧ (t.cause .eyeStuck).detail = BitVec.ofNat 16 (Eye.code e)
      ∧ t.cu = s.cu := by
  have hdue : s.stuckDue e = true := by
    rw [State.stuckDue, (s.stuckPast_iff e).2 ⟨hw, hs, x, hu, ht⟩, Bool.and_true]
    exact List.contains_iff_mem.2 hf
  let u := State.raiseStanding (s.updChan e fun c => { c with stuck := true }) .eyeStuck (Eye.code e)
  refine ⟨u.settle, ?_, ?_, ?_⟩
  · rw [exec_eyeStuck_eq, live_of_runs hr, State.doEyeStuck, if_pos hdue]
  · rw [(State.lists_of_kept u.kept_settle e).2.2.2, State.chan_report]
  · rw [State.cause_settle _ rfl, State.cause_raiseStanding, if_pos rfl, State.settle_cu]
    exact ⟨rfl, rfl, rfl, (State.get_raiseStanding (b := .cu) _ _ _ (by decide) (by decide)).trans
      (State.get_updChan (b := .cu) _ _ _ (by decide))⟩

end

/-! # A lead edge at a check eye (R26, R28) -/

section
variable {s : State}

theorem State.recOf_of_mem (hs : s.NamesSound) {r : Rec} (hr : r ∈ s.track) : s.recOf r.id = some r := by
  cases h : s.recOf r.id with
  | none => simpa using List.find?_eq_none.1 h r hr
  | some q =>
    obtain ⟨hq, hid⟩ := State.mem_of_recOf h
    rw [hs.unique hq hr hid]

/-- A flag leaves a record's name, front and number, and adds to its flags. -/
theorem State.mem_slipped (ids : List Nat) (s : State) {q : Rec} (hq : q ∈ s.track) :
    ∃ q' ∈ (s.slipped ids).track, q'.id = q.id ∧ q'.front = q.front
      ∧ (q.flags.slipped = true ∨ q.id ∈ ids → q'.flags.slipped = true) := by
  induction ids generalizing s q with
  | nil => exact ⟨q, hq, rfl, rfl, fun h => h.resolve_right List.not_mem_nil⟩
  | cons i ids ih =>
    by_cases hi : q.id = i
    · subst hi
      have hf := State.mem_flagRec (q := q) { slipped := true } hq
      obtain ⟨q', hq', hid, hfront, hsl⟩ := ih (s.flagRec q.id { slipped := true }) hf
      exact ⟨q', hq', hid, hfront, fun _ => hsl (.inl (by simp [Rec.flagged, Flags.union]))⟩
    · have hf : q ∈ (s.flagRec i { slipped := true }).track := s.mem_updRec_of_ne _ hq hi
      obtain ⟨q', hq', hid, hfront, hsl⟩ := ih _ hf
      exact ⟨q', hq', hid, hfront, fun h => hsl (h.imp_right fun h => (List.mem_cons.1 h).resolve_left hi)⟩

theorem State.mem_slipped_of_not_mem {ids : List Nat} {s : State} {q : Rec} (hq : q ∈ s.track) (h : q.id ∉ ids) :
    q ∈ (s.slipped ids).track := by
  induction ids generalizing s with
  | nil => exact hq
  | cons i ids ih =>
    have hf : q ∈ (s.flagRec i { slipped := true }).track :=
      s.mem_updRec_of_ne _ hq fun hi => h (hi ▸ List.mem_cons_self)
    exact ih hf fun hm => h (List.mem_cons_of_mem _ hm)

theorem State.get_slipped (ids : List Nat) (s : State) {b : Block} (h : b ≠ .track) : (s.slipped ids).get b = s.get b := by
  induction ids generalizing s with
  | nil => rfl
  | cons i ids ih => exact (ih _).trans (State.get_updRec _ _ _ h)

theorem State.chan_correct (s : State) (r : Rec) (v : Int) (e : Eye) : (s.correct r v).chan e = s.chan e := by
  refine State.chan_congr ?_ e
  unfold State.correct
  dsimp only
  split
  · exact State.get_recomputeGroup (b := .eyes) _ _ (by decide) (by decide) (by decide) (by decide)
  · rfl

theorem State.cause_correct (s : State) (r : Rec) (v : Int) {c : Cause} (hc : derivedCause c = false) :
    (s.correct r v).cause c = s.cause c := State.kept_cause_eq _ _ (s.kept_correct r v) c hc

/-- A corrected record crosses the eye where the edge was captured, and is otherwise as it was (R26). -/
theorem State.mem_correct_kept {r : Rec} (o : Nat) (x : Count) (hr : r ∈ s.track) :
    ∃ q ∈ (s.correct r (r.slipAt o x)).track, q.id = r.id ∧ q.crossing o = x ∧ q.number = r.number
      ∧ q.flags.slipped = r.flags.slipped := by
  obtain ⟨q, hq, hk⟩ := State.kept_mem _ _ (s.kept_correct r (r.slipAt o x))
    (s.mem_updRec (fun q => { q with front := Count.shift r.front (r.slipAt o x) }) hr)
  obtain ⟨hid, -, hnum, hfront, -⟩ := Rec.kept_fields hk
  exact ⟨q, hq, hid, Rec.crossing_of_front_slipped hfront, hnum, (congrArg (fun r => r.flags.slipped) hk :)⟩

/-- Every other record keeps its front and what else the derived actions keep. -/
theorem State.mem_correct_other {r q : Rec} (v : Int) (hq : q ∈ s.track) (hne : q.id ≠ r.id) :
    ∃ q' ∈ (s.correct r v).track, q'.kept = q.kept :=
  State.kept_mem _ _ (s.kept_correct r v) (s.mem_updRec_of_ne _ hq hne)

/-- The records of a list of names that an edge captured at x meets within n counts. -/
def State.within (s : State) (o : Nat) (x : Count) (n : Nat) (ids : List Nat) : List Rec :=
  (ids.filterMap s.recOf).filter fun r => decide ((r.slipAt o x).natAbs ≤ n)

variable {o n : Nat} {x : Count} {e : Eye} {r : Rec} {a b : List Nat}

theorem State.mem_within {ids : List Nat} {q : Rec} (h : q ∈ s.within o x n ids) :
    q.id ∈ ids ∧ q ∈ s.track ∧ (q.slipAt o x).natAbs ≤ n := by
  obtain ⟨hm, hn⟩ := List.mem_filter.1 h
  obtain ⟨i, hi, hrec⟩ := List.mem_filterMap.1 hm
  obtain ⟨hq, rfl⟩ := State.mem_of_recOf hrec
  exact ⟨hi, hq, of_decide_eq_true hn⟩

theorem State.within_eq_nil {ids : List Nat}
    (h : ∀ q : Rec, ¬(q.id ∈ ids ∧ q ∈ s.track ∧ (q.slipAt o x).natAbs ≤ n)) : s.within o x n ids = [] :=
  List.eq_nil_iff_forall_not_mem.2 fun q hq => h q (State.mem_within hq)

/-- Of the records within reach the one of the smallest slip takes the edge, of equals the front-most (R26). -/
theorem State.nearest_within (hs : s.NamesSound) (hr : r ∈ s.track) (hn : (r.slipAt o x).natAbs ≤ n)
    (ha : ∀ q : Rec, q.id ∈ a ∧ q ∈ s.track ∧ (q.slipAt o x).natAbs ≤ n → (r.slipAt o x).natAbs < (q.slipAt o x).natAbs)
    (hb : ∀ q : Rec, q.id ∈ b ∧ q ∈ s.track ∧ (q.slipAt o x).natAbs ≤ n → (r.slipAt o x).natAbs ≤ (q.slipAt o x).natAbs) :
    nearest o x (s.within o x n (a ++ r.id :: b)) = some r := by
  have hsplit : s.within o x n (a ++ r.id :: b) = s.within o x n a ++ r :: s.within o x n b := by
    unfold State.within
    rw [List.filterMap_append, List.filterMap_cons_some (State.recOf_of_mem hs hr), List.filter_append,
      List.filter_cons_of_pos (by simpa using hn)]
  rw [hsplit]
  exact nearest_append (fun q hq => ha q (State.mem_within hq)) fun q hq => hb q (State.mem_within hq)

theorem State.checkLead_eq (s : State) (e : Eye) (x : Count) : s.checkLead e x =
    match nearest (s.offset e) x (s.within (s.offset e) x s.boot.cts.tol (s.chan e).awaited) with
    | some r => s.takeAwaited e x r
    | none =>
      match nearest (s.offset e) x (s.within (s.offset e) x (4 * s.boot.cts.tol) (s.chan e).missed) with
      | some r => State.correct (s.setChan e { s.chan e with missed := (s.chan e).missed.filter (· != r.id) }) r
          (r.slipAt (s.offset e) x)
      | none => s.strayAt e := rfl

/-- The list after an edge: the taker has left the awaited ones, and those ahead of it are missed (R26). -/
def State.listsTaken (s : State) (e : Eye) (a b : List Nat) : State :=
  s.setChan e { s.chan e with awaited := b, missed := s.inTrackOrder ((s.chan e).missed ++ a) }

theorem State.takeAwaited_eq (h : (s.chan e).awaited = a ++ r.id :: b) (hn : r.id ∉ a) :
    s.takeAwaited e x r = ((s.listsTaken e a b).slipped a).correct r (r.slipAt (s.offset e) x) := by
  have hne : ∀ i ∈ a, (i != r.id) = true := fun i hi => bne_iff_ne.2 fun (he : i = r.id) => hn (he ▸ hi)
  have htake : (s.chan e).awaited.takeWhile (· != r.id) = a := by
    rw [h, List.takeWhile_append_of_pos hne, List.takeWhile_cons_of_neg (by simp), List.append_nil]
  have hdrop : (s.chan e).awaited.dropWhile (· != r.id) = r.id :: b := by
    rw [h, List.dropWhile_append_of_pos hne, List.dropWhile_cons_of_neg (by simp)]
  have ho : (s.listsTaken e a b).offset e = s.offset e := by cases e <;> rfl
  unfold State.takeAwaited
  dsimp only
  rw [htake, hdrop]
  rw [← ho]
  rfl

/-- What the taker of the awaited list leaves (R26). -/
theorem takeAwaited_corrects (h : (s.chan e).awaited = a ++ r.id :: b) (hn : r.id ∉ a) (hr : r ∈ s.track) :
    let t := s.takeAwaited e x r
    (t.chan e).awaited = b
      ∧ (∀ i, i ∈ (t.chan e).missed ↔ (i ∈ (s.chan e).missed ∨ i ∈ a) ∧ ∃ q ∈ s.track, q.id = i)
      ∧ (∃ q ∈ t.track, q.id = r.id ∧ q.crossing (s.offset e) = x ∧ q.number = r.number
          ∧ q.flags.slipped = r.flags.slipped)
      ∧ (∀ q ∈ s.track, q.id ∈ a → ∃ q' ∈ t.track, q'.id = q.id ∧ q'.flags.slipped = true ∧ q'.front = q.front)
      ∧ t.cause .strayRack = s.cause .strayRack := by
  have htrack : (s.listsTaken e a b).track = s.track := State.track_setChan _ _ _
  have hchan : (((s.listsTaken e a b).slipped a).correct r (r.slipAt (s.offset e) x)).chan e =
      { s.chan e with awaited := b, missed := s.inTrackOrder ((s.chan e).missed ++ a) } :=
    (State.chan_correct _ _ _ _).trans <| (State.chan_congr (State.get_slipped (b := .eyes) _ _ (by decide)) e).trans
      (State.chan_setChan_self s e _)
  rw [State.takeAwaited_eq h hn]
  dsimp only
  refine ⟨by rw [hchan], fun i => ?_, ?_, fun q hq hqa => ?_, ?_⟩
  · rw [hchan]
    exact State.mem_inTrackOrder.trans (and_congr_left fun _ => List.mem_append)
  · exact State.mem_correct_kept _ _ (State.mem_slipped_of_not_mem (htrack ▸ hr) hn)
  · obtain ⟨q', hq', hid, hfront, hsl⟩ := State.mem_slipped a _ (htrack ▸ hq)
    obtain ⟨y, hy, hk⟩ := State.mem_correct_other (r := r) (r.slipAt (s.offset e) x) hq'
      fun he => hn (by rw [← he, hid]; exact hqa)
    obtain ⟨hyid, -, -, hyfront, -⟩ := Rec.kept_fields hk
    exact ⟨y, hy, hyid.trans hid, ((congrArg (fun r => r.flags.slipped) hk :)).trans (hsl (.inr hqa)),
      hyfront.trans hfront⟩
  · rw [State.cause_correct _ _ _ rfl]
    exact State.cause_congr ((State.get_slipped (b := .att) _ _ (by decide)).trans (State.att_setChan _ _ _)) _

/-- What the taker of the missed list leaves (R28). -/
theorem takeMissed_corrects (hr : r ∈ s.track) (l : List Nat) :
    let t := State.correct (s.setChan e { s.chan e with missed := l }) r (r.slipAt (s.offset e) x)
    (t.chan e).missed = l ∧ (t.chan e).awaited = (s.chan e).awaited
      ∧ (∃ q ∈ t.track, q.id = r.id ∧ q.crossing (s.offset e) = x ∧ q.flags.slipped = r.flags.slipped)
      ∧ t.cause .strayRack = s.cause .strayRack := by
  have htrack : (s.setChan e { s.chan e with missed := l }).track = s.track := State.track_setChan _ _ _
  dsimp only
  rw [State.chan_correct, State.chan_setChan_self, State.cause_correct _ _ _ rfl]
  obtain ⟨q, hq, hid, hx, -, hsl⟩ := State.mem_correct_kept (s := s.setChan e _) (s.offset e) x (htrack ▸ hr)
  exact ⟨rfl, rfl, ⟨q, hq, hid, hx, hsl⟩, State.cause_congr (State.att_setChan _ _ _) _⟩

end

section
variable {s : State} {e : Eye} {p : PendEdge}

theorem State.fitted_of_isCheck (h : s.isCheck e = true) : s.fitted e = true := by
  simp only [State.isCheck, Bool.and_eq_true] at h
  exact h.1.1.1

theorem State.deliver_check (h : s.isCheck e = true) (x : Count) : s.deliver e x .lead = s.checkLead e x := by
  cases e with
  | entry => simp [State.isCheck] at h
  | exit => simp [State.isCheck] at h
  | checkA => rfl
  | checkB => rfl
  | gate => rfl
  | bay => exact if_neg (by simpa [State.isCheck] using (Bool.and_eq_true_iff.1 h).2)

theorem State.isCheck_congr {t : State} (h : t.boot = s.boot) (e : Eye) : t.isCheck e = s.isCheck e := by
  unfold State.isCheck State.fitted State.eyePos State.bayRole State.hasRole
  rw [h]

theorem State.confirm_check (hc : s.isCheck e = true) (hst : (s.chan e).st = .clear) (hrev : p.reverse = false) :
    s.confirm e p = ((s.setChan e (s.edgeChan e p)).checkLead e p.count).accounted e p.count := by
  rw [State.confirm_eq, State.delivered_of_lead hst hrev, State.deliver_check]
  rw [State.isCheck_congr (State.boot_setChan _ _ _)]
  exact hc

theorem State.lists_accounted (s : State) (e : Eye) (x : Count) :
    ((s.accounted e x).chan e).awaited = (s.chan e).awaited ∧ ((s.accounted e x).chan e).missed = (s.chan e).missed := by
  obtain ⟨u, hu⟩ := s.chan_accounted e e x
  rw [hu]
  exact ⟨rfl, rfl⟩

theorem State.offset_setChan (s : State) (e : Eye) (c : EyeChan) : (s.setChan e c).offset e = s.offset e := by
  cases e <;> rfl

end

/-- Settles O15: missed records, jams and stuck eyes by their tests, and the lead edge of a check eye by the record
that is nearest to it. -/
theorem missedJammedAndStuckAreReported : Obligations.MissedJammedAndStuckAreReported := by
  unfold Obligations.MissedJammedAndStuckAreReported
  refine ⟨fun s e r rest => checkMissed_slips, ⟨fun s e => eyeJam_raises, fun s e x => eyeStuck_raises⟩,
    fun s e p hr hm hc hb hp hrun hrev hst hs hnd => ?_⟩
  let w := s.setChan e (s.edgeChan e p)
  have hboot : w.boot = s.boot := State.boot_setChan _ _ _
  have htrack : w.track = s.track := State.track_setChan _ _ _
  have hchan : w.chan e = s.edgeChan e p := State.chan_setChan_self s e _
  have hoff : w.offset e = s.offset e := s.offset_setChan e _
  have hcause : w.cause .strayRack = s.cause .strayRack := State.cause_congr (State.att_setChan _ _ _) _
  have hw : w.NamesSound := hs.congr htrack (State.nextId_setChan _ _ _)
  have heq : w.checkLead e p.count = _ := w.checkLead_eq e p.count
  have hawaited : (w.chan e).awaited = (s.chan e).awaited := (congrArg EyeChan.awaited hchan :)
  have hmissed : (w.chan e).missed = (s.chan e).missed := (congrArg EyeChan.missed hchan :)
  rw [hoff, hboot] at heq
  have hlists := State.lists_accounted (w.checkLead e p.count) e p.count
  refine ⟨s.confirm e p, exec_eyeEdgeConfirm_of_due hr hm (State.fitted_of_isCheck hc) hb hp hrun, ?_,
    fun a r b ha hn hlt hle => ?_, fun a r b hnone ha hna hnb hn hlt hle => ?_, fun hnone hnone' => ?_⟩
  · obtain ⟨hst', -, -⟩ := s.fields_confirm e e p
    rw [hst', (s.chan_changeChan_self e p).1, hst, hrev]
    rfl
  · obtain ⟨-, hmem, hsize⟩ := hn
    have hna : r.id ∉ a := by
      rw [ha] at hnd
      exact fun h => (List.nodup_append.1 hnd).2.2 _ h _ List.mem_cons_self rfl
    have hnear : nearest (s.offset e) p.count (w.within (s.offset e) p.count s.boot.cts.tol (w.chan e).awaited)
        = some r := by
      rw [hawaited, ha]
      exact State.nearest_within hw (htrack ▸ hmem) hsize (fun q hq => hlt q (htrack ▸ hq))
        fun q hq => hle q (htrack ▸ hq)
    rw [hnear] at heq
    have htaken := takeAwaited_corrects (s := w) (x := p.count) (hawaited.trans ha) hna (htrack ▸ hmem)
    rw [State.confirm_check hc hst hrev, State.track_accounted, State.cause_accounted, hlists.1, hlists.2, heq]
    rw [hmissed, htrack, hoff, hcause] at htaken
    exact htaken
  · obtain ⟨-, hmem, hsize⟩ := hn
    have hnear : nearest (s.offset e) p.count
        (w.within (s.offset e) p.count (4 * s.boot.cts.tol) (w.chan e).missed) = some r := by
      rw [hmissed, ha]
      exact State.nearest_within hw (htrack ▸ hmem) hsize (fun q hq => hlt q (htrack ▸ hq))
        fun q hq => hle q (htrack ▸ hq)
    have hfilter : (w.chan e).missed.filter (· != r.id) = a ++ b := by
      have hne {l : List Nat} (h : r.id ∉ l) : l.filter (· != r.id) = l :=
        List.filter_eq_self.2 fun i hi => bne_iff_ne.2 fun (he : i = r.id) => h (he ▸ hi)
      rw [hmissed, ha, List.filter_append,
        List.filter_cons_of_neg (by simp), hne hna, hne hnb]
    rw [State.within_eq_nil fun q hq => hnone q (htrack ▸ hawaited ▸ hq), nearest_eq_none.2 rfl, hnear] at heq
    have htaken := takeMissed_corrects (s := w) (e := e) (x := p.count) (r := r) (htrack ▸ hmem) (a ++ b)
    rw [State.confirm_check hc hst hrev, State.track_accounted, State.cause_accounted, hlists.1, hlists.2, heq]
    dsimp only
    rw [hfilter]
    rw [hawaited, hoff, hcause] at htaken
    exact htaken
  · rw [State.within_eq_nil fun q hq => hnone q (htrack ▸ hawaited ▸ hq), nearest_eq_none.2 rfl,
      State.within_eq_nil fun q hq => hnone' q (htrack ▸ hmissed ▸ hq), nearest_eq_none.2 rfl] at heq
    have hstray : (w.strayAt e).chan e = w.chan e :=
      State.chan_congr (w.get_strayAt (b := .eyes) e (by decide) (by decide)) e
    rw [State.confirm_check hc hst hrev, State.track_accounted, State.cause_accounted, hlists.1, hlists.2, heq]
    dsimp only
    rw [hstray]
    refine ⟨(State.track_raise _ _ _).trans htrack, hawaited, hmissed, ?_⟩
    unfold State.strayAt
    rw [State.cause_raise, if_pos rfl]
    exact ⟨rfl, rfl⟩

end Sys2Proof.Machine

/-! # What the lead edge at ENTRY creates (R40, R41, R101) -/

namespace Sys2Proof.Machine

/-- A landing has ended, or a read has begun or not: the track, and every cause that the derived actions leave, are as
they were, and no slot but a freed one has changed. -/
def LandingEnds (s t : State) : Prop :=
  t.track = s.track ∧ (∀ c, derivedCause c = false → t.cause c = s.cause c)
    ∧ ∀ k, t.slot k = s.slot k ∨ t.slot k = none

section
variable (s : State) {i : Nat}

theorem LandingEnds.refl : LandingEnds s s := ⟨rfl, fun _ _ => rfl, fun _ => .inl rfl⟩

theorem State.endLanding_ends (i : Nat) (a : LandStatus) (k : Option RackNo) : LandingEnds s (s.endLanding i a k) := by
  refine ⟨State.get_endLanding (b := .track) _ _ _ _ (by decide) (by decide) (by decide), fun c hc => ?_, fun m => ?_⟩
  · unfold State.endLanding
    split
    · exact (State.cause_sendLanded _ _ _ _ _ _ hc).trans (State.cause_congr (State.att_setSlot _ _ _) c)
    · rfl
  · unfold State.endLanding
    split
    · next n _ _ _ _ =>
      refine (em (m = n)).symm.imp (fun h => ?_) fun h => ?_
      · exact (State.slot_sendLanded _ _ _ _ _ _ _).trans (State.slot_setSlot_other _ _ h)
      · subst h
        exact (State.slot_sendLanded _ _ _ _ _ _ _).trans (State.slot_setSlot_self _ _ _)
    · exact .inl rfl

theorem State.tagResult_none_ends (i : Nat) : LandingEnds s (s.tagResult i none) := by
  unfold State.tagResult
  split
  · exact .refl s
  · split
    · exact .refl s
    · next h => cases h
    · exact s.endLanding_ends _ _ _
    · next h => cases h

theorem State.readDue_ends (i : Nat) : LandingEnds s (s.readDue i) := by
  unfold State.readDue
  split
  · split
    · exact ⟨rfl, fun _ _ => rfl, fun m => by cases m <;> exact .inl rfl⟩
    · exact s.tagResult_none_ends i
  · exact .refl s

theorem State.slotOf_congr {t : State} (h : t.en = s.en) (i : Nat) : t.slotOf i = s.slotOf i := by
  unfold State.slotOf
  rw [h]

/-! ### The record on the track -/

variable {s} {r : Rec}

theorem State.recOf_append {l : List Rec} (ht : s.track = l ++ [r]) (hl : ∀ q ∈ l, q.id ≠ r.id) :
    s.recOf r.id = some r := by
  unfold State.recOf
  rw [ht, List.find?_append, List.find?_eq_none.2 fun q hq => by simpa using hl q hq]
  simp

/-- The derived actions leave a record what they keep. -/
theorem State.recOf_of_kept {t : State} (h : t.kept = s.kept) (hr : s.recOf i = some r) :
    ∃ q, t.recOf i = some q ∧ q.kept = r.kept := by
  have hfind (u : State) : (u.recOf i).map Rec.kept = (u.track.map Rec.kept).find? (·.id == i) := by
    rw [List.find?_map]
    rfl
  have hmap : (t.recOf i).map Rec.kept = some r.kept := by
    rw [hfind, State.kept_track_eq _ _ h, ← hfind, hr]
    rfl
  obtain ⟨q, hq, hk⟩ := Option.map_eq_some_iff.1 hmap
  exact ⟨q, hq, hk⟩

theorem State.recOf_updRec {f : Rec → Rec} (hf : ∀ x, (f x).id = x.id) (hr : s.recOf i = some r) :
    (s.updRec i f).recOf i = some (f r) := by
  let g := fun x : Rec => if x.id = i then f x else x
  have hg : (fun x : Rec => x.id == i) ∘ g = fun x => x.id == i := by
    funext x
    by_cases hx : x.id = i <;> simp [g, hx, hf]
  show (s.track.map g).find? _ = _
  rw [List.find?_map, hg, show s.track.find? (fun x => x.id == i) = some r from hr]
  exact congrArg some (if_pos (State.mem_of_recOf hr).2)

theorem State.recOf_congr {t : State} (h : t.track = s.track) (i : Nat) : t.recOf i = s.recOf i := by
  unfold State.recOf
  rw [h]

/-- A number for a record that stands is its number, or is refused as a duplicate (R42). -/
theorem State.recOf_setNumber (hr : s.recOf i = some r) (n : RackNo) :
    ∃ q, (s.setNumber i n).recOf i = some q
      ∧ (q = { r with number := n } ∨ q = Rec.flagged { r with number := notag } { duplicate := true }) := by
  unfold State.setNumber
  split
  · refine ⟨_, ?_, .inr rfl⟩
    rw [State.recOf_congr (State.track_raise _ _ _)]
    exact State.recOf_updRec (fun _ => rfl) (State.recOf_updRec (fun _ => rfl) hr)
  · exact ⟨_, State.recOf_updRec (fun _ => rfl) hr, .inl rfl⟩

theorem State.cause_setNumber (n : RackNo) {c : Cause} (hc : c ≠ .tagMismatch) :
    (s.setNumber i n).cause c = s.cause c := by
  unfold State.setNumber
  split
  · rw [State.cause_raise, if_neg hc]
    rfl
  · rfl

theorem State.length_setNumber (n : RackNo) : (s.setNumber i n).track.length = s.track.length := by
  unfold State.setNumber
  split
  · rw [State.track_raise]
    exact (List.length_map _).trans (List.length_map _)
  · exact List.length_map _

/-! ### The route of a new record (R114) -/

variable {l : List Rec}

theorem State.track_updRec_last (ht : s.track = l ++ [r]) (hl : ∀ q ∈ l, q.id ≠ r.id) (f : Rec → Rec) :
    (s.updRec r.id f).track = l ++ [f r] := by
  show (s.track.map fun q => if q.id = r.id then f q else q) = _
  have hother : (l.map fun q => if q.id = r.id then f q else q) = l :=
    (List.map_congr_left (g := id) fun q hq => if_neg (hl q hq)).trans (List.map_id l)
  rw [ht, List.map_append, List.map_singleton, if_pos rfl, hother]

/-- A route changes the steered-by of its record alone. -/
theorem State.track_takeRoute (ht : s.track = l ++ [r]) (hl : ∀ q ∈ l, q.id ≠ r.id) (rt : Route) :
    ∃ st, (s.takeRoute r.id rt).track = l ++ [{ r with steeredBy := st }] := by
  unfold State.takeRoute
  dsimp only
  split
  · exact ⟨_, State.track_updRec_last (s := { s with gate := _ }) ht hl _⟩
  · exact ⟨r.steeredBy, ht⟩

theorem State.track_routed (ht : s.track = l ++ [r]) (hl : ∀ q ∈ l, q.id ≠ r.id) (rt : Option Route) :
    ∃ st, (s.routed r.id rt).track = l ++ [{ r with steeredBy := st }]
      ∧ (s.hasRole .divert = false → st = r.steeredBy) := by
  unfold State.routed
  split
  · next hd =>
    obtain ⟨st, h⟩ := State.track_takeRoute ht hl _
    exact ⟨st, h, fun hn => absurd (hd.symm.trans hn) Bool.noConfusion⟩
  · exact ⟨r.steeredBy, ht, fun _ => rfl⟩

theorem State.track_strayRouted (ht : s.track = l ++ [r]) (hl : ∀ q ∈ l, q.id ≠ r.id) :
    ∃ st, (s.strayRouted r.id).track = l ++ [{ r with steeredBy := st }]
      ∧ (s.hasRole .divert = false → st = r.steeredBy) := by
  have hres : (s.resolve classUnknown).1.track = s.track :=
    State.get_resolve (b := .track) _ _ (by decide) (by decide) (by decide)
  unfold State.strayRouted
  split
  · next hd =>
    obtain ⟨st, h⟩ := State.track_takeRoute (hres.trans ht) hl _
    exact ⟨st, h, fun hn => absurd (hd.symm.trans hn) Bool.noConfusion⟩
  · exact ⟨r.steeredBy, ht, fun _ => rfl⟩

/-! ### The STRAY (R41) -/

/-- A rack that no slot expects stands at the rear of the track as a STRAY. -/
theorem createStray_appends (hs : ∀ q ∈ s.track, q.id < s.nextId) (x : Count) :
    ∃ st, (s.createStray x).track.map Rec.kept =
        s.track.map Rec.kept ++ [Rec.kept { s.strayRec x with steeredBy := st }]
      ∧ (s.hasRole .divert = false → st = 0) := by
  have hboot : (s.enroll (s.strayRec x)).boot = s.boot := s.get_enroll (b := .boot) _ (by decide) (by decide) (by decide)
  obtain ⟨st, ht, hst⟩ := State.track_strayRouted (s.track_enroll (s.strayRec x)) fun q hq => (hs q hq).ne
  refine ⟨st, ?_, fun h => hst ?_⟩
  · have hread := ((s.enrollStray x).readDue_ends s.nextId).1
    have hstray : (s.enrollStray x).track = _ := State.track_raise _ _ _
    have hroute : ((s.enroll (s.strayRec x)).strayRouted s.nextId).track = _ := ht
    rw [State.createStray_eq, hread, hstray, State.kept_track_eq _ _ (State.kept_rehead _), hroute, List.map_append,
      List.map_singleton]
  · unfold State.hasRole
    rw [hboot]
    exact h

/-! ### The record of a RESERVED slot (R40, R101) -/

/-- One record more stands on the track, with what the image of a slot says, and the slot is no longer RESERVED. -/
def RecordMade (s : State) (x : Count) (n : SlotName) (y : Slot) (t : State) : Prop :=
  t.track.length = s.track.length + 1
    ∧ ∃ q : Rec, t.recOf s.nextId = some q
      ∧ q.front = x ∧ q.cls = y.image.cls ∧ q.origin = y.image.origin ∧ q.hop = satSucc y.image.hop
      ∧ (s.hasRole .divert = false → q.steeredBy = y.image.steeredBy)
      ∧ q.entry = some ⟨y.port, y.serial⟩ ∧ q.entryOpen = true ∧ q.residence = 0
      ∧ (q.number = y.image.number ∨ q.number = notag ∧ q.flags.duplicate = true)
      ∧ (∀ z, t.slot n = some z → z.reserved = false)
      ∧ (s.boot.prof.hopLimit < q.hop.val → (t.cause .circling).st = .pending
          ∧ (t.cause .circling).detail = BitVec.ofNat 16 y.image.number.val)
      ∧ (q.hop.val ≤ s.boot.prof.hopLimit → t.cause .circling = s.cause .circling)

theorem RecordMade.congr {x : Count} {n : SlotName} {y : Slot} {t u : State} (h : RecordMade s x n y t)
    (ht : u.track = t.track) (hc : u.cause .circling = t.cause .circling)
    (hslot : ∀ z, u.slot n = some z → t.slot n = some z) : RecordMade s x n y u := by
  obtain ⟨hlen, q, hq, hf, hc₁, ho, hh, hst, he, hopen, hres, hnum, hsl, hlim, hlim'⟩ := h
  refine ⟨ht ▸ hlen, q, (State.recOf_congr ht _).trans hq, hf, hc₁, ho, hh, hst, he, hopen, hres, hnum,
    fun z hz => hsl z (hslot z hz), ?_, ?_⟩
  · rwa [hc]
  · rwa [hc]

/-- The record stands with its route and as head where it is the front-most, before the hop limit is tested. -/
def State.standSlot (s : State) (n : SlotName) (x : Slot) (front : Count) : State :=
  (((s.setSlot n (some { x with landing := some s.nextId })).enroll (s.slotRec x front)).routed s.nextId x.route).rehead

theorem State.numberSlot_eq (n : SlotName) (y : Slot) (x : Count) :
    s.numberSlot n y x = ((s.standSlot n y x).hopTest s.nextId).setNumber s.nextId y.image.number := rfl

theorem State.standSlot_stands (hs : ∀ q ∈ s.track, q.id < s.nextId) (n : SlotName) (y : Slot) (x : Count) :
    (s.standSlot n y x).track.length = s.track.length + 1
      ∧ ∃ q st, (s.standSlot n y x).recOf s.nextId = some q ∧ q.kept = Rec.kept { s.slotRec y x with steeredBy := st }
        ∧ (s.hasRole .divert = false → st = y.image.steeredBy) := by
  let t := (s.setSlot n (some { y with landing := some s.nextId })).enroll (s.slotRec y x)
  have htrack : (s.setSlot n (some { y with landing := some s.nextId })).track = s.track := State.track_setSlot _ _ _
  have hboot : t.boot = s.boot :=
    (State.get_enroll (b := .boot) _ _ (by decide) (by decide) (by decide)).trans (State.boot_setSlot _ _ _)
  obtain ⟨st, ht, hst⟩ := State.track_routed (s := t) (r := s.slotRec y x) (l := s.track)
    ((State.track_enroll _ _).trans (by rw [htrack])) (fun q hq => (hs q hq).ne) y.route
  have hne : ∀ q ∈ s.track, q.id ≠ s.nextId := fun q hq => (hs q hq).ne
  obtain ⟨q, hq, hk⟩ := State.recOf_of_kept (State.kept_rehead (t.routed s.nextId y.route))
    (State.recOf_append (r := { s.slotRec y x with steeredBy := st }) ht hne)
  refine ⟨?_, q, st, hq, hk, fun h => hst ?_⟩
  · have hlen := congrArg List.length (State.kept_track_eq _ _ (State.kept_rehead (t.routed s.nextId y.route)))
    rw [List.length_map, List.length_map, show (t.routed s.nextId y.route).track = _ from ht] at hlen
    exact hlen.trans (by simp)
  · unfold State.hasRole
    rw [hboot]
    exact h

theorem State.still_standSlot (n : SlotName) (y : Slot) (x : Count) :
    (s.standSlot n y x).boot = s.boot ∧ (s.standSlot n y x).slot n = some { y with landing := some s.nextId }
      ∧ (s.standSlot n y x).cause .circling = s.cause .circling := by
  let t := s.setSlot n (some { y with landing := some s.nextId })
  have hget {b : Block} (h : b = .boot ∨ b = .en ∨ b = .att) :
      ((t.enroll (s.slotRec y x)).routed s.nextId y.route).get b = t.get b := by
    rcases h with rfl | rfl | rfl <;>
      exact (State.get_routed _ _ _ (by decide) (by decide)).trans
        (State.get_enroll _ _ (by decide) (by decide) (by decide))
  refine ⟨?_, ?_, ?_⟩
  · exact (State.get_rehead (b := .boot) _ (by decide) (by decide) (by decide) (by decide) (by decide)).trans <|
      (hget (b := .boot) (.inl rfl)).trans (State.boot_setSlot _ _ _)
  · have hen : (s.standSlot n y x).en = t.en :=
      (State.get_rehead (b := .en) _ (by decide) (by decide) (by decide) (by decide) (by decide)).trans
        (hget (b := .en) (.inr (.inl rfl)))
    have hslot : t.slot n = _ := State.slot_setSlot_self _ _ _
    rw [← hslot]
    cases n <;> simp only [State.slot, hen]
  · exact (State.kept_cause_eq _ _ (State.kept_rehead _) .circling rfl).trans <|
      State.cause_congr ((hget (b := .att) (.inr (.inr rfl))).trans (State.att_setSlot _ _ _)) _

/-- A hop count above the limit raises CIRCLING with the record's number (R148). -/
theorem State.hopTest_tests (hr : s.recOf i = some r) :
    (s.hopTest i).track = s.track ∧ (∀ n, (s.hopTest i).slot n = s.slot n)
      ∧ (s.boot.prof.hopLimit < r.hop.val → ((s.hopTest i).cause .circling).st = .pending
          ∧ ((s.hopTest i).cause .circling).detail = BitVec.ofNat 16 r.number.val)
      ∧ (r.hop.val ≤ s.boot.prof.hopLimit → (s.hopTest i).cause .circling = s.cause .circling) := by
  unfold State.hopTest
  rw [hr]
  dsimp only
  split
  · next h =>
    have hen (c : Cause) (d : Nat) : (s.raise c d).en = s.en := State.get_raise (b := .en) _ _ _ (by decide) (by decide)
    refine ⟨State.track_raise _ _ _, fun n => ?_, fun _ => ?_, fun hn => absurd h (Nat.not_lt.2 hn)⟩
    · cases n <;> simp only [State.slot, hen]
    · rw [State.cause_raise, if_pos rfl]
      exact ⟨rfl, rfl⟩
  · next h => exact ⟨rfl, fun _ => rfl, fun hn => absurd hn h, fun _ => rfl⟩

theorem State.slot_setNumber (s : State) (i : Nat) (k : RackNo) (n : SlotName) : (s.setNumber i k).slot n = s.slot n := by
  unfold State.setNumber
  split
  · have hen (t : State) (c : Cause) (d : Nat) : (t.raise c d).en = t.en :=
      State.get_raise (b := .en) _ _ _ (by decide) (by decide)
    cases n <;> simp only [State.slot, hen] <;> rfl
  · cases n <;> rfl

theorem createFromSlot_makes (hs : ∀ q ∈ s.track, q.id < s.nextId) (n : SlotName) (y : Slot) (x : Count) :
    RecordMade s x n y (s.createFromSlot n y x) := by
  obtain ⟨hlen, q, st, hq, hk, hst⟩ := State.standSlot_stands hs n y x
  obtain ⟨hboot, hslot, hcirc⟩ := s.still_standSlot n y x
  obtain ⟨htrack, hslots, hover, hwithin⟩ := State.hopTest_tests hq
  obtain ⟨z, hz, hnum⟩ := State.recOf_setNumber ((State.recOf_congr htrack _).trans hq) y.image.number
  have hqnum : q.number = y.image.number := (congrArg Rec.number hk :)
  have hqhop : q.hop = satSucc y.image.hop := (congrArg Rec.hop hk :)
  have hkeep : z.front = q.front ∧ z.cls = q.cls ∧ z.origin = q.origin ∧ z.hop = q.hop ∧ z.steeredBy = q.steeredBy
      ∧ z.entry = q.entry ∧ z.entryOpen = q.entryOpen ∧ z.residence = q.residence := by
    rcases hnum with rfl | rfl <;> exact ⟨rfl, rfl, rfl, rfl, rfl, rfl, rfl, rfl⟩
  obtain ⟨hfront, hcls, horg, hhop, hsteer, hentry, hopen, hresid⟩ := hkeep
  have hmade : RecordMade s x n y (s.numberSlot n y x) := by
    rw [State.numberSlot_eq]
    refine ⟨?_, z, hz, hfront.trans (congrArg Rec.front hk :), hcls.trans (congrArg Rec.cls hk :),
      horg.trans (congrArg Rec.origin hk :), hhop.trans hqhop, fun h => ?_, hentry.trans (congrArg Rec.entry hk :),
      hopen.trans (congrArg Rec.entryOpen hk :), hresid.trans (congrArg Rec.residence hk :), ?_, fun w hw => ?_,
      fun h => ?_, fun h => ?_⟩
    · rw [State.length_setNumber, htrack, hlen]
    · exact (hsteer.trans (congrArg Rec.steeredBy hk :)).trans (hst h)
    · rcases hnum with rfl | rfl
      · exact .inl rfl
      · exact .inr ⟨rfl, by simp [Rec.flagged, Flags.union]⟩
    · rw [State.slot_setNumber, hslots, hslot] at hw
      cases hw
      rfl
    · rw [hhop, ← hboot] at h
      rw [State.cause_setNumber _ (by decide), ← hqnum]
      exact hover h
    · rw [hhop, ← hboot] at h
      rw [State.cause_setNumber _ (by decide), hwithin h, hcirc]
  have hend {t : State} (h : LandingEnds (s.numberSlot n y x) t) : RecordMade s x n y t :=
    hmade.congr h.1 (h.2.1 _ rfl) fun w hw => (h.2.2 n).elim (fun he => he ▸ hw) fun he => by
      rw [he] at hw
      cases hw
  rw [State.createFromSlot_eq]
  split
  · exact hend (State.readDue_ends _ _)
  · exact hend (State.endLanding_ends _ _ _ _)

end

/-! ### The lead edge at ENTRY, as it is confirmed -/

section
variable {s : State} {p : PendEdge}

/-- The state in which the ENTRY lead edge finds the track: the channel is BLOCKED, and the count is captured (R22). -/
def State.leadSeen (s : State) (p : PendEdge) : State :=
  let t := s.setChan .entry (s.edgeChan .entry p)
  { t with eyes := { t.eyes with lead := some p.count, leadFresh := true } }

theorem State.confirm_entry_lead (hst : s.eyes.entry.st = .clear) (hrev : p.reverse = false) :
    s.confirm .entry p = ((s.leadSeen p).entryLead p.count).accounted .entry p.count := by
  rw [State.confirm_eq, State.delivered_of_lead (e := .entry) hst hrev]
  rfl

/-- The capture stands after the delivery (R22). -/
theorem State.captures_entryLead (hst : s.eyes.entry.st = .clear) (hrev : p.reverse = false) :
    (s.confirm .entry p).eyes.lead = some p.count ∧ (s.confirm .entry p).eyes.leadFresh = true := by
  obtain ⟨hl, hf⟩ := State.captures_of_sensed (State.sensed_entryLead (s.leadSeen p) p.count)
  obtain ⟨hl', hf', -, -⟩ := State.captures_accounted ((s.leadSeen p).entryLead p.count) .entry p.count
  rw [State.confirm_entry_lead hst hrev]
  exact ⟨hl'.trans hl, hf'.trans hf⟩

theorem State.slot_accounted (s : State) (e : Eye) (x : Count) (n : SlotName) : (s.accounted e x).slot n = s.slot n := by
  have hen : (s.accounted e x).en = s.en := s.get_accounted (b := .en) e x (by decide)
  cases n <;> simp only [State.slot, hen]

theorem State.captures_of_kept {t : State} (h : t.kept = s.kept) :
    t.eyes.lead = s.eyes.lead ∧ t.eyes.leadFresh = s.eyes.leadFresh :=
  ⟨(congrArg (fun u : State => u.eyes.lead) h :), (congrArg (fun u : State => u.eyes.leadFresh) h :)⟩

theorem State.oldestReserved_of_free (ha : s.en.slotA = none) (hb : s.en.slotB = none) : s.oldestReserved = none := by
  have hslot : ∀ n, s.slot n = none := fun n => by
    cases n
    · exact ha
    · exact hb
  unfold State.oldestReserved
  simp only [hslot]

end

/-- Settles O12: without a slot the STRAY stands at the rear; with a RESERVED one its record does, numbered and tested
against the hop limit. -/
theorem entryLeadCreatesARecord : Obligations.EntryLeadCreatesARecord := by
  unfold Obligations.EntryLeadCreatesARecord
  refine ⟨fun s p hr hm hl hb hp hrun hst hrev hroom ha hb' hs => ?_, fun s x n y hfull hres hs => ?_⟩
  · obtain ⟨st, hkept, hsteer⟩ := createStray_appends (s := s.leadSeen p) hs.2 p.count
    obtain ⟨hlead, hfresh⟩ := State.captures_entryLead hst hrev
    have hcreate : (s.leadSeen p).entryLead p.count = (s.leadSeen p).createStray p.count := by
      have hnone : (s.leadSeen p).oldestReserved = none := State.oldestReserved_of_free ha hb'
      have hfull : (s.leadSeen p).trackFull = false := decide_eq_false (Nat.not_le.2 hroom)
      unfold State.entryLead
      rw [hfull, hnone]
      rfl
    have hk := (s.confirm .entry p).kept_settle
    refine ⟨(s.confirm .entry p).settle, { s.strayRec p.count with steeredBy := st },
      exec_eyeEdgeConfirm_of_due hr hm (State.fitted_entry hl) hb hp hrun, ?_, rfl, rfl, rfl, rfl, rfl, rfl, rfl, rfl,
      hsteer, rfl, rfl, rfl, ?_, ?_⟩
    · rw [State.kept_track_eq _ _ hk, State.confirm_entry_lead hst hrev, State.track_accounted, hcreate]
      exact hkept
    · exact (State.captures_of_kept hk).1.trans hlead
    · exact (State.captures_of_kept hk).2.trans hfresh
  · have hcreate : ∀ t : State, t.trackFull = false → t.oldestReserved = some (n, y) →
        t.entryLead x = t.createFromSlot n y x := fun t hf ho => by
      unfold State.entryLead
      rw [hf, ho]
      rfl
    refine ⟨fun p hr hm hl hb hp hrun hst hrev hx => ⟨s.confirm .entry p,
      exec_eyeEdgeConfirm_of_due hr hm (State.fitted_entry hl) hb hp hrun, ?_, ?_⟩, ?_⟩
    · have hmade : RecordMade s x n y ((s.leadSeen p).createFromSlot n y x) :=
        createFromSlot_makes (s := s.leadSeen p) hs n y x
      rw [← hcreate (s.leadSeen p) hfull hres, ← hx] at hmade
      rw [State.confirm_entry_lead hst hrev]
      exact hx ▸ hmade.congr (State.track_accounted _ _ _) (State.cause_accounted _ _ _ _)
        fun z hz => (State.slot_accounted _ _ _ _).symm.trans hz
    · exact hx ▸ State.captures_entryLead hst hrev
    · rw [hcreate s hfull hres]
      exact createFromSlot_makes hs n y x

end Sys2Proof.Machine

/-! # Heard wants (R140, R141) -/

namespace Sys2Proof.Machine

/-- The heard wants after one more is heard: the station's entry is made anew. -/
def hearWant (ws : List HeardWant) (e : HeardWant) : List HeardWant :=
  if ws.any (fun w => w.station == e.station) then ws.map fun w => if w.station = e.station then e else w
  else ws ++ [e]

theorem hearWant_hears (ws : List HeardWant) (e : HeardWant) :
    e ∈ hearWant ws e ∧ (∀ w ∈ hearWant ws e, w.station = e.station → w = e)
      ∧ (hearWant ws e).filter (fun w => w.station != e.station) = ws.filter fun w => w.station != e.station := by
  unfold hearWant
  split
  · next h =>
    obtain ⟨w, hw, he⟩ := List.any_eq_true.1 h
    refine ⟨List.mem_map.2 ⟨w, hw, if_pos (beq_iff_eq.1 he)⟩, fun x hx hs => ?_, ?_⟩
    · obtain ⟨y, -, rfl⟩ := List.mem_map.1 hx
      by_cases hy : y.station = e.station
      · rw [if_pos hy]
      · rw [if_neg hy] at hs
        exact absurd hs hy
    · clear h hw
      induction ws with
      | nil => rfl
      | cons y ws ih =>
        rw [List.map_cons, List.filter_cons, List.filter_cons, ih]
        by_cases hy : y.station = e.station <;> simp [hy]
  · next h =>
    have hne : ∀ w ∈ ws, w.station ≠ e.station := fun w hw he => h (List.any_eq_true.2 ⟨w, hw, beq_iff_eq.2 he⟩)
    refine ⟨by simp, fun w hw hs => ?_, by simp⟩
    rcases List.mem_append.1 hw with hw | hw
    · exact absurd hs (hne w hw)
    · exact List.mem_singleton.1 hw

section
variable {s : State} {h : Hdr}

theorem State.steers_congr {t : State} (hb : t.boot = s.boot) : t.steers = s.steers := by
  unfold State.steers State.hasRole
  rw [hb]

theorem State.loaders_congr {t : State} (hb : t.boot = s.boot) (b : DownPort) : t.loaders b = s.loaders b := by
  cases b <;> simp only [State.loaders, hb]

theorem State.onWant_hears (hst : s.steers = true) {x : Station} (hx : x ≠ 0)
    (hl : ((s.loaders .d0).contains x || (s.loaders .d1).contains x) = true) (n : Fin 16) :
    s.onWant x n = { s with rt := { s.rt with wants := hearWant s.rt.wants ⟨x, n, s.line.tick, true⟩ } } := by
  unfold State.onWant
  rw [if_pos (by rw [hst, hl, bne_iff_ne.2 hx]; rfl)]
  rfl

theorem State.onWant_ignores {x : Station} (h : s.steers = false
    ∨ (s.loaders .d0).contains x = false ∧ (s.loaders .d1).contains x = false) (n : Fin 16) : s.onWant x n = s := by
  unfold State.onWant
  rw [if_neg]
  rcases h with h | ⟨h, h'⟩
  · simp [h]
  · rw [h, h']
    simp

theorem exec_want_of_hears (hh : s.Hears h) (n : Fin 16) :
    exec (.want h n) s = .next ((s.refresh h.src).onWant h.src n).settle := State.receive_of_hears hh (.want n)

theorem State.rt_refresh (s : State) (x : Station) : (s.refresh x).rt = s.rt :=
  State.get_refresh_of_ne (b := .rt) s x (by decide) (by decide)

theorem want_isHeard (hh : s.Hears h) (hst : s.steers = true)
    (hl : ((s.loaders .d0).contains h.src || (s.loaders .d1).contains h.src) = true) (n : Fin 16) :
    ∃ t, exec (.want h n) s = .next t
      ∧ (⟨h.src, n, s.line.tick, true⟩ : HeardWant) ∈ t.rt.wants
      ∧ (∀ w ∈ t.rt.wants, w.station = h.src → w = ⟨h.src, n, s.line.tick, true⟩)
      ∧ (t.rt.wants.filter fun w => w.station != h.src) = s.rt.wants.filter fun w => w.station != h.src := by
  have hboot := s.boot_refresh h.src
  refine ⟨_, exec_want_of_hears hh n, ?_⟩
  rw [State.kept_wants_eq _ _ (State.kept_settle _), State.onWant_hears ((State.steers_congr hboot).trans hst) hh.2.2.2.1
    (by rw [State.loaders_congr hboot, State.loaders_congr hboot]; exact hl)]
  dsimp only
  rw [State.rt_refresh, State.tick_refresh]
  exact hearWant_hears _ ⟨h.src, n, s.line.tick, true⟩

theorem want_isIgnored (hh : s.Hears h) (hst : s.steers = false
    ∨ (s.loaders .d0).contains h.src = false ∧ (s.loaders .d1).contains h.src = false) (n : Fin 16) :
    exec (.want h n) s = .next (State.settle (s.refresh h.src)) := by
  have hboot := s.boot_refresh h.src
  rw [exec_want_of_hears hh, State.onWant_ignores]
  rw [State.steers_congr hboot, State.loaders_congr hboot, State.loaders_congr hboot]
  exact hst

theorem exec_wantExpiry_eq (s : State) (l : Station) : exec (.wantExpiry l) s = live s (s.doWantExpiry l) := rfl

theorem wantExpiry_expires {l : Station} {w : HeardWant} (hr : s.Runs) (hw : w ∈ s.rt.wants) (hl : w.station = l)
    (hf : w.fresh = true) (ht : s.boot.prof.wantExpiry ≤ (s.line.tick - w.heardAt).toNat) :
    ∃ t, exec (.wantExpiry l) s = .next t
      ∧ t.rt.wants = s.rt.wants.map (fun x =>
          if x.station = l ∧ x.fresh = true
              ∧ s.boot.prof.wantExpiry ≤ (s.line.tick - x.heardAt).toNat
            then { x with fresh := false } else x)
      ∧ t.cu = s.cu ∧ t.line.tick = s.line.tick := by
  have hiff (x : HeardWant) : (x.station == l && s.lapsed x) = true ↔ x.station = l ∧ x.fresh = true
      ∧ s.boot.prof.wantExpiry ≤ (s.line.tick - x.heardAt).toNat := by
    simp only [State.lapsed, State.since, Bool.and_eq_true, beq_iff_eq]
    exact and_congr_right fun _ => and_congr_right fun _ => decide_eq_true_iff
  have hany : s.rt.wants.any (fun w => w.station == l && s.lapsed w) = true :=
    List.any_eq_true.2 ⟨w, hw, (hiff w).2 ⟨hl, hf, ht⟩⟩
  rw [exec_wantExpiry_eq, live_of_runs hr, State.doWantExpiry, if_pos hany]
  refine ⟨_, rfl, ?_, ?_, ?_⟩
  · rw [State.kept_wants_eq _ _ (State.kept_settle _)]
    refine List.map_congr_left fun x _ => ?_
    by_cases hx : (x.station == l && s.lapsed x) = true
    · rw [if_pos hx, if_pos ((hiff x).1 hx)]
    · rw [if_neg hx, if_neg ((hiff x).not.1 hx)]
  · rw [State.settle_cu]
  · rw [State.tick_settle]

end

/-! # Steered lists (R144, R145) -/

theorem addSteered_adds (l : List Steered) (x : Steered) (hl : l.length ≤ 8) :
    (addSteered l x).length ≤ 8 ∧ (addSteered l x).getLast? = some x
      ∧ (x.number ≠ notag → ∀ y ∈ addSteered l x, y.number = x.number → y = x)
      ∧ (x.number = notag ∨ (∀ y ∈ l, y.number ≠ x.number) →
          addSteered l x = (if l.length < 8 then l else l.drop 1) ++ [x])
      ∧ (∀ y ∈ l, y.number = x.number → x.number ≠ notag →
          addSteered l x = (l.filter fun z => z.number != x.number) ++ [x]) := by
  let m := if x.number = notag then l else l.filter fun y => y.number != x.number
  have hadd : addSteered l x = (if m.length < 8 then m else m.drop 1) ++ [x] := rfl
  have hm : m.length ≤ 8 := by
    simp only [m]
    split
    · exact hl
    · exact (List.length_filter_le _ _).trans hl
  refine ⟨?_, ?_, fun hn y hy he => ?_, fun h => ?_, fun y hy he hn => ?_⟩
  · rw [hadd, List.length_append, List.length_singleton]
    split
    · omega
    · rw [List.length_drop]
      omega
  · rw [hadd, List.getLast?_append]
    rfl
  · have hmem : ∀ z ∈ (if m.length < 8 then m else m.drop 1), z ∈ m := fun z hz => by
      split at hz
      · exact hz
      · exact List.mem_of_mem_drop hz
    rw [hadd] at hy
    rcases List.mem_append.1 hy with hy | hy
    · have h := hmem y hy
      simp only [m, if_neg hn] at h
      exact absurd he (bne_iff_ne.1 (List.mem_filter.1 h).2)
    · exact List.mem_singleton.1 hy
  · have hml : m = l := by
      simp only [m]
      split
      · rfl
      · next hn => exact List.filter_eq_self.2 fun y hy => bne_iff_ne.2 (h.resolve_left hn y hy)
    rw [hadd, hml]
  · have hlt : m.length < 8 := by
      simp only [m, if_neg hn]
      exact lt_of_lt_of_le (List.length_filter_lt_length_iff_exists.2 ⟨y, hy, by simpa using he⟩) hl
    rw [hadd, if_pos hlt]
    simp only [m, if_neg hn]

section
variable {s : State} {h : Hdr} {k : RackNo} {st : Station} {b : DownPort}

theorem exec_steerExpiry_eq (s : State) (b : DownPort) : exec (.steerExpiry b) s = live s (s.doSteerExpiry b) := rfl

theorem steerExpiry_expires {x : Steered} {l : List Steered} (hr : s.Runs) (hl : s.steered b = x :: l)
    (ht : s.boot.prof.steerExpiry * 100 ≤ (s.line.tick - x.sentAt).toNat) :
    exec (.steerExpiry b) s = .next (State.settle (s.setSteered b ((x :: l).dropWhile fun y =>
      decide (s.boot.prof.steerExpiry * 100 ≤ (s.line.tick - y.sentAt).toNat)))) := by
  rw [exec_steerExpiry_eq, live_of_runs hr, State.doSteerExpiry, hl]
  exact congrArg _ (if_pos (decide_eq_true ht))

/-! ### RACK-IN (R146) -/

theorem State.dropSteered_of_any {p : Steered → Bool} (h : (s.steered b).any p = true) :
    s.dropSteered b p = some (s.setSteered b ((s.steered b).eraseP p)) := by
  unfold State.dropSteered removeFirst
  rw [if_pos h]
  rfl

theorem State.dropSteered_of_none {p : Steered → Bool} (h : (s.steered b).any p = false) : s.dropSteered b p = none := by
  unfold State.dropSteered removeFirst
  rw [if_neg (by rw [h]; exact Bool.false_ne_true)]
  rfl

variable {x : Station}

/-- The list in which the number is sought first, and the number stands there. -/
theorem State.rackInSteered_of_first (hk : k ≠ notag) (hb : (s.senderBranch x).getD .d0 = b)
    (ha : (s.steered b).any (fun y => y.number == k) = true) :
    s.rackInSteered x k = s.setSteered b ((s.steered b).eraseP fun y => y.number == k) := by
  unfold State.rackInSteered
  dsimp only
  rw [hb, if_neg hk, State.dropSteered_of_any ha]

theorem State.rackInSteered_of_other (hk : k ≠ notag) (hb : (s.senderBranch x).getD .d0 = b)
    (hn : (s.steered b).any (fun y => y.number == k) = false)
    (ha : (s.steered (DownPort.other b)).any (fun y => y.number == k) = true) : s.rackInSteered x k =
      s.setSteered (DownPort.other b) ((s.steered (DownPort.other b)).eraseP fun y => y.number == k) := by
  unfold State.rackInSteered
  dsimp only
  rw [hb, if_neg hk, State.dropSteered_of_none hn, State.dropSteered_of_any ha]

/-- With no number, or one that stands in neither list, the sender's branch loses its oldest entry without one. -/
theorem State.rackInSteered_unnamed (h : k = notag ∨ ∀ b, (s.steered b).any (fun y => y.number == k) = false) :
    s.rackInSteered x k = match s.senderBranch x with
      | none => s
      | some b => (s.dropSteered b (fun y => y.number == notag)).getD s := by
  unfold State.rackInSteered
  dsimp only
  by_cases hk : k = notag
  · rw [if_pos hk] <;> rfl
  · have hn := h.resolve_left hk
    rw [if_neg hk, State.dropSteered_of_none (hn _), State.dropSteered_of_none (hn _)] <;> rfl

theorem exec_rackIn_of_hears (hh : s.Hears h) (k : RackNo) (st : Station) :
    exec (.rackIn h k st) s = .next ((s.refresh h.src).onRackIn h.src k st).settle :=
  State.receive_of_hears hh (.rackIn k st)

theorem exec_rackIn_of_steered (hh : s.Hears h) (hs : s.steers = true) (hst : s.boot.station = some st) (k : RackNo) :
    exec (.rackIn h k st) s = .next ((s.refresh h.src).rackInSteered h.src k).settle := by
  have hboot := s.boot_refresh h.src
  rw [exec_rackIn_of_hears hh, State.onRackIn, if_pos]
  rw [State.steers_congr hboot, hs, hboot, hst]
  simp

theorem rackIn_isIgnored (hh : s.Hears h) (hs : s.steers = false ∨ s.boot.station ≠ some st) :
    exec (.rackIn h k st) s = .next (State.settle (s.refresh h.src)) := by
  have hboot := s.boot_refresh h.src
  rw [exec_rackIn_of_hears hh, State.onRackIn, if_neg]
  rw [State.steers_congr hboot, hboot]
  rcases hs with hs | hs <;> simp [hs]

theorem State.steered_refresh (s : State) (x : Station) (b : DownPort) : (s.refresh x).steered b = s.steered b := by
  cases b <;> simp only [State.steered, s.rt_refresh]

theorem State.senderBranch_refresh (s : State) (x y : Station) : (s.refresh x).senderBranch y = s.senderBranch y := by
  have hboot := s.boot_refresh x
  unfold State.senderBranch
  rw [State.loaders_congr hboot, State.loaders_congr hboot]

theorem any_number_iff {l : List Steered} {n : RackNo} :
    l.any (fun y => y.number == n) = true ↔ ∃ y ∈ l, y.number = n := by
  simp

theorem any_number_of_none {l : List Steered} {n : RackNo} (h : ¬∃ y ∈ l, y.number = n) :
    l.any (fun y => y.number == n) = false := Bool.eq_false_iff.2 (any_number_iff.not.2 h)

theorem rackIn_removesNumbered (hh : s.Hears h) (hs : s.steers = true) (hst : s.boot.station = some st)
    (hb : s.senderBranch h.src = some b) (hk : k ≠ notag) (ha : (s.steered b).any (fun x => x.number == k) = true) :
    ∃ u : State, exec (.rackIn h k st) s = .next u.settle
      ∧ u.steered b = (s.steered b).eraseP (fun x => x.number == k)
      ∧ u.steered (DownPort.other b) = s.steered (DownPort.other b)
      ∧ u.rt.wants = s.rt.wants ∧ u.track = s.track ∧ u.dr = s.dr ∧ u.en = s.en := by
  have hdrop := State.rackInSteered_of_first (s := s.refresh h.src) (x := h.src) (b := b) hk
    (by rw [State.senderBranch_refresh, hb]; rfl) (by rw [State.steered_refresh]; exact ha)
  refine ⟨_, exec_rackIn_of_steered hh hs hst k, ?_⟩
  have hwants : ((s.refresh h.src).rackInSteered h.src k).rt.wants = s.rt.wants := by
    rw [hdrop, ← s.rt_refresh h.src]
    cases b <;> rfl
  rw [hdrop] at hwants ⊢
  rw [State.steered_setSteered_self, State.steered_setSteered_other]
  refine ⟨by rw [State.steered_refresh], State.steered_refresh _ _ _, hwants, ?_⟩
  exact ⟨(State.track_setSteered _ _ _).trans (s.track_refresh _),
    (State.dr_setSteered _ _ _).trans (s.dr_refresh _), (State.en_setSteered _ _ _).trans (s.en_refresh _)⟩

/-- Where the number stands in the other list alone, where an entry without one is due, and where none is (R146). -/
theorem rackIn_cases (hh : s.Hears h) (hs : s.steers = true) (hst : s.boot.station = some st) :
    let v := s.refresh h.src
    let has (b : DownPort) (n : RackNo) : Prop := ∃ x ∈ s.steered b, x.number = n
    let drop (b : DownPort) (n : RackNo) : State := v.setSteered b ((s.steered b).eraseP fun x => x.number == n)
    let unnamed : Prop := k = notag ∨ ∀ b, ¬has b k
    s.senderBranch h.src = (if (s.loaders .d0).contains h.src then some .d0
      else if (s.loaders .d1).contains h.src then some .d1 else none)
    ∧ (∀ b, s.senderBranch h.src = some b → k ≠ notag → ¬has b k → has (DownPort.other b) k →
        exec (.rackIn h k st) s = .next (drop (DownPort.other b) k).settle)
    ∧ (∀ b, s.senderBranch h.src = some b → unnamed → has b notag →
        exec (.rackIn h k st) s = .next (drop b notag).settle)
    ∧ (∀ b, s.senderBranch h.src = some b → unnamed → ¬has b notag → exec (.rackIn h k st) s = .next v.settle)
    ∧ (s.senderBranch h.src = none →
        (k ≠ notag → has .d0 k → exec (.rackIn h k st) s = .next (drop .d0 k).settle)
        ∧ (k ≠ notag → ¬has .d0 k → has .d1 k → exec (.rackIn h k st) s = .next (drop .d1 k).settle)
        ∧ (unnamed → exec (.rackIn h k st) s = .next v.settle)) := by
  intro v has drop unnamed
  have hrt (b : DownPort) : v.steered b = s.steered b := s.steered_refresh h.src b
  have hbranch : v.senderBranch h.src = s.senderBranch h.src := s.senderBranch_refresh _ _
  have hnone (hu : unnamed) : v.rackInSteered h.src k = match s.senderBranch h.src with
      | none => v
      | some b => (v.dropSteered b (fun y => y.number == notag)).getD v := by
    rw [State.rackInSteered_unnamed (hu.imp_right fun hu b => any_number_of_none (hrt b ▸ hu b)), hbranch]
  rw [exec_rackIn_of_steered hh hs hst]
  refine ⟨if_neg hh.2.2.2.1, fun b hb hk hn ha => ?_, fun b hb hu ha => ?_, fun b hb hu hn => ?_, fun hb => ⟨fun hk ha => ?_,
    fun hk hn ha => ?_, fun hu => ?_⟩⟩
  · rw [State.rackInSteered_of_other (b := b) hk (by rw [hbranch, hb]; rfl) (any_number_of_none (hrt b ▸ hn))
      (any_number_iff.2 (hrt _ ▸ ha)), hrt]
  · rw [hnone hu, hb]
    dsimp only
    rw [State.dropSteered_of_any (any_number_iff.2 (hrt b ▸ ha)), hrt]
    rfl
  · rw [hnone hu, hb]
    dsimp only
    rw [State.dropSteered_of_none (any_number_of_none (hrt b ▸ hn))]
    rfl
  · rw [State.rackInSteered_of_first (b := .d0) hk (by rw [hbranch, hb]; rfl) (any_number_iff.2 (hrt .d0 ▸ ha)), hrt]
  · rw [State.rackInSteered_of_other (b := .d0) hk (by rw [hbranch, hb]; rfl) (any_number_of_none (hrt .d0 ▸ hn))
      (any_number_iff.2 (hrt .d1 ▸ ha)), hrt]
    rfl
  · rw [hnone hu, hb]

end

/-! # The want of a LOAD (R131, R132) -/

section
variable {s t : State}

theorem State.wantNow_congr (hb : t.boot = s.boot) (hs : ∀ n, t.slot n = s.slot n)
    (ht : t.track.map Rec.kept = s.track.map Rec.kept) : t.wantNow = s.wantNow := by
  have ha : t.en.slotA = s.en.slotA := hs .a
  have hb' : t.en.slotB = s.en.slotB := hs .b
  have hunder (i : Nat) : t.underSlot i = s.underSlot i := by
    unfold State.underSlot
    rw [ha, hb']
  have hlen := congrArg List.length (kept_filter (f := fun r => r.cls == classEmpty && !s.underSlot r.id)
    (fun x y h => by
      have hcls : x.cls = y.cls := (congrArg Rec.cls h :)
      rw [hcls, (Rec.kept_fields h).1]) ht)
  rw [List.length_map, List.length_map] at hlen
  unfold State.wantNow State.wantCount
  simp only [hunder, ha, hb', hb, hlen]

theorem State.wantStep_of_eq (h : s.wantNow = s.bay.want) : s.wantStep = s := by
  simp [State.wantStep, h]

theorem State.wantStep_of_ne (hl : s.hasRole .load = true) (h : s.wantNow ≠ s.bay.want) : s.wantStep =
    if s.boot.mode = .active then State.queueWant { s with bay := { s.bay with want := s.wantNow } }
    else { s with bay := { s.bay with want := s.wantNow } } := by
  unfold State.wantStep
  rw [if_pos (by rw [hl, bne_iff_ne.2 h]; rfl)]

theorem State.bay_queueWant (s : State) : s.queueWant.bay = s.bay := State.get_queueWant (b := .bay) _ (by decide)

theorem State.bay_wantStep (hl : s.hasRole .load = true) (h : s.wantNow ≠ s.bay.want) :
    s.wantStep.bay = { s.bay with want := s.wantNow } := by
  rw [State.wantStep_of_ne hl h]
  split
  · rw [State.bay_queueWant]
  · rfl

/-- The bay unit knows the want after it has followed the track. -/
theorem State.want_bayFollows (hl : s.hasRole .load = true) : s.bayFollows.bay.want = s.wantNow := by
  show s.wantStep.bay.want = _
  by_cases h : s.wantNow = s.bay.want
  · rw [State.wantStep_of_eq h, h]
  · rw [State.bay_wantStep hl h]

/-- A frame that coalesces is on its way where one of its kind waits or four entries are free (R166). -/
theorem State.sends_offerCoalesced {same : Payload → Bool} {f : Frame} (hc : s.canQueue = true)
    (hq : (∃ g ∈ s.line.queue, same g.payload = true) ∨ s.line.queue.length ≤ 12) : (s.offerCoalesced same f).Sends f := by
  by_cases ha : (s.line.queue.any fun g => same g.payload) = true
  · rw [State.offerCoalesced_of_waiting hc ha]
    obtain ⟨g, hg, hs⟩ := List.any_eq_true.1 ha
    exact State.sends_setQueue _ _ _ (List.mem_map.2 ⟨g, hg, if_pos hs⟩)
  · have hlen := hq.resolve_left fun ⟨g, hg, hs⟩ => ha (List.any_eq_true.2 ⟨g, hg, hs⟩)
    unfold State.offerCoalesced
    rw [if_neg (by simp [ha]), State.offerRoutine_of_free hc hlen]
    exact State.sends_setQueue _ _ _ (by simp)

theorem State.wantStep_sends (hl : s.hasRole .load = true) (h : s.wantNow ≠ s.bay.want) (hm : s.boot.mode = .active)
    (hc : s.canQueue = true)
    (hq : (∃ f ∈ s.line.queue, Payload.isWant f.payload = true) ∨ s.line.queue.length ≤ 12) :
    s.wantStep.Sends ⟨0, .want (Fin.ofNat 16 s.wantNow)⟩ := by
  rw [State.wantStep_of_ne hl h, if_pos hm]
  exact State.sends_offerCoalesced (s := { s with bay := { s.bay with want := s.wantNow } }) hc hq

/-! ### What follows the last time the bay unit looks at the track -/

theorem State.slot_congr (h : t.en = s.en) (n : SlotName) : t.slot n = s.slot n := by
  cases n <;> simp only [State.slot, h]

theorem State.slot_sendStalls (s : State) (n : SlotName) : s.sendStalls.slot n = s.slot n := by
  have hstall (t : State) (p : UpPort) : (if s.concerned p then
      State.sendPrompt (t.setStallMark p true) (s.upStation p) .stall else t).slot n = t.slot n := by
    split
    · refine (State.slot_congr (State.get_sendPrompt (b := .en) _ _ _ (by decide) (by decide)) n).trans ?_
      cases p <;> cases n <;> rfl
    · rfl
  unfold State.sendStalls
  exact (hstall _ _).trans (hstall _ _)

theorem State.slot_enterHold (s : State) (n : SlotName) : s.enterHold.slot n = s.slot n := by
  unfold State.enterHold
  dsimp only
  rw [State.slot_sendStalls, State.slot_congr (State.get_queueStatus (b := .en) _ (by decide)) n]
  split
  · exact State.slot_congr (State.get_leaveRun (b := .en) _ (by decide) (by decide) (by decide) (by decide)) n
  · rfl

theorem State.restrict3_slots (s : State) (n : SlotName) : s.restrict3.slot n = s.slot n := by
  have hw : s.withdrawHead.slot n = s.slot n :=
    State.slot_congr (State.get_withdrawHead (b := .en) _ (by decide) (by decide) (by decide) (by decide)) n
  unfold State.restrict3
  dsimp only
  split
  · split
    · exact hw
    · exact (State.slot_congr (State.get_updateTarget (b := .en) _ (by decide)) n).trans <|
        (State.slot_enterHold _ n).trans hw
  · rfl

theorem State.bay_restrict3 (s : State) : s.restrict3.bay = s.bay := by
  have hw : s.withdrawHead.bay = s.bay :=
    State.get_withdrawHead (b := .bay) _ (by decide) (by decide) (by decide) (by decide)
  unfold State.restrict3
  dsimp only
  split
  · split
    · exact hw
    · exact (State.get_updateTarget (b := .bay) _ (by decide)).trans <|
        (State.get_enterHold (b := .bay) _ (by decide) (by decide) (by decide) (by decide) (by decide)).trans hw
  · rfl

theorem State.wantNow_finish (s : State) : s.finish.wantNow = s.wantNow :=
  State.wantNow_congr (State.get_finish (b := .boot) _ rfl) s.restrict3_slots
    (State.kept_track_eq _ _ s.kept_finish)

theorem State.want_finish (s : State) : s.finish.bay.want = s.bay.want := by
  show s.restrict3.bay.want = s.bay.want
  rw [State.bay_restrict3]

/-- A pass ends with the bay unit's look at the track: its want is that of the track (R131). -/
theorem State.want_pass (b : Bool) (hl : s.hasRole .load = true) : (s.pass b).bay.want = (s.pass b).wantNow := by
  obtain ⟨t, ht⟩ : ∃ t : State, s.pass b = t.bayFollows.unaccountedStep := ⟨_, rfl⟩
  have hget {k : Block} (h : k ≠ .eyes) (h₁ : k ≠ .bay) (h₂ : k ≠ .line) :
      t.bayFollows.unaccountedStep.get k = t.get k :=
    (State.get_unaccountedStep _ h).trans (State.get_bayFollows _ h₁ h₂)
  have hrole : t.hasRole .load = true := by
    have hboot : t.boot = s.boot := (hget (k := .boot) (by decide) (by decide) (by decide)).symm.trans
      (ht ▸ State.get_pass (b := .boot) s b rfl)
    unfold State.hasRole
    rw [hboot]
    exact hl
  have hnow : t.bayFollows.unaccountedStep.wantNow = t.wantNow :=
    State.wantNow_congr (hget (k := .boot) (by decide) (by decide) (by decide))
      (State.slot_congr (hget (k := .en) (by decide) (by decide) (by decide)))
      (congrArg _ (hget (k := .track) (by decide) (by decide) (by decide)))
  rw [ht, hnow, ← State.want_bayFollows hrole]
  exact congrArg Bay.want (State.get_unaccountedStep (b := .bay) _ (by decide))

theorem State.hasRole_congr (h : t.boot = s.boot) (r : Role) : t.hasRole r = s.hasRole r := by
  unfold State.hasRole
  rw [h]

/-- After the derived actions the want is that of the track (R131). -/
theorem State.want_settled (b : Bool) (hl : s.hasRole .load = true) :
    let u := (((s.pass b).pass b).pass b).finish
    u.bay.want = u.wantNow := by
  have hboot : ((s.pass b).pass b).boot = s.boot :=
    (State.get_pass (b := .boot) _ b rfl).trans (State.get_pass (b := .boot) _ b rfl)
  dsimp only
  rw [State.want_finish, State.wantNow_finish]
  exact State.want_pass b ((State.hasRole_congr hboot _).trans hl)

theorem slotFree_iff (s : State) (i : Nat) : ((s.en.slotA.all fun x => x.landing != some i)
    && (s.en.slotB.all fun x => x.landing != some i)) = !s.underSlot i := by
  unfold State.underSlot
  cases s.en.slotA <;> cases s.en.slotB <;> simp [bne]

/-- The want by its terms: EMPTY records whose slot is FREE, and the slots held (R131). -/
theorem State.wantNow_eq (s : State) : s.wantNow = min (s.boot.prof.wantTarget
    - ((s.track.filter fun r => r.cls == classEmpty && (s.en.slotA.all fun x => x.landing != some r.id)
        && (s.en.slotB.all fun x => x.landing != some r.id)).length
      + s.en.slotA.toList.length + s.en.slotB.toList.length)) 15 := by
  have hlen (x : Option Slot) : x.toList.length = x.isSome.toNat := by cases x <;> rfl
  unfold State.wantNow State.wantCount
  rw [hlen, hlen]
  simp only [Bool.and_assoc, slotFree_iff]

/-- A WANT that the bay unit has queued is on its way after the derived actions (log 10). -/
theorem State.sendsWant_settled (b : Bool) (h : s.wantStep.SendsWant) :
    (((s.pass b).pass b).pass b).finish.SendsWant := by
  have hpass : Derives s.wantStep (s.pass b) := by
    rw [State.pass_eq]
    exact (State.callLampStep_derives _).trans <| (State.withdrawAtLevel3_derives _).trans <|
      (State.freeSpans_derives _).trans (State.passOn'_derives _ _)
  exact (hpass.trans (State.afterPass_derives _ b)).want h

theorem want_ofLoad (hl : s.hasRole .load = true) :
    (∀ u ∈ [s.settle, s.settleEdge],
      let n := (u.track.filter fun r => r.cls == classEmpty
          && (u.en.slotA.all fun x => x.landing != some r.id)
          && (u.en.slotB.all fun x => x.landing != some r.id)).length
        + u.en.slotA.toList.length + u.en.slotB.toList.length
      u.bay.want = min (s.boot.prof.wantTarget - n) 15)
    ∧ (s.wantNow ≠ s.bay.want → s.wantStep.bay = { s.bay with want := s.wantNow }
      ∧ (s.boot.mode = .active → s.canQueue = true →
          ((∃ f ∈ s.line.queue, Payload.isWant f.payload = true) ∨ s.line.queue.length ≤ 12) →
          s.wantStep.Sends ⟨0, .want (Fin.ofNat 16 s.wantNow)⟩)
      ∧ (s.boot.mode ≠ .active → s.wantStep.line = s.line))
    ∧ (s.wantNow = s.bay.want → s.wantStep = s)
    ∧ (s.wantNow ≠ s.bay.want → s.boot.mode = .active → s.canQueue = true →
        ((∃ f ∈ s.line.queue, Payload.isWant f.payload = true) ∨ s.line.queue.length ≤ 12) →
        (∃ k, s.settle.Sends ⟨0, .want k⟩) ∧ ∃ k, s.settleEdge.Sends ⟨0, .want k⟩) := by
  have hsettled (u : State) (hu : u.boot = s.boot) (hw : u.bay.want = u.wantNow) := hw.trans (hu ▸ u.wantNow_eq)
  refine ⟨fun u hu => ?_, fun h => ⟨State.bay_wantStep hl h, State.wantStep_sends hl h, fun hm => ?_⟩,
    State.wantStep_of_eq, fun h hm hc hq => ?_⟩
  · simp only [List.mem_cons, List.not_mem_nil, or_false] at hu
    rcases hu with rfl | rfl
    · exact hsettled s.settle s.settle_boot (State.want_settled true hl)
    · exact hsettled s.settleEdge (s.get_settleEdge (b := .boot) rfl) (State.want_settled false hl)
  · rw [State.wantStep_of_ne hl h, if_neg hm]
  · have hw : s.wantStep.SendsWant := ⟨_, State.wantStep_sends hl h hm hc hq⟩
    exact ⟨State.sendsWant_settled true hw, State.sendsWant_settled false hw⟩

end

/-- Settles O35: heard wants by their station, the want of a LOAD by the last look at its track, and the steered lists
by the entry that leaves. -/
theorem wantsAndSteeredListsAreKept : Obligations.WantsAndSteeredListsAreKept := by
  unfold Obligations.WantsAndSteeredListsAreKept
  exact ⟨⟨fun s h n hh hst hl => want_isHeard hh hst hl n, fun s h n hh hst => want_isIgnored hh hst n,
      fun s l w => wantExpiry_expires⟩, fun s => want_ofLoad,
    addSteered_adds, fun s b x l => steerExpiry_expires, fun s h k st b => rackIn_removesNumbered,
    fun s h k st => rackIn_cases, fun s h k st => rackIn_isIgnored⟩

end Sys2Proof.Machine

/-! # First states (R24) and the entry to ACTIVE (R189) -/

namespace Sys2Proof.Machine

section
variable {s : State} {e : Eye} {b : Block}

theorem State.sensed_createStart (s : State) (o : Nat) (x y : Bool) : (s.createStart o x y).sensed = s.sensed :=
  State.sensed_joinAwaited _ _ _

theorem State.sensed_scanAt (a : ScanAt) (o : Nat) : (State.scanAt a o).s.sensed = a.s.sensed := by
  unfold State.scanAt
  split
  · rfl
  · split
    · rfl
    · split
      · rfl
      · exact State.sensed_createStart _ _ _ _

theorem State.sensed_foldl_scanAt (l : List Nat) : ∀ a : ScanAt, (l.foldl State.scanAt a).s.sensed = a.s.sensed := by
  induction l with
  | nil => exact fun _ => rfl
  | cons o l ih => exact fun a => (ih _).trans (State.sensed_scanAt a o)

theorem State.get_startRoute (s : State) (r : Rec) (h : b ≠ .gate) (h₁ : b ≠ .att) (h₂ : b ≠ .line) (h₃ : b ≠ .rt) :
    (s.startRoute r).get b = s.get b := by
  unfold State.startRoute
  split
  · split
    · exact State.get_gate _ _ h
    · exact (State.get_gate _ _ h).trans (State.get_resolve _ _ h₁ h₂ h₃)
  · rfl

theorem State.get_startRoutes (l : List Rec) (h : b ≠ .gate) (h₁ : b ≠ .att) (h₂ : b ≠ .line) (h₃ : b ≠ .rt) :
    ∀ s : State, (l.foldl State.startRoute s).get b = s.get b := by
  induction l with
  | nil => exact fun _ => rfl
  | cons r l ih => exact fun s => (ih _).trans (s.get_startRoute r h h₁ h₂ h₃)

theorem State.get_startRead (s : State) (h : b ≠ .track) (h₁ : b ≠ .att) (h₂ : b ≠ .line) (h₃ : b ≠ .en) (h₄ : b ≠ .tag)
    (h₅ : b ≠ .bay) : s.startRead.get b = s.get b := by
  unfold State.startRead
  split
  · exact State.get_readDue _ _ h h₁ h₂ h₃ h₄ h₅
  · rfl

theorem State.get_strays (l : List Eye) (h : b ≠ .att) (h₁ : b ≠ .line) :
    ∀ s : State, (l.foldl State.strayAt s).get b = s.get b := by
  induction l with
  | nil => exact fun _ => rfl
  | cons e l ih => exact fun s => (ih _).trans (s.get_strayAt e h h₁)

/-- The positions of the scan, one after the other (R58, R59). -/
def State.positions (s : State) : ScanAt := s.scanOffsets.foldl State.scanAt { s := s }

/-- The records of the scan with their routes, the front-most of them the head. -/
def State.placedAll (s : State) : State := State.rehead (s.positions.s.track.foldl State.startRoute s.positions.s)

theorem State.scan_eq (s : State) : s.scan = s.positions.strays.foldl State.strayAt s.placedAll.startRead := rfl

theorem State.eyes_scan (s : State) : s.scan.eyes = s.positions.s.eyes :=
  (State.get_strays (b := .eyes) _ (by decide) (by decide) _).trans <|
    (State.get_startRead (b := .eyes) _ (by decide) (by decide) (by decide) (by decide) (by decide) (by decide)).trans <|
    (State.get_rehead (b := .eyes) _ (by decide) (by decide) (by decide) (by decide) (by decide)).trans <|
    State.get_startRoutes (b := .eyes) _ (by decide) (by decide) (by decide) (by decide) _

theorem State.sensed_scan (s : State) : s.scan.sensed = s.sensed :=
  (State.sensed_of_eyes s.eyes_scan).trans (State.sensed_foldl_scanAt _ { s := s })

/-- The mode is ACTIVE. -/
def State.activated (s : State) : State := { s with boot := { s.boot with mode := .active } }

/-- STATUS goes out, and its timer runs (R189). -/
def State.statusBegun (s : State) : State :=
  let s := s.queueStatus
  { s with line := { s.line with statusTimer := some Config.statusTicks } }

/-- At a LOAD the WANT goes out, and its timer runs (R189). -/
def State.wantBegun (s : State) : State :=
  if s.hasRole .load then
    State.queueWant { s with bay := { s.bay with want := s.wantNow, wantTimer := some Config.wantTicks } }
  else s

theorem State.enterActive_eq (s : State) : s.enterActive = s.scan.activated.statusBegun.wantBegun := rfl

theorem State.get_activated (s : State) (h : b ≠ .boot) : s.activated.get b = s.get b := by
  cases b
  case boot => exact absurd rfl h
  all_goals rfl

theorem State.get_statusBegun (s : State) (h : b ≠ .line) : s.statusBegun.get b = s.get b :=
  (State.get_line _ _ h).trans (State.get_queueStatus _ h)

theorem State.get_wantBegun (s : State) (h : b ≠ .line) (h₁ : b ≠ .bay) : s.wantBegun.get b = s.get b := by
  unfold State.wantBegun
  split
  · exact (State.get_queueWant _ h).trans (State.get_bay _ _ h₁)
  · rfl

/-- The entry to ACTIVE writes the mode, the timers of STATUS and WANT, the want and the queue. -/
theorem State.get_enterActive (s : State) (h : b ≠ .boot) (h₁ : b ≠ .line) (h₂ : b ≠ .bay) :
    s.enterActive.get b = s.scan.get b :=
  (State.get_wantBegun _ h₁ h₂).trans <| (State.get_statusBegun _ h₁).trans (State.get_activated _ h)

theorem State.boot_enterActive (s : State) : s.enterActive.boot = { s.boot with mode := .active } := by
  rw [← s.scan_grounded.boot]
  exact (State.get_wantBegun (b := .boot) _ (by decide) (by decide)).trans
    (State.get_statusBegun (b := .boot) s.scan.activated (by decide))

theorem State.timers_enterActive (s : State) : s.enterActive.line.statusTimer = some 50
    ∧ (s.hasRole .load = true → s.enterActive.bay.wantTimer = some 100) := by
  have hqueue (t : State) : t.queueWant.line.statusTimer = t.line.statusTimer :=
    (State.offerCoalesced_keeps _ _ _).statusTimer
  have hboot : s.scan.activated.statusBegun.boot = { s.boot with mode := .active } := by
    rw [← s.scan_grounded.boot]
    exact State.get_statusBegun (b := .boot) s.scan.activated (by decide)
  have hrole : s.scan.activated.statusBegun.hasRole .load = s.hasRole .load := by
    unfold State.hasRole
    rw [hboot]
  rw [State.enterActive_eq]
  generalize s.scan.activated = t at hrole
  unfold State.wantBegun
  split
  · exact ⟨hqueue _, fun _ => by rw [State.bay_queueWant]; rfl⟩
  · next h => exact ⟨rfl, fun hl => absurd (hrole.trans hl) h⟩

/-! ### The first state of a channel -/

theorem exec_eyeFirstState_eq (s : State) (e : Eye) : exec (.eyeFirstState e) s = live s (s.doEyeFirstState e) := rfl

theorem State.firstDue_of (hm : s.boot.mode = .scanning) (hf : s.fitted e = true) (hs : (s.chan e).settled = false)
    (hrun : s.boot.prof.eyeFilter ≤ (s.chan e).firstRun) : s.firstDue e = true := by
  simp [State.firstDue, hm, hf, hs, hrun]

theorem State.chan_takeFirst (s : State) (e : Eye) :
    ((s.takeFirst e).chan e).settled = true
      ∧ ((s.takeFirst e).chan e).st = (if (s.chan e).firstLevel then .blocked else .clear)
      ∧ ((s.takeFirst e).chan e).unaccounted = (s.chan e).unaccounted := by
  unfold State.takeFirst
  rw [State.chan_setChan_self]
  exact ⟨rfl, rfl, rfl⟩

theorem State.chan_takeFirst_other {f : Eye} (h : f ≠ e) (s : State) : (s.takeFirst e).chan f = s.chan f :=
  State.chan_setChan_other _ _ h

theorem State.allSettled_iff : s.allSettled = true ↔ ∀ f, s.fitted f = true → (s.chan f).settled = true := by
  unfold State.allSettled
  rw [List.all_eq_true]
  refine forall_congr' fun f => ?_
  simp only [Eye.mem_all f, forall_const, Bool.or_eq_true, Bool.not_eq_true']
  cases s.fitted f <;> simp

theorem State.fitted_congr {t : State} (h : t.boot = s.boot) (e : Eye) : t.fitted e = s.fitted e := by
  unfold State.fitted State.eyePos
  rw [h]

theorem State.boot_takeFirst (s : State) (e : Eye) : (s.takeFirst e).boot = s.boot := s.get_takeFirst (b := .boot) e (by decide)

/-- The last first state is one when every other fitted channel has its own. -/
theorem State.allSettled_takeFirst :
    (s.takeFirst e).allSettled = true ↔ ∀ f, f ≠ e → s.fitted f = true → (s.chan f).settled = true := by
  rw [State.allSettled_iff]
  refine forall_congr' fun f => ?_
  rw [State.fitted_congr (s.boot_takeFirst e)]
  by_cases hf : f = e
  · subst hf
    simp [(s.chan_takeFirst f).1]
  · simp [State.chan_takeFirst_other hf, hf]

/-- The unaccounted-from counts of the watched eyes are brought up to date, and nothing else (R30). -/
theorem State.chan_unaccountedStep (s : State) (e : Eye) : ∃ u, s.unaccountedStep.chan e = { s.chan e with unaccounted := u }
    ∧ (s.watches e = true → u = s.unaccountedOf e s.cu.count) := by
  have hself (t : State) : (t.chan e) = { t.chan e with unaccounted := (t.chan e).unaccounted } := rfl
  have hw (h : e = .entry ∨ e = .exit) : s.watches e = false := by
    rcases h with rfl | rfl <;> simp [State.watches]
  unfold State.unaccountedStep
  cases e with
  | entry => exact ⟨_, rfl, fun h => absurd ((hw (.inl rfl)).symm.trans h) Bool.false_ne_true⟩
  | exit => exact ⟨_, rfl, fun h => absurd ((hw (.inr rfl)).symm.trans h) Bool.false_ne_true⟩
  | checkA => exact ⟨_, rfl, fun _ => rfl⟩
  | checkB => exact ⟨_, rfl, fun _ => rfl⟩
  | gate => exact ⟨_, rfl, fun _ => rfl⟩
  | bay => exact ⟨_, rfl, fun _ => rfl⟩

theorem firstState_isTaken (hr : s.Runs) (hm : s.boot.mode = .scanning) (hf : s.fitted e = true)
    (hs : (s.chan e).settled = false) (hrun : s.boot.prof.eyeFilter ≤ (s.chan e).firstRun) :
    ∃ t, exec (.eyeFirstState e) s = .next t
      ∧ (t.chan e).settled = true
      ∧ (t.chan e).st = (if (s.chan e).firstLevel then .blocked else .clear)
      ∧ ((∃ f, f ≠ e ∧ s.fitted f = true ∧ (s.chan f).settled = false) →
          t.boot.mode = .scanning ∧ t.track = s.track ∧ t.line = s.line ∧ t.dr = s.dr ∧ t.att = s.att
          ∧ (s.watches e = true → (s.chan e).firstLevel = true → s.anyOver e = false →
              (s.chan e).unaccounted = none → (t.chan e).unaccounted = some s.cu.count))
      ∧ ((∀ f, f ≠ e → s.fitted f = true → (s.chan f).settled = true) →
          t.boot = { s.boot with mode := .active } ∧ t.line.statusTimer = some 50
            ∧ (s.hasRole .load = true → t.bay.wantTimer = some 100)
            ∧ ∃ w u : State, w = (s.takeFirst e).scan ∧ w.boot = s.boot ∧ t = u.settle
              ∧ u.boot = { w.boot with mode := .active } ∧ u.track = w.track ∧ u.att = w.att)
      ∧ t.cu = s.cu := by
  obtain ⟨hset, hst, hun⟩ := s.chan_takeFirst e
  have hboot := s.boot_takeFirst e
  have hcu : (s.doEyeFirstState e).cu = s.cu := State.still_doEyeFirstState (b := .cu) s e rfl
  refine ⟨s.doEyeFirstState e, by rw [exec_eyeFirstState_eq, live_of_runs hr], ?_⟩
  rw [hcu]
  unfold State.doEyeFirstState
  rw [if_pos (State.firstDue_of hm hf hs hrun)]
  dsimp only
  split
  · next hall =>
    have hothers := State.allSettled_takeFirst.1 hall
    have hsens : ((s.takeFirst e).enterActive.chan e).sensor = ((s.takeFirst e).chan e).sensor :=
      State.sensor_of_sensed ((State.sensed_of_eyes
        (State.get_enterActive (b := .eyes) _ (by decide) (by decide) (by decide))).trans (State.sensed_scan _)) e
    obtain ⟨hst', -, -, hset'⟩ := EyeChan.fields_of_sensor hsens
    obtain ⟨hst'', -, -, hset''⟩ := (s.takeFirst e).enterActive.fields_settle e
    obtain ⟨hstatus, hwant⟩ := (s.takeFirst e).timers_enterActive
    have hkept := (s.takeFirst e).enterActive.kept_settle
    have hscan : (s.takeFirst e).scan.boot = s.boot := (s.takeFirst e).scan_grounded.boot.trans hboot
    refine ⟨(hset''.trans hset').trans hset, (hst''.trans hst').trans hst, fun ⟨f, hne, hff, hfs⟩ => ?_, fun _ => ?_, rfl⟩
    · exact absurd ((hothers f hne hff).symm.trans hfs) Bool.noConfusion
    · refine ⟨?_, (State.kept_statusTimer_eq _ _ hkept).trans hstatus, fun hl => ?_, _, _, rfl, hscan, rfl, ?_,
        State.get_enterActive (b := .track) _ (by decide) (by decide) (by decide),
        State.get_enterActive (b := .att) _ (by decide) (by decide) (by decide)⟩
      · rw [State.settle_boot, State.boot_enterActive, hboot]
      · exact (State.kept_wantTimer_eq _ _ hkept).trans (hwant ((State.hasRole_congr hboot _).trans hl))
      · rw [State.boot_enterActive, hscan, hboot]
  · next hall =>
    obtain ⟨u, hu, hwatch⟩ := (s.takeFirst e).chan_unaccountedStep e
    have hget {k : Block} (h : k ≠ .eyes) : (s.takeFirst e).unaccountedStep.get k = s.get k :=
      (State.get_unaccountedStep _ h).trans (s.get_takeFirst e h)
    rw [hu]
    refine ⟨hset, hst, fun _ => ⟨?_, hget (k := .track) (by decide), hget (k := .line) (by decide),
      hget (k := .dr) (by decide), hget (k := .att) (by decide), fun hw hl ho hn => ?_⟩,
      fun h => absurd (State.allSettled_takeFirst.2 h) hall, rfl⟩
    · rw [show (s.takeFirst e).unaccountedStep.boot = s.boot from hget (k := .boot) (by decide)]
      exact hm
    · have hw' : (s.takeFirst e).watches e = true := by
        unfold State.watches
        rw [State.fitted_congr hboot]
        exact hw
      have hover : (s.takeFirst e).anyOver e = false := by
        rw [← ho]
        cases e <;> rfl
      have hcount : (s.takeFirst e).cu = s.cu := s.get_takeFirst (b := .cu) e (by decide)
      show u = _
      rw [hwatch hw']
      unfold State.unaccountedOf
      dsimp only
      rw [hw', hover, hst, hun, hn, hl, hcount]
      rfl

end

/-! # The positions of the scan (R58) -/

theorem mem_insertDesc {x y : Nat} {l : List Nat} : y ∈ insertDesc x l ↔ y = x ∨ y ∈ l := by
  induction l with
  | nil => simp [insertDesc]
  | cons z l ih =>
    unfold insertDesc
    split
    · simp
    · split
      · next h =>
        subst h
        simp
      · rw [List.mem_cons, List.mem_cons, ih]
        exact or_left_comm

theorem insertDesc_descends {x : Nat} {l : List Nat} (h : l.Pairwise (· > ·)) : (insertDesc x l).Pairwise (· > ·) := by
  induction l with
  | nil => exact List.pairwise_singleton _ _
  | cons z l ih =>
    obtain ⟨hz, hl⟩ := List.pairwise_cons.1 h
    unfold insertDesc
    split
    · next hlt =>
      refine List.pairwise_cons.2 ⟨fun y hy => ?_, h⟩
      rcases List.mem_cons.1 hy with rfl | hy
      · exact hlt
      · exact (hz y hy).trans hlt
    · split
      · exact h
      · next hlt hne =>
        refine List.pairwise_cons.2 ⟨fun y hy => ?_, ih hl⟩
        rcases mem_insertDesc.1 hy with rfl | hy
        · exact lt_of_le_of_ne (Nat.le_of_not_lt hlt) (Ne.symm hne)
        · exact hz y hy

section
variable {s : State}

theorem foldl_insertDesc (f : Eye → Nat) (l : List Eye) : ∀ m : List Nat, m.Pairwise (· > ·) →
    (l.foldl (fun m e => insertDesc (f e) m) m).Pairwise (· > ·)
      ∧ ∀ o, o ∈ l.foldl (fun m e => insertDesc (f e) m) m ↔ (∃ e ∈ l, f e = o) ∨ o ∈ m := by
  induction l with
  | nil => exact fun m hm => ⟨hm, fun o => by simp⟩
  | cons e l ih =>
    intro m hm
    obtain ⟨hd, hmem⟩ := ih _ (insertDesc_descends (x := f e) hm)
    refine ⟨hd, fun o => (hmem o).trans ?_⟩
    rw [mem_insertDesc, List.exists_mem_cons_iff, eq_comm (a := o)]
    exact or_left_comm.trans or_assoc.symm

/-- The offsets of the fitted eyes, each once, descend. -/
theorem State.scanOffsets_spec (s : State) : s.scanOffsets.Pairwise (· > ·)
    ∧ ∀ o, o ∈ s.scanOffsets ↔ ∃ e, s.fitted e = true ∧ s.offset e = o := by
  obtain ⟨hd, hmem⟩ := foldl_insertDesc s.offset (Eye.all.filter s.fitted) [] List.Pairwise.nil
  refine ⟨hd, fun o => (hmem o).trans ?_⟩
  simp [Eye.mem_all]

/-- A fitted eye stands BLOCKED. -/
def State.stands (s : State) (e : Eye) : Bool := s.fitted e && EyeState.isBlocked (s.chan e).st

/-- Of a position, the eye e is one that stands BLOCKED there. -/
def State.standsAt (s : State) (e : Eye) (o : Nat) : Bool := s.stands e && s.offset e == o

theorem State.mem_blocked {o : Nat} {e : Eye} :
    e ∈ (s.eyesAt o).filter (fun e => EyeState.isBlocked (s.chan e).st) ↔ s.standsAt e o = true := by
  simp only [State.eyesAt, List.mem_filter, Eye.mem_all, true_and, State.standsAt, State.stands, Bool.and_eq_true]
  tauto

/-- The name and the offset of each record of the scan, the newest first: names go up by one. -/
def scanned (n : Nat) : List Nat → List (Nat × Nat)
  | [] => []
  | o :: os => (n + os.length, o) :: scanned n os

theorem scanned_lt {n : Nat} {l : List Nat} {p : Nat × Nat} (h : p ∈ scanned n l) : p.1 < n + l.length ∧ p.2 ∈ l := by
  induction l with
  | nil => cases h
  | cons o l ih =>
    rcases List.mem_cons.1 h with rfl | h
    · exact ⟨by simp, List.mem_cons_self⟩
    · obtain ⟨h₁, h₂⟩ := ih h
      exact ⟨h₁.trans (by simp), List.mem_cons_of_mem _ h₂⟩

/-- A name names one offset. -/
theorem scanned_unique {n : Nat} {l : List Nat} {p q : Nat × Nat} (hp : p ∈ scanned n l) (hq : q ∈ scanned n l)
    (h : p.1 = q.1) : p = q := by
  induction l with
  | nil => cases hp
  | cons o l ih =>
    rcases List.mem_cons.1 hp with rfl | hp' <;> rcases List.mem_cons.1 hq with rfl | hq'
    · rfl
    · exact absurd h (scanned_lt hq').1.ne'
    · exact absurd h (scanned_lt hp').1.ne
    · exact ih hp' hq'

/-- An offset has one name, where no offset stands twice. -/
theorem scanned_inj {n : Nat} {l : List Nat} (hl : l.Nodup) {p q : Nat × Nat} (hp : p ∈ scanned n l)
    (hq : q ∈ scanned n l) (h : p.2 = q.2) : p = q := by
  induction l with
  | nil => cases hp
  | cons o l ih =>
    obtain ⟨ho, hl'⟩ := List.nodup_cons.1 hl
    rcases List.mem_cons.1 hp with rfl | hp' <;> rcases List.mem_cons.1 hq with rfl | hq'
    · rfl
    · exact absurd ((show o = q.2 from h) ▸ (scanned_lt hq').2) ho
    · exact absurd ((show p.2 = o from h) ▸ (scanned_lt hp').2) ho
    · exact ih hl' hp' hq'

theorem mem_scanned {n o : Nat} {l : List Nat} (h : o ∈ l) : ∃ p ∈ scanned n l, p.2 = o := by
  induction l with
  | nil => cases h
  | cons x l ih =>
    rcases List.mem_cons.1 h with rfl | h
    · exact ⟨_, List.mem_cons_self, rfl⟩
    · obtain ⟨p, hp, he⟩ := ih h
      exact ⟨p, List.mem_cons_of_mem _ hp, he⟩

theorem length_scanned (n : Nat) (l : List Nat) : (scanned n l).length = l.length := by
  induction l with
  | nil => rfl
  | cons o l ih => exact congrArg (· + 1) ih

/-- The START record of a position (R58). -/
def State.startOf (s : State) (p : Nat × Nat) : Rec :=
  { blankRec p.1 (Count.minus s.cu.count p.2) with
      flags := { start := true }, localFlags := { start := true }, entryOpen := s.standsAt .entry p.2,
      exitPass := if s.standsAt .exit p.2 then .spanning else .none,
      state := if s.standsAt .entry p.2 then .entering else if p.1 = s.nextId then .head else .riding }

/-! ### Where a record is awaited -/

theorem State.chan_foldl_updChan (c : Eye → Bool) (f : Eye → EyeChan → EyeChan) (g : Eye) (l : List Eye) :
    l.Nodup → ∀ t : State, (l.foldl (fun t e => if c e then t.updChan e (f e) else t) t).chan g =
      if g ∈ l ∧ c g = true then f g (t.chan g) else t.chan g := by
  induction l with
  | nil => exact fun _ t => (if_neg (by simp)).symm
  | cons e l ih =>
    intro hl t
    obtain ⟨he, hl'⟩ := List.nodup_cons.1 hl
    rw [List.foldl_cons, ih hl']
    by_cases hg : g = e
    · subst hg
      rw [if_neg fun h => he h.1]
      by_cases hc : c g = true
      · rw [if_pos hc, if_pos ⟨List.mem_cons_self, hc⟩, State.chan_updChan_self]
      · rw [if_neg hc, if_neg fun h => hc h.2]
    · have hchan : (if c e = true then t.updChan e (f e) else t).chan g = t.chan g := by
        split
        · exact State.chan_updChan_other _ _ hg
        · rfl
      rw [hchan]
      refine if_congr ?_ rfl rfl
      rw [List.mem_cons, or_iff_right hg]

theorem State.chan_joinAwaited (s : State) (i : Nat) (p : Eye → Bool) (g : Eye) : (s.joinAwaited i p).chan g =
    if s.isCheck g = true ∧ p g = true then
      { s.chan g with awaited := s.inTrackOrder ((s.chan g).awaited ++ [i]) }
    else s.chan g := by
  unfold State.joinAwaited
  rw [State.chan_foldl_updChan (fun e => s.isCheck e && p e)
    (fun _ c => { c with awaited := s.inTrackOrder (c.awaited ++ [i]) }) g Eye.all (by decide) s]
  refine if_congr ?_ rfl rfl
  simp [Eye.mem_all]

end

/-! # The scan position by position (R58, R59) -/

/-- What the scan has come to when the offsets `done` lie behind it. -/
structure ScanSound (s : State) (done : List Nat) (a : ScanAt) : Prop where
  boot : a.s.boot = s.boot
  cu : a.s.cu = s.cu
  tag : a.s.tag = s.tag
  sensed : a.s.sensed = s.sensed
  next : a.s.nextId = s.nextId + a.created.length
  track : a.s.track = (scanned s.nextId a.created).reverse.map s.startOf
  awaited : ∀ g, s.isCheck g = true → ∀ i, i ∈ (a.s.chan g).awaited ↔
    ∃ p ∈ scanned s.nextId a.created, p.1 = i ∧ p.2 < s.offset g
  spaced : a.created.Pairwise fun o o' => o + s.boot.cts.rackMax ≤ o'
  stood : ∀ o ∈ a.created, o ∈ done ∧ ∃ f, s.standsAt f o = true
  room : a.created.length ≤ s.boot.prof.trackLimit
  cover : ∀ o ∈ done, ∀ f, s.standsAt f o = true → o ∈ a.created
    ∨ (∃ o' ∈ a.created, o < o' ∧ o' < o + s.boot.cts.rackMax)
    ∨ (a.strays ≠ [] ∧ s.boot.prof.trackLimit ≤ a.created.length)

section
variable {s : State} {done : List Nat} {a : ScanAt} {o : Nat}

theorem ScanSound.length (h : ScanSound s done a) : a.s.track.length = a.created.length := by
  rw [h.track, List.length_map, List.length_reverse, length_scanned]

theorem ScanSound.offset (h : ScanSound s done a) (e : Eye) : a.s.offset e = s.offset e := by
  cases e <;> simp only [State.offset, h.boot]

theorem ScanSound.standsAt (h : ScanSound s done a) (e : Eye) (o : Nat) : a.s.standsAt e o = s.standsAt e o := by
  unfold State.standsAt State.stands
  rw [h.offset, State.fitted_congr h.boot, (EyeChan.fields_of_sensor (State.sensor_of_sensed h.sensed e)).1]

/-- A position with no blocked eye is passed over. -/
theorem ScanSound.pass (h : ScanSound s done a) (hn : ∀ f, s.standsAt f o = false) : ScanSound s (o :: done) a :=
  { h with
    stood := fun x hx => ⟨List.mem_cons_of_mem _ (h.stood x hx).1, (h.stood x hx).2⟩
    cover := fun x hx f hf => by
      rcases List.mem_cons.1 hx with rfl | hx
      · exact absurd ((hn f).symm.trans hf) Bool.false_ne_true
      · exact h.cover x hx f hf }

/-- A position within the rack maximum of a record ahead is covered by it (R59). -/
theorem ScanSound.covered (h : ScanSound s done a) (hc : ∃ x ∈ a.created, o < x ∧ x < o + s.boot.cts.rackMax) :
    ScanSound s (o :: done) a :=
  { h with
    stood := fun x hx => ⟨List.mem_cons_of_mem _ (h.stood x hx).1, (h.stood x hx).2⟩
    cover := fun x hx f hf => by
      rcases List.mem_cons.1 hx with rfl | hx
      · exact .inr (.inl hc)
      · exact h.cover x hx f hf }

/-- A position that a full track cannot record is a STRAY-RACK. -/
theorem ScanSound.stray (h : ScanSound s done a) (e : Eye) (hf : s.boot.prof.trackLimit ≤ a.created.length) :
    ScanSound s (o :: done) { a with strays := a.strays ++ [e] } :=
  { h with
    stood := fun x hx => ⟨List.mem_cons_of_mem _ (h.stood x hx).1, (h.stood x hx).2⟩
    cover := fun x hx f hs => by
      rcases List.mem_cons.1 hx with rfl | hx
      · exact .inr (.inr ⟨by simp, hf⟩)
      · exact (h.cover x hx f hs).imp_right (Or.imp_right fun hl => ⟨by simp, hl.2⟩) }

theorem State.startRec_eq (h : ScanSound s done a) (o : Nat) :
    a.s.startRec o (s.standsAt .entry o) (s.standsAt .exit o) = s.startOf (s.nextId + a.created.length, o) := by
  have hnil : a.s.track = [] ↔ s.nextId + a.created.length = s.nextId := by
    rw [← List.length_eq_zero_iff, h.length]
    omega
  unfold State.startRec State.startOf
  rw [h.next, h.cu]
  dsimp only
  by_cases hn : a.s.track = []
  · rw [if_pos hn, if_pos (hnil.1 hn)]
  · rw [if_neg hn, if_neg (hnil.not.1 hn)]

theorem ScanSound.create (h : ScanSound s done a) (hdone : ∀ x ∈ done, o < x)
    (hc : ¬∃ x ∈ a.created, o < x ∧ x < o + s.boot.cts.rackMax) (hroom : a.created.length < s.boot.prof.trackLimit)
    {f : Eye} (hf : s.standsAt f o = true) : ScanSound s (o :: done)
      { a with s := a.s.createStart o (s.standsAt .entry o) (s.standsAt .exit o), created := o :: a.created } := by
  let t := a.s.appendRec (a.s.startRec o (s.standsAt .entry o) (s.standsAt .exit o))
  have hget {b : Block} (h₁ : b ≠ .eyes) (h₂ : b ≠ .track) (h₃ : b ≠ .nextId) :
      (a.s.createStart o (s.standsAt .entry o) (s.standsAt .exit o)).get b = a.s.get b :=
    (State.get_joinAwaited _ _ _ h₁).trans (State.get_appendRec _ _ h₂ h₃)
  have htrack : t.track = a.s.track ++ [s.startOf (s.nextId + a.created.length, o)] := by
    rw [← State.startRec_eq h]
    rfl
  have hids : ∀ i, (∃ q ∈ t.track, q.id = i) ↔ ∃ p ∈ scanned s.nextId (o :: a.created), p.1 = i := by
    intro i
    have hid (p : Nat × Nat) : (s.startOf p).id = p.1 := rfl
    rw [htrack, h.track]
    simp [scanned, hid, or_comm]
  refine ⟨(hget (b := .boot) (by decide) (by decide) (by decide)).trans h.boot,
    (hget (b := .cu) (by decide) (by decide) (by decide)).trans h.cu,
    (hget (b := .tag) (by decide) (by decide) (by decide)).trans h.tag,
    (State.sensed_createStart _ _ _ _).trans h.sensed, ?_, ?_, fun g hg i => ?_, ?_, fun x hx => ?_, hroom,
    fun x hx e he => ?_⟩
  · refine (State.get_joinAwaited (b := .nextId) _ _ _ (by decide)).trans ?_
    show a.s.nextId + 1 = _
    rw [h.next, List.length_cons]
    rfl
  · refine (State.get_joinAwaited (b := .track) _ _ _ (by decide)).trans (htrack.trans ?_)
    rw [h.track]
    simp [scanned]
  · have hcheck : t.isCheck g = true := (State.isCheck_congr h.boot g).trans hg
    have hoff : t.offset g = s.offset g := h.offset g
    have hold := h.awaited g hg i
    show i ∈ ((t.joinAwaited a.s.nextId fun e => decide (o < t.offset e)).chan g).awaited ↔ _
    rw [State.chan_joinAwaited, h.next, hoff]
    by_cases ho : o < s.offset g
    · rw [if_pos ⟨hcheck, decide_eq_true ho⟩, State.mem_inTrackOrder, hids, List.mem_append, List.mem_singleton,
        show i ∈ (t.chan g).awaited ↔ _ from hold]
      constructor
      · rintro ⟨⟨p, hp, hi, hlt⟩ | rfl, -⟩
        · exact ⟨p, List.mem_cons_of_mem _ hp, hi, hlt⟩
        · exact ⟨_, List.mem_cons_self, rfl, ho⟩
      · rintro ⟨p, hp, hi, hlt⟩
        refine ⟨?_, p, hp, hi⟩
        rcases List.mem_cons.1 hp with rfl | hp
        · exact .inr hi.symm
        · exact .inl ⟨p, hp, hi, hlt⟩
    · rw [if_neg fun hh => ho (of_decide_eq_true hh.2), show i ∈ (t.chan g).awaited ↔ _ from hold]
      constructor
      · rintro ⟨p, hp, hi, hlt⟩
        exact ⟨p, List.mem_cons_of_mem _ hp, hi, hlt⟩
      · rintro ⟨p, hp, hi, hlt⟩
        rcases List.mem_cons.1 hp with rfl | hp
        · exact absurd hlt ho
        · exact ⟨p, hp, hi, hlt⟩
  · refine List.pairwise_cons.2 ⟨fun x hx => ?_, h.spaced⟩
    exact Nat.le_of_not_lt fun hlt => hc ⟨x, hx, hdone x (h.stood x hx).1, hlt⟩
  · rcases List.mem_cons.1 hx with rfl | hx
    · exact ⟨List.mem_cons_self, f, hf⟩
    · exact ⟨List.mem_cons_of_mem _ (h.stood x hx).1, (h.stood x hx).2⟩
  · rcases List.mem_cons.1 hx with rfl | hx
    · exact .inl List.mem_cons_self
    · rcases h.cover x hx e he with hm | ⟨x', hx', hlt⟩ | ⟨hs, hl⟩
      · exact .inl (List.mem_cons_of_mem _ hm)
      · exact .inr (.inl ⟨x', List.mem_cons_of_mem _ hx', hlt⟩)
      · exact .inr (.inr ⟨hs, hl.trans (Nat.le_succ _)⟩)

/-- One position of the scan. -/
theorem ScanSound.step (h : ScanSound s done a) (hdone : ∀ x ∈ done, o < x) :
    ScanSound s (o :: done) (State.scanAt a o) := by
  have hmem (e : Eye) : e ∈ (a.s.eyesAt o).filter (fun e => EyeState.isBlocked (a.s.chan e).st) ↔ s.standsAt e o = true :=
    State.mem_blocked.trans (by rw [h.standsAt])
  unfold State.scanAt
  split
  · next hn =>
    exact h.pass fun f => Bool.eq_false_iff.2 fun hf => by
      have hin := (hmem f).2 hf
      rw [hn] at hin
      exact List.not_mem_nil hin
  · next e es hes =>
    rw [hes] at hmem
    have hcontains (g : Eye) : (e :: es).contains g = s.standsAt g o :=
      Bool.eq_iff_iff.2 (List.contains_iff_mem.trans (hmem g))
    have hcover : (a.created.any fun x => decide (o < x) && decide (x < o + a.s.boot.cts.rackMax)) = true ↔
        ∃ x ∈ a.created, o < x ∧ x < o + s.boot.cts.rackMax := by
      simp [h.boot]
    split
    · next hc => exact h.covered (hcover.1 hc)
    · next hc =>
      have hfull : a.s.trackFull = true ↔ s.boot.prof.trackLimit ≤ a.created.length := by
        rw [State.trackFull, h.length, h.boot, decide_eq_true_iff]
      split
      · next hf => exact h.stray e (hfull.1 hf)
      · next hf =>
        rw [hcontains, hcontains]
        exact h.create hdone (hcover.not.1 hc) (Nat.lt_of_not_le (hfull.not.1 hf)) ((hmem e).1 List.mem_cons_self)

theorem ScanSound.foldl {l : List Nat} (h : ScanSound s done a) (hl : l.Pairwise (· > ·))
    (hd : ∀ x ∈ done, ∀ y ∈ l, y < x) : ScanSound s (l.reverse ++ done) (l.foldl State.scanAt a) := by
  induction l generalizing done a with
  | nil => exact h
  | cons o l ih =>
    obtain ⟨ho, hl'⟩ := List.pairwise_cons.1 hl
    have hstep := h.step fun x hx => hd x hx o List.mem_cons_self
    rw [List.foldl_cons, List.reverse_cons, List.append_assoc]
    refine ih hstep hl' fun x hx y hy => ?_
    rcases List.mem_cons.1 hx with rfl | hx
    · exact ho y hy
    · exact hd x hx y (List.mem_cons_of_mem _ hy)

/-- Over an empty track the whole scan is sound. -/
theorem State.positions_sound (ht : s.track = []) (ha : ∀ f, (s.chan f).awaited = []) :
    ScanSound s s.scanOffsets.reverse s.positions := by
  have hstart : ScanSound s [] { s := s } :=
    ⟨rfl, rfl, rfl, rfl, rfl, ht, fun g _ i => by rw [ha g]; simp [scanned], List.Pairwise.nil, nofun, Nat.zero_le _,
      nofun⟩
  have h := hstart.foldl (s.scanOffsets_spec.1) (fun x hx => absurd hx List.not_mem_nil)
  rw [List.append_nil] at h
  exact h

end

/-! # From the positions to ACTIVE -/

/-- A record without what the promotion of the head can write in it: its state, and MISROUTED. -/
def Rec.unplaced (r : Rec) : Rec :=
  { r with state := .riding, flags := { r.flags with misrouted := false },
           localFlags := { r.localFlags with misrouted := false } }

section
variable {s : State}

theorem State.unplaced_updRec (s : State) (i : Nat) (f : Rec → Rec) (hf : ∀ r, (f r).unplaced = r.unplaced) :
    (s.updRec i f).track.map Rec.unplaced = s.track.map Rec.unplaced := by
  show (s.track.map fun r => if r.id = i then f r else r).map _ = _
  rw [List.map_map]
  refine List.map_congr_left fun r _ => ?_
  show (if r.id = i then f r else r).unplaced = r.unplaced
  split
  · exact hf r
  · rfl

theorem Rec.unplaced_misrouted (r : Rec) : (r.flagged { misrouted := true }).unplaced = r.unplaced := by
  simp [Rec.flagged, Rec.unplaced, Flags.union]

theorem State.unplaced_stopFired (s : State) : s.stopFired.track.map Rec.unplaced = s.track.map Rec.unplaced := by
  unfold State.stopFired
  split
  · rfl
  · split
    · dsimp only
      split
      · rw [State.track_raise]
        exact (State.unplaced_updRec _ _ _ Rec.unplaced_misrouted).trans (State.unplaced_updRec _ _ _ fun _ => rfl)
      · exact State.unplaced_updRec _ _ _ fun _ => rfl
    · rfl

theorem State.unplaced_loadGroup (s : State) (r : Rec) :
    (s.loadGroup r).track.map Rec.unplaced = s.track.map Rec.unplaced := by
  unfold State.loadGroup
  dsimp only
  split
  · exact State.unplaced_stopFired _
  · rfl

theorem State.unplaced_rehead (s : State) : s.rehead.track.map Rec.unplaced = s.track.map Rec.unplaced := by
  unfold State.rehead
  split
  · split
    · rfl
    · rw [State.unplaced_loadGroup]
      split
      · exact State.unplaced_updRec { s with bay := _ } _ _ fun _ => rfl
      · rfl
  · split
    · rfl
    · split <;> rfl

theorem State.pending_strays (l : List Eye) (hl : l ≠ []) (s : State) :
    ((l.foldl State.strayAt s).cause .strayRack).st = .pending := by
  obtain ⟨l, e, rfl⟩ := (List.eq_nil_or_concat' l).resolve_left hl
  rw [List.foldl_append]
  show ((State.strayAt _ e).cause .strayRack).st = .pending
  unfold State.strayAt
  rw [State.cause_raise, if_pos rfl]

/-- After the entry to ACTIVE the track, its places and the lists are those of the scan's positions. -/
theorem State.track_enterActive (s : State) :
    s.enterActive.track.map Rec.unplaced = s.positions.s.track.map Rec.unplaced := by
  have hread : s.placedAll.startRead.track = s.placedAll.track := by
    unfold State.startRead
    split
    · exact (State.readDue_ends _ _).1
    · rfl
  have hscan : s.scan.track = s.placedAll.track :=
    (State.get_strays (b := .track) _ (by decide) (by decide) _).trans hread
  rw [show s.enterActive.track = s.scan.track from State.get_enterActive (b := .track) _ (by decide) (by decide) (by decide),
    hscan, State.placedAll, State.unplaced_rehead]
  exact congrArg _ (State.get_startRoutes (b := .track) _ (by decide) (by decide) (by decide) (by decide) _)

theorem State.chan_enterActive (s : State) (e : Eye) : s.enterActive.chan e = s.positions.s.chan e :=
  State.chan_congr ((State.get_enterActive (b := .eyes) _ (by decide) (by decide) (by decide)).trans s.eyes_scan) e

theorem State.tag_enterActive (s : State) : s.enterActive.tag = s.placedAll.startRead.tag :=
  (State.get_enterActive (b := .tag) _ (by decide) (by decide) (by decide)).trans
    (State.get_strays (b := .tag) _ (by decide) (by decide) _)

theorem State.still_placedAll (s : State) : s.placedAll.tag = s.positions.s.tag ∧ s.placedAll.boot = s.positions.s.boot :=
  ⟨(State.get_rehead (b := .tag) _ (by decide) (by decide) (by decide) (by decide) (by decide)).trans
      (State.get_startRoutes (b := .tag) _ (by decide) (by decide) (by decide) (by decide) _),
    (State.get_rehead (b := .boot) _ (by decide) (by decide) (by decide) (by decide) (by decide)).trans
      (State.get_startRoutes (b := .boot) _ (by decide) (by decide) (by decide) (by decide) _)⟩

/-- A count behind the belt count by an offset within the segment tells the offset. -/
theorem offset_of_front {c : Count} {o o' : Nat} (h : c - BitVec.ofNat 16 o = c - BitVec.ofNat 16 o') (ho : o < 65536)
    (ho' : o' < 65536) : o = o' := by
  have he := congrArg BitVec.toNat h
  simp only [BitVec.toNat_sub, BitVec.toNat_ofNat] at he
  have hc := c.isLt
  omega

variable {a : ScanAt} {done : List Nat}

/-- Each record of the track after the scan is the START record of a position, and each position has its record. -/
theorem ScanSound.mem_track (h : ScanSound s done a) {l : List Rec}
    (hl : l.map Rec.unplaced = a.s.track.map Rec.unplaced) :
    (∀ q ∈ l, ∃ p ∈ scanned s.nextId a.created, q.unplaced = (s.startOf p).unplaced)
      ∧ ∀ p ∈ scanned s.nextId a.created, ∃ q ∈ l, q.unplaced = (s.startOf p).unplaced := by
  rw [h.track, List.map_map] at hl
  refine ⟨fun q hq => ?_, fun p hp => ?_⟩
  · obtain ⟨p, hp, he⟩ := List.mem_map.1 (hl ▸ List.mem_map_of_mem hq : q.unplaced ∈ _)
    exact ⟨p, List.mem_reverse.1 hp, he.symm⟩
  · obtain ⟨q, hq, he⟩ := List.mem_map.1
      (hl ▸ List.mem_map_of_mem (List.mem_reverse.2 hp) : (Rec.unplaced ∘ s.startOf) p ∈ l.map Rec.unplaced)
    exact ⟨q, hq, he⟩

/-- No two records of the scan stand within the rack maximum of each other (R59). -/
theorem ScanSound.apart (h : ScanSound s done a) {o o' : Nat} (ho : o ∈ a.created) (ho' : o' ∈ a.created) (hlt : o < o') :
    o + s.boot.cts.rackMax ≤ o' := by
  have hsym : a.created.Pairwise fun x y => x + s.boot.cts.rackMax ≤ y ∨ y + s.boot.cts.rackMax ≤ x := h.spaced.imp .inl
  have : Std.Symm fun x y => x + s.boot.cts.rackMax ≤ y ∨ y + s.boot.cts.rackMax ≤ x := ⟨fun _ _ => Or.symm⟩
  rcases hsym.forall ho ho' hlt.ne with hle | hle
  · exact hle
  · omega

theorem ScanSound.nodup (h : ScanSound s done a) (hm : 0 < s.boot.cts.rackMax) : a.created.Nodup :=
  h.spaced.imp fun {x y} hxy (he : x = y) => by omega

theorem State.standsAt_iff {e : Eye} {o : Nat} : s.standsAt e o = true ↔ s.stands e = true ∧ s.offset e = o := by
  simp [State.standsAt]

/-- The read of the scan is that of the record whose entry passage is OPEN. -/
theorem State.tag_startRead (h : ScanSound s s.scanOffsets.reverse s.positions) (hm : 0 < s.boot.cts.rackMax)
    (hr : s.boot.prof.reader = true) (ht : s.tag.st = .idle) {p : Nat × Nat}
    (hp : p ∈ scanned s.nextId s.positions.created) (ho : s.standsAt .entry p.2 = true) :
    s.placedAll.startRead.tag = ⟨.reading, some p.1, some s.boot.prof.readerTimeout, some 0x3C⟩ := by
  obtain ⟨htag, hboot⟩ := s.still_placedAll
  have hkept : s.placedAll.track.map Rec.unplaced = s.positions.s.track.map Rec.unplaced :=
    (State.unplaced_rehead _).trans
      (congrArg _ (State.get_startRoutes (b := .track) _ (by decide) (by decide) (by decide) (by decide) _))
  obtain ⟨hfrom, hto⟩ := h.mem_track hkept
  obtain ⟨q, hq, hqp⟩ := hto p hp
  have hqo : q.entryOpen = true := (congrArg Rec.entryOpen hqp :).trans ho
  unfold State.startRead
  split
  · next r hf =>
    obtain ⟨p', hp', hrp⟩ := hfrom r (List.mem_of_find?_eq_some hf)
    have hropen : r.entryOpen = true := List.find?_some (p := fun x : Rec => x.entryOpen) hf
    have hro : s.standsAt .entry p'.2 = true := (congrArg Rec.entryOpen hrp :).symm.trans hropen
    have hpp : p'.2 = p.2 := (State.standsAt_iff.1 hro).2.symm.trans (State.standsAt_iff.1 ho).2
    have hid : r.id = p.1 := by
      rw [← scanned_inj (h.nodup hm) hp' hp hpp]
      exact (congrArg Rec.id hrp :)
    unfold State.readDue
    rw [if_pos (by rw [hboot, h.boot]; exact hr), if_pos (by rw [htag, h.tag]; exact ht), hid, hboot, h.boot]
  · next hf => exact absurd hqo (by simpa using List.find?_eq_none.1 hf q hq)

/-- What the START records of the scan are, where they stand and what they cover (R58, R59). -/
theorem scan_makes (ht : s.track = []) (ha : ∀ f, (s.chan f).awaited = [])
    (hoff : ∀ f, s.offset f ≤ s.boot.cts.exit) (hexit : s.boot.cts.exit < 32768) (hmax : 0 < s.boot.cts.rackMax) :
    let u := s.enterActive
    let at' (f : Eye) (q : Rec) : Prop := q.front = s.cu.count - BitVec.ofNat 16 (s.offset f)
    u.track.length ≤ s.boot.prof.trackLimit
      ∧ (∀ q ∈ u.track, ∃ f, s.stands f = true ∧ at' f q
          ∧ q.number = notag ∧ q.cls = classUnknown ∧ q.origin = 0 ∧ q.steeredBy = 0 ∧ q.hop = 0
          ∧ { q.flags with misrouted := false } = { start := true } ∧ q.residence = 0 ∧ q.length = none
          ∧ q.entry = none ∧ q.exitPort = none
          ∧ (q.entryOpen = true ↔ s.stands .entry = true ∧ s.offset f = 0)
          ∧ (q.exitPass = .spanning ↔ s.stands .exit = true ∧ s.offset f = s.boot.cts.exit)
          ∧ (q.exitPass = .none ∨ q.exitPass = .spanning)
          ∧ ∀ g, s.isCheck g = true → (q.id ∈ (u.chan g).awaited ↔ s.offset f < s.offset g))
      ∧ (∀ f, s.stands f = true → (∃ q ∈ u.track, at' f q)
          ∨ (∃ q ∈ u.track, ∃ g, at' g q ∧ s.offset f < s.offset g
              ∧ s.offset g < s.offset f + s.boot.cts.rackMax)
          ∨ (s.boot.prof.trackLimit ≤ u.track.length ∧ (u.cause .strayRack).st = .pending))
      ∧ (∀ q ∈ u.track, ∀ q' ∈ u.track, ∀ f g, at' f q → at' g q' → s.offset f < s.offset g →
          s.boot.cts.rackMax ≤ s.offset g - s.offset f)
      ∧ (∀ q, q ∈ u.track → q.entryOpen = true → s.boot.prof.reader = true → s.tag.st = .idle →
          u.tag = ⟨.reading, some q.id, some s.boot.prof.readerTimeout, some 0x3C⟩) := by
  have h := State.positions_sound ht ha
  have hunplaced := s.track_enterActive
  obtain ⟨hfrom, hto⟩ := h.mem_track hunplaced
  have hlen : s.enterActive.track.length = s.positions.created.length := by
    rw [← h.length, ← List.length_map (f := Rec.unplaced), hunplaced, List.length_map]
  have hfront {q : Rec} {p : Nat × Nat} (hq : q.unplaced = (s.startOf p).unplaced) :
      q.front = s.cu.count - BitVec.ofNat 16 p.2 := (congrArg Rec.front hq :)
  have hsmall {p : Nat × Nat} (hp : p ∈ scanned s.nextId s.positions.created) : p.2 < 65536 := by
    obtain ⟨f, hf⟩ := (h.stood p.2 (scanned_lt hp).2).2
    have := hoff f
    rw [(State.standsAt_iff.1 hf).2] at this
    omega
  refine ⟨hlen ▸ h.room, fun q hq => ?_, fun f hf => ?_, fun q hq q' hq' f g hqf hqg hlt => ?_, fun q hq ho hr hi => ?_⟩
  · obtain ⟨p, hp, he⟩ := hfrom q hq
    obtain ⟨f, hf⟩ := (h.stood p.2 (scanned_lt hp).2).2
    obtain ⟨hst, hof⟩ := State.standsAt_iff.1 hf
    have hopen : q.entryOpen = s.standsAt .entry p.2 := (congrArg Rec.entryOpen he :)
    have hpass : q.exitPass = if s.standsAt .exit p.2 then .spanning else .none := (congrArg Rec.exitPass he :)
    have hid : q.id = p.1 := (congrArg Rec.id he :)
    refine ⟨f, hst, (hfront he).trans (by rw [hof]), (congrArg Rec.number he :), (congrArg Rec.cls he :), (congrArg Rec.origin he :),
      (congrArg Rec.steeredBy he :), (congrArg Rec.hop he :), (congrArg Rec.flags he :), (congrArg Rec.residence he :),
      (congrArg Rec.length he :), (congrArg Rec.entry he :), (congrArg Rec.exitPort he :), ?_, ?_, ?_, fun g hg => ?_⟩
    · rw [hopen, State.standsAt_iff, hof]
      exact and_congr_right fun _ => eq_comm
    · have hiff : q.exitPass = .spanning ↔ s.standsAt .exit p.2 = true := by
        rw [hpass]
        split <;> simp [*]
      rw [hiff, State.standsAt_iff, hof]
      exact and_congr_right fun _ => eq_comm
    · rw [hpass]
      split
      · exact .inr rfl
      · exact .inl rfl
    · rw [State.chan_enterActive, h.awaited g hg, hid, hof]
      constructor
      · rintro ⟨p', hp', hi, hlt⟩
        rwa [← scanned_unique hp' hp hi]
      · exact fun hlt => ⟨p, hp, rfl, hlt⟩
  · have hat {o : Nat} (ho : o ∈ s.positions.created) : ∃ q ∈ s.enterActive.track,
        q.front = s.cu.count - BitVec.ofNat 16 o := by
      obtain ⟨p, hp, rfl⟩ := mem_scanned (n := s.nextId) ho
      obtain ⟨q, hq, he⟩ := hto p hp
      exact ⟨q, hq, hfront he⟩
    have hdone : s.offset f ∈ s.scanOffsets.reverse :=
      List.mem_reverse.2 ((s.scanOffsets_spec.2 _).2 ⟨f, (Bool.and_eq_true_iff.1 hf).1, rfl⟩)
    rcases h.cover _ hdone f (State.standsAt_iff.2 ⟨hf, rfl⟩) with ho | ⟨o, ho, hlt, hlt'⟩ | ⟨hs, hl⟩
    · exact .inl (hat ho)
    · obtain ⟨g, hg⟩ := (h.stood o ho).2
      obtain ⟨q, hq, he⟩ := hat ho
      obtain ⟨-, rfl⟩ := State.standsAt_iff.1 hg
      exact .inr (.inl ⟨q, hq, g, he, hlt, hlt'⟩)
    · refine .inr (.inr ⟨hlen ▸ hl, ?_⟩)
      rw [State.cause_congr (State.get_enterActive (b := .att) s (by decide) (by decide) (by decide)), State.scan_eq]
      exact State.pending_strays _ hs _
  · obtain ⟨p, hp, he⟩ := hfrom q hq
    obtain ⟨p', hp', he'⟩ := hfrom q' hq'
    have hf := hoff f
    have hg := hoff g
    have hpf : p.2 = s.offset f := offset_of_front ((hfront he).symm.trans hqf) (hsmall hp) (by omega)
    have hpg : p'.2 = s.offset g := offset_of_front ((hfront he').symm.trans hqg) (hsmall hp') (by omega)
    have hapart := h.apart (scanned_lt hp).2 (scanned_lt hp').2 (by omega)
    omega
  · obtain ⟨p, hp, he⟩ := hfrom q hq
    have hopen : s.standsAt .entry p.2 = true := (congrArg Rec.entryOpen he :).symm.trans ho
    rw [State.tag_enterActive, State.tag_startRead h hmax hr hi hp hopen, show q.id = p.1 from (congrArg Rec.id he :)]

end

/-- Settles O14: each first state, the last of them with the scan and the entry to ACTIVE, and what the scan makes of
an empty track, by an invariant over its positions. -/
theorem firstStatesEndTheScan : Obligations.FirstStatesEndTheScan := by
  unfold Obligations.FirstStatesEndTheScan
  refine ⟨fun s e => firstState_isTaken, fun s e hr hm hl hf hs hrun hothers ht ha hoff hexit hmax => ?_⟩
  let v := s.takeFirst e
  have hboot : v.boot = s.boot := s.boot_takeFirst e
  have hcu : v.cu = s.cu := s.get_takeFirst (b := .cu) e (by decide)
  have hvoff (f : Eye) : v.offset f = s.offset f := by cases f <;> simp only [State.offset, hboot]
  have hstands (f : Eye) : v.stands f = true ↔ s.fitted f = true ∧
      (if f = e then (s.chan e).firstLevel else EyeState.isBlocked (s.chan f).st) = true := by
    rw [State.stands, Bool.and_eq_true, State.fitted_congr hboot]
    refine and_congr_right fun _ => ?_
    by_cases hfe : f = e
    · subst hfe
      rw [(s.chan_takeFirst f).2.1, if_pos rfl]
      split <;> simp [EyeState.isBlocked, *]
    · rw [if_neg hfe, State.chan_takeFirst_other hfe]
  have hvawait (f : Eye) : (v.chan f).awaited = [] := by
    by_cases hfe : f = e
    · subst hfe
      exact (congrArg EyeChan.awaited (State.chan_setChan_self s f _)).trans (ha f)
    · rw [State.chan_takeFirst_other hfe]
      exact ha f
  have hscan := scan_makes (s := v) ((s.get_takeFirst (b := .track) e (by decide)).trans ht) hvawait
    (fun f => by rw [hvoff, hboot]; exact hoff f) (hboot ▸ hexit) (hboot ▸ hmax)
  have hcheck (g : Eye) : v.isCheck g = s.isCheck g := State.isCheck_congr hboot g
  have htag : v.tag = s.tag := s.get_takeFirst (b := .tag) e (by decide)
  simp only [hboot, hcu, hvoff, hstands, hcheck, htag] at hscan
  refine ⟨v.enterActive, ?_, ?_, hscan⟩
  · rw [exec_eyeFirstState_eq, live_of_runs hr, State.doEyeFirstState, if_pos (State.firstDue_of hm hf hs hrun)]
    dsimp only
    rw [if_pos (State.allSettled_takeFirst.2 hothers)]
  · rw [State.boot_enterActive]

end Sys2Proof.Machine

/-! # The operations of a pass around the test of the offer (R84, R85, R89) -/

namespace Sys2Proof.Machine

/-- The level is below 3, and no cause that stands, nor LINE-OVERRUN, has severity 3. -/
def State.Calm (s : State) : Prop :=
  s.att.level ≠ 3 ∧ ∀ c, c = .lineOverrun ∨ (s.cause c).st ≠ .absent → s.severity c ≠ 3

/-- The blocks that the test of the offer reads and that a pass writes by it, by the gate and the bay unit alone. -/
def Block.wired : Block → Bool
  | .boot | .cu | .track | .marks | .ex | .gate | .bay | .att => true
  | _ => false

theorem Block.ne_of_wired {b k : Block} (hb : b.wired = true) (hk : k.wired = false) : b ≠ k :=
  fun h => absurd (hb.symm.trans (h ▸ hk)) Bool.noConfusion

/-- What the test of the offer reads, the position of the gate and the level apart. -/
def State.offerView (s : State) :=
  (s.boot, s.cu, s.track, s.marks, s.ex, s.bay.released, s.gate.rackRoute)

/-- An operation beside the offers: it keeps what their test reads, and the calm. -/
structure Quiet (s t : State) : Prop where
  view : t.offerView = s.offerView
  set : s.track ≠ [] → s.gate.setFor s.exitPortOf = true → t.gate.setFor s.exitPortOf = true
  calm : s.Calm → t.Calm

section
variable {s t u : State}

/-! ### The calm -/

theorem State.Calm.of (h : s.Calm) (hb : t.boot = s.boot) (hl : t.att.level = s.att.level ∨ t.att.level = t.levelNow)
    (hc : ∀ c, (t.cause c).st ≠ .absent → c = .lineOverrun ∨ (s.cause c).st ≠ .absent) : t.Calm := by
  obtain ⟨h3, hsev⟩ := h
  have hsev' (c : Cause) (hk : c = .lineOverrun ∨ (t.cause c).st ≠ .absent) : t.severity c ≠ 3 := by
    rw [State.severity_congr hb]
    exact hsev c (hk.elim .inl (hc c))
  refine ⟨hl.elim (fun hl => hl ▸ h3) fun hl => hl ▸ ?_, hsev'⟩
  by_cases hall : ∀ k, (t.cause k).st = .absent
  · rw [State.levelNow_of_all_absent hall]
    decide
  · obtain ⟨k, hk⟩ := not_forall.1 hall
    obtain ⟨c, hcst, he, -⟩ := State.levelNow_spec hk
    exact he ▸ hsev' c (.inr hcst)

theorem State.Calm.congr (h : s.Calm) (hb : t.boot = s.boot) (ha : t.att = s.att) : t.Calm :=
  h.of hb (.inl (by rw [ha])) fun _ hk => .inr (State.cause_congr ha _ ▸ hk)

theorem State.level_raise (s : State) (c : Cause) (d : Nat) :
    (s.raise c d).att.level = s.att.level ∨ (s.raise c d).att.level = (s.raise c d).levelNow := by
  by_cases h : (s.cause c).st = .absent
  · rw [State.raise_of_absent s c d h, State.level_recomputeLevel, State.levelNow_recomputeLevel]
    exact .inr rfl
  · rw [State.raise_of_not_absent s c d h]
    exact .inl rfl

theorem State.Calm.overrun (h : s.Calm) (d : Nat) : (s.raise .lineOverrun d).Calm :=
  h.of (s.get_raise (b := .boot) _ _ (by decide) (by decide)) (s.level_raise _ d) fun c hc => by
    rw [State.cause_raise] at hc
    split at hc
    · exact .inl ‹_›
    · exact .inr hc

theorem State.Calm.conditionEnd (h : s.Calm) (c : Cause) : (s.conditionEnd c).Calm := by
  refine h.of (s.get_conditionEnd (b := .boot) _ (by decide) (by decide) (by decide) (by decide)) ?_ fun k hk => .inr ?_
  · unfold State.conditionEnd
    dsimp only
    split
    · exact .inr (State.level_absentAll _ _)
    · exact .inl rfl
  · rw [State.cause_conditionEnd] at hk
    split at hk
    · next he =>
      intro ha
      rw [he] at ha
      simp [ha] at hk
    · exact hk

/-! ### The relation -/

theorem Quiet.refl (s : State) : Quiet s s := ⟨rfl, fun _ => id, id⟩

theorem State.exitPortOf_congr (hb : t.boot = s.boot) (hr : t.gate.rackRoute = s.gate.rackRoute) :
    t.exitPortOf = s.exitPortOf := by
  unfold State.exitPortOf
  rw [State.hasRole_congr hb, hr]

section
variable (h : Quiet s t)
include h

theorem Quiet.boot : t.boot = s.boot := congrArg (·.1) h.view
theorem Quiet.cu : t.cu = s.cu := congrArg (·.2.1) h.view
theorem Quiet.track : t.track = s.track := congrArg (·.2.2.1) h.view
theorem Quiet.marks : t.marks = s.marks := congrArg (·.2.2.2.1) h.view
theorem Quiet.ex : t.ex = s.ex := congrArg (·.2.2.2.2.1) h.view
theorem Quiet.released : t.bay.released = s.bay.released := congrArg (·.2.2.2.2.2.1) h.view
theorem Quiet.route : t.gate.rackRoute = s.gate.rackRoute := congrArg (·.2.2.2.2.2.2) h.view
theorem Quiet.port : t.exitPortOf = s.exitPortOf := State.exitPortOf_congr h.boot h.route

theorem Quiet.trans (k : Quiet t u) : Quiet s u where
  view := k.view.trans h.view
  set hne hs := by
    have := k.set (h.track ▸ hne) (h.port.symm ▸ h.set hne hs)
    rwa [h.port] at this
  calm := k.calm ∘ h.calm

/-- A head that may be offered may be offered still. -/
theorem Quiet.offerable {r : Rec} (hc : s.Calm) (hr : s.offerable = some r) : t.offerable = some r := by
  have hhead := s.head_of_offerable hr
  have hne : s.track ≠ [] := List.ne_nil_of_mem (State.mem_of_head hhead).1
  have hrole (x : Role) : t.hasRole x = s.hasRole x := State.hasRole_congr h.boot x
  unfold State.offerable at hr ⊢
  rw [State.head_congr h.track, hhead]
  rw [hhead] at hr
  dsimp only at hr ⊢
  split at hr
  · next hall =>
    refine if_pos ?_
    simp only [Bool.and_eq_true, bne_iff_ne, ne_eq] at hall ⊢
    obtain ⟨⟨⟨⟨⟨⟨⟨ha, hst⟩, ho⟩, hf⟩, -⟩, he⟩, hk⟩, hg⟩ := hall
    refine ⟨⟨⟨⟨⟨⟨⟨h.boot ▸ ha, hst⟩, h.marks ▸ ho⟩, h.marks ▸ hf⟩, (h.calm hc).1⟩, ?_⟩, ?_⟩, ?_⟩
    · simpa only [State.exposureMet, hrole, h.boot] using he
    · simpa only [State.keyCondition, State.bayRole, State.bayBound, hrole, h.released, h.boot] using hk
    · rw [h.port, hrole]
      simp only [Bool.or_eq_true] at hg ⊢
      exact hg.imp id (h.set hne)
  · exact absurd hr nofun

end

theorem Quiet.ite {c : Prop} [Decidable c] (h : c → Quiet s t) (k : ¬ c → Quiet s u) : Quiet s (if c then t else u) := by
  split
  · exact h ‹_›
  · exact k ‹_›

theorem Quiet.when {c : Prop} [Decidable c] (h : c → Quiet s t) : Quiet s (if c then t else s) := .ite h fun _ => .refl s

theorem Quiet.foldl {α : Type} {f : State → α → State} (hf : ∀ t x, Quiet t (f t x)) (l : List α) :
    ∀ s, Quiet s (l.foldl f s) := by
  induction l with
  | nil => exact .refl
  | cons x l ih => exact fun s => (hf s x).trans (ih _)

theorem Quiet.of (h : t.offerView = s.offerView) (hg : t.gate = s.gate) (hc : s.Calm → t.Calm) : Quiet s t :=
  ⟨h, fun _ => hg ▸ id, hc⟩

theorem Quiet.aside (h : t.offerView = s.offerView) (hg : t.gate = s.gate) (ha : t.att = s.att) : Quiet s t :=
  .of h hg fun hc => hc.congr (congrArg (·.1) h) ha

theorem Quiet.after (k : Quiet t u) (h : t.offerView = s.offerView) (hg : t.gate = s.gate) (ha : t.att = s.att) :
    Quiet s u := (Quiet.aside h hg ha).trans k

theorem State.offerView_of_get (h : ∀ b : Block, b.wired = true → b ≠ .att → t.get b = s.get b) :
    t.offerView = s.offerView ∧ t.gate = s.gate := by
  have hbay : t.bay = s.bay := h .bay rfl (by decide)
  have hgate : t.gate = s.gate := h .gate rfl (by decide)
  refine ⟨?_, hgate⟩
  unfold State.offerView
  rw [hbay, hgate, show t.boot = s.boot from h .boot rfl (by decide), show t.cu = s.cu from h .cu rfl (by decide),
    show t.track = s.track from h .track rfl (by decide), show t.marks = s.marks from h .marks rfl (by decide),
    show t.ex = s.ex from h .ex rfl (by decide)]

theorem Quiet.of_get (h : ∀ b : Block, b.wired = true → t.get b = s.get b) : Quiet s t :=
  .aside (State.offerView_of_get fun b hb _ => h b hb).1 (h .gate rfl) (h .att rfl)

/-! ### The operations -/

variable (s)

theorem State.sendPrompt_quiet (d : Station) (p : Payload) : Quiet s (s.sendPrompt d p) := by
  unfold State.sendPrompt
  refine .when fun _ => .ite (fun _ => .of_get fun b hb => s.get_setQueue _ (b.ne_of_wired hb rfl)) fun _ => ?_
  obtain ⟨hv, hg⟩ := State.offerView_of_get (s := s) (t := s.raise .lineOverrun (Payload.kind p)) fun b hb ha =>
    s.get_raise _ _ ha (b.ne_of_wired hb rfl)
  exact .of hv hg fun h => h.overrun _

theorem State.queueStatus_quiet : Quiet s s.queueStatus := .of_get fun b hb => s.get_queueStatus (b.ne_of_wired hb rfl)

theorem State.setStallMark_quiet (p : UpPort) (m : Bool) : Quiet s (s.setStallMark p m) :=
  .of_get fun b hb => s.get_setStallMark p m (b.ne_of_wired hb rfl)

theorem State.sendStalls_quiet : Quiet s s.sendStalls :=
  .foldl (fun t _ => .when fun _ => (t.setStallMark_quiet _ _).trans (State.sendPrompt_quiet _ _ _)) _ s

theorem State.sendGos_quiet : Quiet s s.sendGos :=
  .foldl (fun t _ => .when fun _ => (t.setStallMark_quiet _ _).trans (State.sendPrompt_quiet _ _ _)) _ s

theorem State.leaveRun_quiet : Quiet s s.leaveRun := by
  unfold State.leaveRun
  extract_lets src t
  refine Quiet.trans (t := t) (.aside rfl rfl rfl) (.when fun _ => ?_)
  have hget (b : Block) (hb : b.wired = true) (ha : b ≠ .att) : (t.conditionEnd .beltUnsteady).get b = t.get b := by
    by_cases he : b = .ex
    · subst he
      exact t.ex_conditionEnd (by decide)
    · exact t.get_conditionEnd _ ha he (b.ne_of_wired hb rfl) (b.ne_of_wired hb rfl)
  obtain ⟨hv, hg⟩ := State.offerView_of_get hget
  exact .of hv hg fun h => h.conditionEnd _

theorem State.enterHold_quiet : Quiet s s.enterHold := by
  unfold State.enterHold
  extract_lets d reg s₁ src s₂
  have e₁ : Quiet s s₁ := .when fun _ => s.leaveRun_quiet
  have e₂ : Quiet s₁ s₂ := .aside rfl rfl rfl
  exact ((e₁.trans e₂).trans s₂.queueStatus_quiet).trans (State.sendStalls_quiet _)

theorem State.enterSpinUp_quiet (f : Bool) : Quiet s (s.enterSpinUp f) := by
  unfold State.enterSpinUp
  extract_lets src t
  have e : Quiet s t := .aside rfl rfl rfl
  exact (e.trans t.queueStatus_quiet).trans (State.sendGos_quiet _)

theorem State.enterRegulated_quiet (b : BeltState) (l : Nat) : Quiet s (s.enterRegulated b l) :=
  (State.queueStatus_quiet _).after rfl rfl rfl

theorem State.switchRegulated_quiet (b : BeltState) : Quiet s (s.switchRegulated b) := by
  unfold State.switchRegulated
  extract_lets t
  have e : Quiet s t := .when fun _ => s.leaveRun_quiet
  exact e.trans ((State.queueStatus_quiet _).after rfl rfl rfl)

theorem State.followBelt_quiet : Quiet s s.followBelt := by
  unfold State.followBelt
  split
  · exact .refl s
  · exact .ite (fun _ => (s.enterRegulated_quiet _ _).trans (State.sendGos_quiet _)) fun _ => s.enterSpinUp_quiet _
  · exact .when fun _ => s.enterHold_quiet
  · exact .aside rfl rfl rfl
  · exact .refl s
  · exact s.switchRegulated_quiet _
  · exact s.enterHold_quiet
  · exact .refl s
  · exact s.switchRegulated_quiet _
  · exact s.enterHold_quiet
  · exact .refl s

theorem State.updateTarget_quiet : Quiet s s.updateTarget :=
  .of_get fun b hb => s.get_updateTarget (b.ne_of_wired hb rfl)

theorem State.freeSpans_quiet : Quiet s s.freeSpans := .of_get fun b hb => s.get_freeSpans (b.ne_of_wired hb rfl)

theorem State.followIdle_quiet : Quiet s s.followIdle := .of_get fun b hb => s.get_followIdle (b.ne_of_wired hb rfl)

theorem State.unaccountedStep_quiet : Quiet s s.unaccountedStep :=
  .of_get fun b hb => s.get_unaccountedStep (b.ne_of_wired hb rfl)

theorem State.pendingWake_quiet : Quiet s s.pendingWake := by
  unfold State.pendingWake
  exact .when fun _ => (State.enterSpinUp_quiet _ false).after rfl rfl rfl

theorem State.callLampStep_quiet : Quiet s s.callLampStep := .aside rfl rfl rfl

theorem State.attLampStep_quiet : Quiet s s.attLampStep :=
  .of rfl rfl fun h => h.of rfl (.inl rfl) fun _ => .inr

theorem State.bayFollows_quiet : Quiet s s.bayFollows := by
  refine Quiet.trans (t := s.wantStep) ?_ (State.callLampStep_quiet _)
  unfold State.wantStep
  extract_lets src t
  have e : Quiet s t := .aside rfl rfl rfl
  exact .when fun _ => e.trans (.when fun _ => .of_get fun b hb => t.get_queueWant (b.ne_of_wired hb rfl))

theorem State.takeNoted_quiet (p : UpPort) : Quiet s (s.takeNoted p) := by
  unfold State.takeNoted
  split
  · exact .refl s
  · unfold State.takeOffer
    split
    · exact .refl s
    · extract_lets s₁ src s₂ s₃ src' s₄
      have e₁ : Quiet s s₁ := .of_get fun b hb => s.get_setSlot _ _ (b.ne_of_wired hb rfl)
      have e₂ : Quiet s₁ s₂ := .aside rfl rfl rfl
      have e₃ : Quiet s₂ s₃ := .of_get fun b hb => s₂.get_setNoted _ _ (b.ne_of_wired hb rfl)
      have e₄ : Quiet s₃ s₄ := .when fun _ => .aside rfl rfl rfl
      exact (((e₁.trans e₂).trans e₃).trans e₄).trans (s₄.sendPrompt_quiet _ _)

/-- The gate of a DIVERT that stands where the head goes does not move. -/
theorem State.gateStep_quiet : Quiet s s.gateStep := by
  have hrest {g : Gate} (hr : g.rackRoute = s.gate.rackRoute) (hp : s.track ≠ [] → s.gate.setFor s.exitPortOf = true →
      g.setFor s.exitPortOf = true) : Quiet s { s with gate := g } :=
    ⟨by unfold State.offerView; dsimp only; rw [hr], hp, fun h => h.congr rfl rfl⟩
  unfold State.gateStep
  refine .when fun hd => ?_
  split
  · exact .ite (fun _ => .refl s) fun _ => hrest rfl fun _ => id
  · next rt hrt =>
    refine .ite (fun _ => .ite (fun _ => .refl s) fun _ => hrest rfl fun _ => id) fun _ =>
      .ite (fun _ => hrest rfl fun _ => id) fun hset => .ite (fun _ => hrest rfl fun _ => id) fun _ =>
      hrest rfl fun hne hs => absurd ?_ hset
    have hroute : s.gate.rackRoute = some rt := by
      rwa [State.claimantRoute, if_pos hne] at hrt
    rwa [State.exitPortOf, if_pos hd, hroute] at hs

/-! ### A pass around the test of the offer -/

/-- A pass up to the test of the offer. -/
def State.beforeOffer (s : State) : State := s.bayFollows.withdrawAtLevel3.freeSpans.pendingWake.gateStep

/-- A pass from the test of the offer on. -/
def State.afterOffer (entry : Bool) (s : State) : State :=
  let s := s.followBelt.updateTarget
  let s := if entry then s.readyStep else s
  s.followIdle.bayFollows.unaccountedStep

theorem State.pass_eq_around (b : Bool) : s.pass b = s.beforeOffer.offerStep.afterOffer b := rfl

theorem State.withdrawAtLevel3_of_calm (h : s.Calm) : s.withdrawAtLevel3 = s := if_neg h.1

theorem State.restrict3_of_calm (h : s.Calm) : s.restrict3 = s := if_neg h.1

theorem State.beforeOffer_quiet (h : s.Calm) : Quiet s s.beforeOffer := by
  unfold State.beforeOffer
  rw [State.withdrawAtLevel3_of_calm _ (s.bayFollows_quiet.calm h)]
  exact (s.bayFollows_quiet.trans (State.freeSpans_quiet _)).trans
    ((State.pendingWake_quiet _).trans (State.gateStep_quiet _))

theorem State.afterOffer_quiet (b : Bool) : Quiet s (s.afterOffer b) := by
  unfold State.afterOffer
  extract_lets t u
  have ht : Quiet s t := s.followBelt_quiet.trans (State.updateTarget_quiet _)
  have hu : Quiet t u := .when fun _ => (t.takeNoted_quiet _).trans (State.takeNoted_quiet _ _)
  exact (ht.trans hu).trans ((u.followIdle_quiet.trans (State.bayFollows_quiet _)).trans (State.unaccountedStep_quiet _))

theorem State.finish_quiet (h : s.Calm) : Quiet s s.finish := by
  unfold State.finish
  rw [State.restrict3_of_calm s h]
  exact s.callLampStep_quiet.trans (State.attLampStep_quiet _)

theorem State.offerStep_of_none (h : s.offerable = none) : s.offerStep = s := by
  show s.offerLoop 13 = s
  unfold State.offerLoop
  rw [h]

theorem State.pass_quiet (b : Bool) (h : s.Calm) (hn : s.beforeOffer.offerable = none) : Quiet s (s.pass b) := by
  rw [State.pass_eq_around, State.offerStep_of_none _ hn]
  exact (s.beforeOffer_quiet h).trans (State.afterOffer_quiet _ b)

end

end Sys2Proof.Machine

/-! # The release without an exchange (R39, R85) -/

namespace Sys2Proof.Machine

/-- A record of the track is released, and so is each of its name. -/
def State.Rests (s : State) (q : Rec) : Prop := q ∈ s.track ∧ ∀ x ∈ s.track, x.id = q.id → x.handed = true

/-- An operation of a pass: it keeps the released records, and where the exit port has no neighbour it uses no
serial. -/
structure Frees (s t : State) : Prop where
  boot : t.boot = s.boot
  route : t.gate.rackRoute = s.gate.rackRoute
  rests : ∀ q, s.Rests q → t.Rests q
  ex : s.downStation s.exitPortOf = 0 →
    t.ex.lost = s.ex.lost ∧ t.ex.serial0 = s.ex.serial0 ∧ t.ex.serial1 = s.ex.serial1

section
variable {s t u : State}

theorem State.downStation_congr (hb : t.boot = s.boot) (p : DownPort) : t.downStation p = s.downStation p := by
  cases p <;> simp only [State.downStation, hb]

theorem Frees.unwired (h : Frees s t) (hd : s.downStation s.exitPortOf = 0) : t.downStation t.exitPortOf = 0 := by
  rw [State.exitPortOf_congr h.boot h.route, State.downStation_congr h.boot]
  exact hd

theorem Frees.trans (h : Frees s t) (k : Frees t u) : Frees s u where
  boot := k.boot.trans h.boot
  route := k.route.trans h.route
  rests q := k.rests q ∘ h.rests q
  ex hd := by
    obtain ⟨hl, h0, h1⟩ := h.ex hd
    obtain ⟨kl, k0, k1⟩ := k.ex (h.unwired hd)
    exact ⟨kl.trans hl, k0.trans h0, k1.trans h1⟩

theorem Frees.of_track (hb : t.boot = s.boot) (hg : t.gate = s.gate) (ht : t.track = s.track)
    (hx : t.ex.lost = s.ex.lost ∧ t.ex.serial0 = s.ex.serial0 ∧ t.ex.serial1 = s.ex.serial1) : Frees s t :=
  ⟨hb, congrArg _ hg, fun _ => by unfold State.Rests; rw [ht]; exact id, fun _ => hx⟩

theorem Frees.of_get (h : ∀ b : Block, b.wired = true → b ≠ .att → t.get b = s.get b) : Frees s t :=
  .of_track (h .boot rfl (by decide)) (h .gate rfl (by decide)) (h .track rfl (by decide)) <| by
    rw [show t.ex = s.ex from h .ex rfl (by decide)]
    exact ⟨rfl, rfl, rfl⟩

theorem Frees.refl (s : State) : Frees s s := .of_track rfl rfl rfl ⟨rfl, rfl, rfl⟩

theorem Quiet.frees (h : Quiet s t) : Frees s t :=
  ⟨h.boot, h.route, fun _ => by unfold State.Rests; rw [h.track]; exact id, fun _ => by rw [h.ex]; exact ⟨rfl, rfl, rfl⟩⟩

theorem Frees.ite {c : Prop} [Decidable c] (h : c → Frees s t) (k : ¬ c → Frees s u) : Frees s (if c then t else u) := by
  split
  · exact h ‹_›
  · exact k ‹_›

theorem Frees.when {c : Prop} [Decidable c] (h : c → Frees s t) : Frees s (if c then t else s) := .ite h fun _ => .refl s

variable (s)

/-- Records of a name that a record not released has, changed in place. -/
theorem State.updRec_frees {r : Rec} (f : Rec → Rec) (hm : r ∈ s.track) (hh : r.handed = false)
    (hid : ∀ x, (f x).id = x.id) : Frees s (s.updRec r.id f) := by
  refine ⟨rfl, rfl, fun q ⟨hq, hall⟩ => ?_, fun _ => ⟨rfl, rfl, rfl⟩⟩
  have hne : q.id ≠ r.id := fun he => absurd (hh.symm.trans (hall r hm he.symm)) Bool.noConfusion
  refine ⟨List.mem_map.2 ⟨q, hq, if_neg hne⟩, fun x hx he => ?_⟩
  obtain ⟨y, hy, rfl⟩ := List.mem_map.1 hx
  by_cases hi : y.id = r.id
  · rw [if_pos hi, hid] at he
    exact absurd (he.symm.trans hi) hne
  · rw [if_neg hi] at he ⊢
    exact hall y hy he

theorem State.updHead_frees {r : Rec} (hr : s.head = some r) (f : Rec → Rec) (hid : ∀ x, (f x).id = x.id) :
    Frees s (s.updRec r.id f) :=
  s.updRec_frees f (State.mem_of_head hr).1 (State.mem_of_head hr).2 hid

theorem State.stopFired_frees : Frees s s.stopFired := by
  unfold State.stopFired
  split
  · exact .refl s
  · next r hr =>
    refine .when fun _ => ?_
    extract_lets t
    have ht : Frees s t := s.updHead_frees hr _ fun _ => rfl
    have hm : ({ r with state := .atBay } : Rec) ∈ t.track :=
      s.mem_updRec (fun r => { r with state := .atBay }) (State.mem_of_head hr).1
    have hflag : Frees t (t.flagRec r.id { misrouted := true }) :=
      t.updRec_frees (r := { r with state := .atBay }) _ hm rfl fun _ => rfl
    exact ht.trans (.when fun _ => hflag.trans (.of_get fun b hb ha => State.get_raise _ _ _ ha (b.ne_of_wired hb rfl)))

theorem State.rehead_frees : Frees s s.rehead := by
  unfold State.rehead
  split
  · next r hr =>
    refine .ite (fun _ => .refl s) fun _ => ?_
    extract_lets src t u
    have htu : Frees t u := .when fun _ => t.updHead_frees hr _ fun _ => rfl
    refine Frees.trans (t := t) (.of_track rfl rfl rfl ⟨rfl, rfl, rfl⟩) (htu.trans ?_)
    unfold State.loadGroup
    extract_lets c k g v
    exact Frees.trans (t := v) (.of_track rfl rfl rfl ⟨rfl, rfl, rfl⟩) (.when fun _ => v.stopFired_frees)
  · split
    · exact .refl s
    · exact .ite (fun _ => .refl s) fun _ => .of_track rfl rfl rfl ⟨rfl, rfl, rfl⟩

theorem State.withdrawHead_frees : Frees s s.withdrawHead := by
  unfold State.withdrawHead
  split
  · next r hr =>
    refine .when fun _ => Frees.trans (t := s.sendWithdraw r) ?_
      (State.updHead_frees _ ((State.head_congr (s.track_sendWithdraw r)).trans hr) _ fun _ => rfl)
    unfold State.sendWithdraw
    extract_lets src t
    have ht : Frees s t := .of_track rfl rfl rfl ⟨rfl, rfl, rfl⟩
    split
    · exact ht.trans (t.sendPrompt_quiet _ _).frees
    · exact ht
  · exact .refl s

variable {s} {r : Rec}

theorem State.letGo_frees (hr : s.head = some r) (f : Rec → Rec) (hid : ∀ x, (f x).id = x.id) : Frees s (s.letGo r f) := by
  unfold State.letGo
  extract_lets t u
  have ht : Frees s t := s.updHead_frees hr _ fun x => hid _
  have hu : Frees t u := .when fun _ => .of_track rfl rfl rfl ⟨rfl, rfl, rfl⟩
  exact ht.trans (hu.trans (.of_track rfl rfl rfl ⟨rfl, rfl, rfl⟩))

/-- What the release without an exchange makes of a record besides releasing it. -/
def Rec.freed (p : DownPort) (q : Rec) : Rec := { q with exitPort := some p, exitSerial := none, landing := some .ok }

theorem Rec.handed_freed (q : Rec) (c : Count) (p : DownPort) : (Rec.freed p (q.released c)).handed = true :=
  q.handed_released c

theorem State.releaseFree_eq (s : State) (r : Rec) (p : DownPort) : s.releaseFree r p =
    if s.steersRecord r then ((s.letGo r (Rec.freed p)).rehead).steeredAdd p r.number 0
    else (s.letGo r (Rec.freed p)).rehead := rfl

theorem State.get_releaseFree_eq {b : Block} (p : DownPort) (h : b ≠ .rt) :
    (s.releaseFree r p).get b = (s.letGo r (Rec.freed p)).rehead.get b := by
  rw [State.releaseFree_eq]
  split
  · exact State.get_steeredAdd _ _ _ _ h
  · rfl

theorem State.releaseFree_frees (hr : s.head = some r) (p : DownPort) : Frees s (s.releaseFree r p) :=
  ((State.letGo_frees hr (Rec.freed p) fun _ => rfl).trans (State.rehead_frees _)).trans <|
    .of_get fun b hb _ => State.get_releaseFree_eq p (b.ne_of_wired hb rfl)

/-- The release without an exchange leaves its record released, with no other of its name on the belt. -/
theorem State.rests_releaseFree (hr : s.head = some r) (p : DownPort) :
    (s.releaseFree r p).Rests (Rec.freed p (r.released s.cu.count)) := by
  have hgo : (s.letGo r (Rec.freed p)).Rests (Rec.freed p (r.released s.cu.count)) := by
    unfold State.Rests
    rw [State.track_letGo]
    refine ⟨List.mem_map.2 ⟨r, (State.mem_of_head hr).1, if_pos rfl⟩, fun x hx he => ?_⟩
    obtain ⟨y, -, rfl⟩ := List.mem_map.1 hx
    by_cases hi : y.id = r.id
    · rw [if_pos hi]
      exact y.handed_freed _ p
    · rw [if_neg hi] at he
      exact absurd he hi
  have ht : (s.releaseFree r p).track = _ := State.get_releaseFree_eq (b := .track) p (by decide)
  unfold State.Rests
  rw [ht]
  exact (State.rehead_frees _).rests _ hgo

theorem State.ex_releaseFree (p : DownPort) : (s.releaseFree r p).ex = { s.ex with resend := none, patience := none } :=
  (State.get_releaseFree_eq (b := .ex) p (by decide)).trans
    ((State.get_rehead (b := .ex) _ (by decide) (by decide) (by decide) (by decide) (by decide)).trans (s.ex_letGo r _))

/-- The offer of a record (R84). -/
def Rec.offeredAs (p : DownPort) (n : Serial) (q : Rec) : Rec :=
  { q with state := .offered, exitPort := some p, exitSerial := some n, answered := false }

theorem State.track_sendOffer (s : State) (r : Rec) (p : DownPort) :
    (s.sendOffer r p).track = (s.updRec r.id (Rec.offeredAs p (s.nextSerial p))).track := by
  unfold State.sendOffer
  extract_lets n s₁ s₂ s₃ src s₄
  have h₃ : s₃.track = s₂.track := s₂.get_discardReused (b := .track) _ _ (by decide)
  have h₁ : s₁.track = s.track := s.get_bumpSerial (b := .track) _ (by decide)
  refine (s₄.get_sendPrompt (b := .track) _ _ (by decide) (by decide)).trans (h₃.trans ?_)
  exact congrArg (List.map _) h₁

theorem State.sendOffer_frees (hr : s.head = some r) (hd : s.downStation s.exitPortOf ≠ 0) (p : DownPort) :
    Frees s (s.sendOffer r p) where
  boot := s.get_sendOffer (b := .boot) r p (by decide) (by decide) (by decide) (by decide)
  route := congrArg Gate.rackRoute (s.get_sendOffer (b := .gate) r p (by decide) (by decide) (by decide) (by decide))
  rests q hq := by
    unfold State.Rests
    rw [State.track_sendOffer]
    exact (s.updHead_frees hr (Rec.offeredAs p (s.nextSerial p)) fun _ => rfl).rests q hq
  ex h := absurd h hd

theorem State.offerLoop_frees : ∀ (k : Nat) (s : State), Frees s (s.offerLoop k)
  | 0, s => .refl s
  | k + 1, s => by
    unfold State.offerLoop
    split
    · exact .refl s
    · next r hr =>
      have hh := s.head_of_offerable hr
      exact (Frees.ite (fun _ => State.releaseFree_frees hh _) fun hd => State.sendOffer_frees hh hd _).trans
        (State.offerLoop_frees k _)

theorem State.pass_frees (b : Bool) (s : State) : Frees s (s.pass b) := by
  rw [State.pass_eq_around]
  refine Frees.trans ?_ ((State.offerLoop_frees 13 _).trans (State.afterOffer_quiet _ b).frees)
  have hdraw : Frees s.bayFollows s.bayFollows.withdrawAtLevel3 := by
    unfold State.withdrawAtLevel3
    exact .when fun _ => State.withdrawHead_frees _
  refine s.bayFollows_quiet.frees.trans (hdraw.trans ?_)
  exact ((State.freeSpans_quiet _).trans ((State.pendingWake_quiet _).trans (State.gateStep_quiet _))).frees

theorem State.finish_frees (s : State) : Frees s s.finish := by
  refine Frees.trans (t := s.restrict3) ?_ ((State.callLampStep_quiet _).trans (State.attLampStep_quiet _)).frees
  unfold State.restrict3
  refine .when fun _ => s.withdrawHead_frees.trans (.ite (fun _ => .refl _) fun _ => ?_)
  exact ((State.enterHold_quiet _).trans (State.updateTarget_quiet _)).frees

/-! ### The release of a head whose exit port has no neighbour -/

/-- A loop of releases without an exchange changes the exit side by the timers of the offer alone. -/
theorem State.ex_offerLoop_unwired : ∀ (k : Nat) (s : State), s.downStation s.exitPortOf = 0 →
    s.ex.resend = none → s.ex.patience = none → (s.offerLoop k).ex = s.ex
  | 0, _, _, _, _ => rfl
  | k + 1, s, hd, h₁, h₂ => by
    unfold State.offerLoop
    split
    · rfl
    · next r hr =>
      have hx : (s.releaseFree r s.exitPortOf).ex = s.ex := by
        rw [State.ex_releaseFree]
        cases hs : s.ex
        simp_all
      dsimp only
      rw [if_pos hd, State.ex_offerLoop_unwired k _
        ((State.releaseFree_frees (s.head_of_offerable hr) _).unwired hd) (hx ▸ h₁) (hx ▸ h₂), hx]

/-- Where no next head can come AT-BAY, the promotion of the next head raises nothing. -/
theorem State.rehead_silent {b : Block} (h : s.bayRole = false ∨ s.head = none) (hb : b = .line ∨ b = .att) :
    s.rehead.get b = s.get b := by
  have hne {k : Block} (h₁ : k ≠ .line) (h₂ : k ≠ .att) : b ≠ k := hb.elim (fun e => e ▸ h₁.symm) fun e => e ▸ h₂.symm
  unfold State.rehead
  split
  · next r hr =>
    have hbay : s.bayRole = false := h.resolve_right (by rw [hr]; nofun)
    split
    · rfl
    · extract_lets src t u
      have hu : u.get b = s.get b := by
        refine Eq.trans (b := t.get b) ?_ (State.get_bay _ _ (hne (by decide) (by decide)))
        show (ite _ _ _ : State).get b = _
        split
        · exact State.get_updRec _ _ _ (hne (by decide) (by decide))
        · rfl
      unfold State.loadGroup
      extract_lets c k g v
      have hv : v.get b = s.get b := (State.get_marks _ _ (hne (by decide) (by decide))).trans hu
      split
      · have hvbay : v.bayRole = false := (State.bayRole_congr (by simp only [v, u]; split <;> rfl)).trans hbay
        unfold State.stopFired
        split
        · exact hv
        · rw [hvbay]
          exact hv
      · exact hv
  · split
    · rfl
    · split
      · rfl
      · exact State.get_marks _ _ (hne (by decide) (by decide))

theorem State.offerable_of_no_head (h : s.head = none) : s.offerable = none := by
  unfold State.offerable
  rw [h]

theorem State.offerStep_of_free (hr : s.offerable = some r) (hd : s.downStation s.exitPortOf = 0) :
    s.offerStep = (s.releaseFree r s.exitPortOf).offerLoop 12 := by
  show s.offerLoop 13 = _
  rw [State.offerLoop, hr]
  dsimp only
  rw [if_pos hd]

theorem State.releaseFree_silent {b : Block} (hb : b = .line ∨ b = .att) (p : DownPort)
    (h : s.bayRole = false ∨ (s.letGo r (Rec.freed p)).head = none) : (s.releaseFree r p).get b = s.get b := by
  have hrt : b ≠ .rt := by rintro rfl; exact absurd hb (by decide)
  have hgo : (s.letGo r (Rec.freed p)).boot = s.boot ∧ (s.letGo r (Rec.freed p)).get b = s.get b := by
    unfold State.letGo
    dsimp only
    rcases hb with rfl | rfl <;> split <;> exact ⟨rfl, rfl⟩
  rw [State.get_releaseFree_eq p hrt, State.rehead_silent (h.imp_left ((State.bayRole_congr hgo.1).trans ·)) hb, hgo.2]

theorem State.offerLoop_silent {b : Block} (hb : b = .line ∨ b = .att) : ∀ (k : Nat) (s : State),
    s.bayRole = false → s.downStation s.exitPortOf = 0 → (s.offerLoop k).get b = s.get b
  | 0, _, _, _ => rfl
  | k + 1, s, hbay, hd => by
    unfold State.offerLoop
    split
    · rfl
    · next r hr =>
      have hf := State.releaseFree_frees (s.head_of_offerable hr) s.exitPortOf
      dsimp only
      rw [if_pos hd, State.offerLoop_silent hb k _ ((State.bayRole_congr hf.boot).trans hbay) (hf.unwired hd),
        State.releaseFree_silent hb _ (.inl hbay)]

/-- After the release of the last record not released there is none to offer. -/
theorem State.last_releaseFree (p : DownPort) (hall : ∀ q ∈ s.track, q.id ≠ r.id → q.handed = true) :
    (s.letGo r (Rec.freed p)).head = none ∧ (s.releaseFree r p).offerable = none := by
  have hnone : (s.letGo r (Rec.freed p)).head = none := by
    refine List.find?_eq_none.2 fun x hx => ?_
    rw [State.track_letGo] at hx
    obtain ⟨y, hy, rfl⟩ := List.mem_map.1 hx
    by_cases hi : y.id = r.id
    · rw [if_pos hi, Rec.handed_freed]
      decide
    · rw [if_neg hi, hall y hy hi]
      decide
  have htrack : (s.letGo r (Rec.freed p)).rehead.track = (s.letGo r (Rec.freed p)).track := by
    unfold State.rehead
    rw [hnone]
    dsimp only
    split
    · rfl
    · split <;> rfl
  refine ⟨hnone, State.offerable_of_no_head ((State.head_congr ?_).trans hnone)⟩
  exact (State.get_releaseFree_eq (b := .track) p (by decide)).trans htrack

section
variable (hr : s.offerable = some r) (hd : s.downStation s.exitPortOf = 0)
include hr hd

theorem State.rests_offerStep : s.offerStep.Rests (Rec.freed s.exitPortOf (r.released s.cu.count)) := by
  rw [State.offerStep_of_free hr hd]
  exact (State.offerLoop_frees 12 _).rests _ (State.rests_releaseFree (s.head_of_offerable hr) _)

theorem State.ex_offerStep_free : s.offerStep.ex = { s.ex with resend := none, patience := none } := by
  have hx := s.ex_releaseFree (r := r) s.exitPortOf
  rw [State.offerStep_of_free hr hd, State.ex_offerLoop_unwired 12 _
    ((State.releaseFree_frees (s.head_of_offerable hr) _).unwired hd) (by rw [hx]) (by rw [hx]), hx]

/-- Where no next head can come AT-BAY, no frame goes out and no cause is raised. -/
theorem State.offerStep_silent {b : Block} (hb : b = .line ∨ b = .att)
    (h : s.bayRole = false ∨ ∀ q ∈ s.track, q.id ≠ r.id → q.handed = true) : s.offerStep.get b = s.get b := by
  rcases h with hbay | hall
  · exact State.offerLoop_silent hb 13 s hbay hd
  · obtain ⟨hnone, hstop⟩ := State.last_releaseFree s.exitPortOf hall
    rw [State.offerStep_of_free hr hd, State.offerLoop, hstop]
    exact State.releaseFree_silent hb _ (.inr hnone)

/-- A derived round of a calm state releases the head. -/
theorem State.rests_round (hc : s.Calm) (b : Bool) :
    (s.round b).Rests (Rec.freed s.exitPortOf (r.released s.cu.count)) := by
  have hq := s.beforeOffer_quiet hc
  have hrest : s.beforeOffer.offerStep.Rests (Rec.freed s.exitPortOf (r.released s.cu.count)) := by
    rw [← hq.port, ← hq.cu]
    exact State.rests_offerStep (hq.offerable hc hr) (hq.frees.unwired hd)
  exact ((State.afterOffer_quiet _ b).frees.trans (((State.pass_frees b _).trans (State.pass_frees b _)).trans
    (State.finish_frees _))).rests _ hrest

end

theorem State.round_frees (s : State) (b : Bool) : Frees s (s.round b) :=
  ((s.pass_frees b).trans ((State.pass_frees b _).trans (State.pass_frees b _))).trans (State.finish_frees _)

/-! ### The offer of a head -/

theorem exec_residenceExposureMet_of_due (h : s.Runs) (ht : s.hasRole .tunnel = true) (hm : 0 < s.boot.prof.minExposure)
    (hr : s.offerable = some r) : exec .residenceExposureMet s = .next s.settle := by
  show live s s.doResidenceExposureMet = _
  rw [live_of_runs h, State.doResidenceExposureMet, ht, hr]
  simp [hm]

theorem State.level_of_offerable (hr : s.offerable = some r) : s.att.level ≠ 3 := by
  intro h3
  unfold State.offerable at hr
  rw [h3] at hr
  split at hr
  · exact absurd hr nofun
  · simp at hr

/-- An OFFERED head is not offered again. -/
theorem State.offerable_of_offered {q : Rec} (h : s.head = some q) (ho : q.state = .offered) : s.offerable = none := by
  unfold State.offerable
  rw [h]
  refine if_neg fun hc => ?_
  rw [ho] at hc
  simp at hc

theorem find_offered (p : DownPort) (n : Serial) : ∀ {l : List Rec}, l.find? (fun x => !x.handed) = some r →
    ∃ q, (l.map fun x => if x.id = r.id then x.offeredAs p n else x).find? (fun x => !x.handed) = some q
      ∧ q.state = .offered
  | a :: l, hr => by
    rw [List.find?_cons] at hr
    rw [List.map_cons, List.find?_cons]
    by_cases ha : a.id = r.id
    · rw [if_pos ha]
      exact ⟨_, rfl, rfl⟩
    · rw [if_neg ha]
      cases hd : a.handed with
      | true =>
        rw [hd] at hr
        exact find_offered p n hr
      | false =>
        rw [hd] at hr
        exact absurd (congrArg Rec.id (Option.some.inj hr)) ha

theorem State.head_sendOffer (hr : s.head = some r) (p : DownPort) :
    ∃ q, (s.sendOffer r p).head = some q ∧ q.state = .offered := by
  unfold State.head
  rw [State.track_sendOffer]
  exact find_offered p _ hr

theorem State.offerStep_of_wired (hr : s.offerable = some r) (hd : s.downStation s.exitPortOf ≠ 0) :
    s.offerStep = s.sendOffer r s.exitPortOf := by
  obtain ⟨q, hq, ho⟩ := State.head_sendOffer (s.head_of_offerable hr) s.exitPortOf
  show s.offerLoop 13 = _
  rw [State.offerLoop, hr]
  dsimp only
  rw [if_neg hd, State.offerLoop, State.offerable_of_offered hq ho]

theorem State.sendOffer_sends (s : State) (r : Rec) (p : DownPort) :
    (s.sendOffer r p).ex.sendCount = 1 ∧ (s.sendOffer r p).ex.resend = some 10
      ∧ (s.sendOffer r p).nextSerial p = s.nextSerial p + 1
      ∧ (s.Calm → (s.sendOffer r p).Calm)
      ∧ (s.HasRoom → (s.sendOffer r p).Sends ⟨s.downStation p, .offer (s.nextSerial p) r.image
          (lengthField s.boot.prof.k r.length)⟩) := by
  unfold State.sendOffer
  extract_lets n s₁ s₂ s₃ src s₄
  have hex : (s₄.sendPrompt (s₄.downStation p) (s₄.offerPayload r n)).ex = s₄.ex :=
    s₄.get_sendPrompt (b := .ex) _ _ (by decide) (by decide)
  have hget {b : Block} (h₁ : b ≠ .ex) (h₂ : b ≠ .track) : s₄.get b = s.get b :=
    (State.get_ex _ _ h₁).trans <| (s₂.get_discardReused _ _ h₁).trans <|
      (State.get_updRec _ _ _ h₂).trans (s.get_bumpSerial _ h₁)
  have hboot : s₄.boot = s.boot := hget (b := .boot) (by decide) (by decide)
  have hline : s₄.line = s.line := hget (b := .line) (by decide) (by decide)
  have hserial : s₄.nextSerial p = s.nextSerial p + 1 := by
    refine Eq.trans ?_ (s.nextSerial_bumpSerial_self p)
    show s₃.nextSerial p = s₁.nextSerial p
    simp only [s₃, State.discardReused]
    split <;> cases p <;> rfl
  refine ⟨by rw [hex], by rw [hex]; rfl, ?_, fun hc => ?_, fun hroom => ?_⟩
  · rw [← hserial]
    cases p <;> simp only [State.nextSerial, hex]
  · exact (s₄.sendPrompt_quiet _ _).calm (hc.congr hboot (hget (b := .att) (by decide) (by decide)))
  · have hroom' : s₄.HasRoom := by
      simp only [State.HasRoom, State.canQueue, hboot, hline]
      exact hroom
    have hsent := State.sends_sendPrompt (s := s₄) (s₄.downStation p) (s₄.offerPayload r n) hroom'
    rw [State.downStation_congr hboot] at hsent ⊢
    rw [State.offerPayload, hboot] at hsent ⊢
    exact hsent

theorem State.pass_quiet_of_offered {q : Rec} (hc : s.Calm) (h : s.head = some q) (ho : q.state = .offered) (b : Bool) :
    Quiet s (s.pass b) :=
  s.pass_quiet b hc <| State.offerable_of_offered ((State.head_congr (s.beforeOffer_quiet hc).track).trans h) ho

/-- A derived round of a calm state offers the head, and lets the offer stand. -/
theorem State.round_offers (hc : s.Calm) (hr : s.offerable = some r) (hd : s.downStation s.exitPortOf ≠ 0) (b : Bool) :
    ∃ u, Quiet s u ∧ Quiet (u.sendOffer r s.exitPortOf) (s.round b) := by
  have hq := s.beforeOffer_quiet hc
  have hur := hq.offerable hc hr
  have hud : s.beforeOffer.downStation s.beforeOffer.exitPortOf ≠ 0 := by
    rw [hq.port, State.downStation_congr hq.boot]
    exact hd
  obtain ⟨q, hh, ho⟩ := State.head_sendOffer (State.head_of_offerable _ hur) s.exitPortOf
  have hcalm := (State.sendOffer_sends s.beforeOffer r s.exitPortOf).2.2.2.1 (hq.calm hc)
  have h₁ : Quiet (s.beforeOffer.sendOffer r s.exitPortOf) (s.pass b) := by
    rw [State.pass_eq_around, State.offerStep_of_wired hur hud, hq.port]
    exact State.afterOffer_quiet _ b
  have hstep {v : State} (hv : Quiet (s.beforeOffer.sendOffer r s.exitPortOf) v) :
      Quiet (s.beforeOffer.sendOffer r s.exitPortOf) (v.pass b) :=
    hv.trans (State.pass_quiet_of_offered (hv.calm hcalm) ((State.head_congr hv.track).trans hh) ho b)
  have h₃ := hstep (hstep h₁)
  exact ⟨_, hq, h₃.trans (State.finish_quiet _ (h₃.calm hcalm))⟩

end

/-- Settles O19: the test of the offer by what it reads, the offer that a calm round lets stand, and the release
that every later operation of a pass keeps. -/
theorem exposureMetOffersTheHead : Obligations.ExposureMetOffersTheHead := by
  unfold Obligations.ExposureMetOffersTheHead
  have hcalm {s : State} {r : Rec} (hr : s.offerable = some r) (hov : s.severity .lineOverrun ≠ 3)
      (hall : ∀ c, (s.cause c).st ≠ .absent → s.severity c ≠ 3) : s.Calm :=
    ⟨s.level_of_offerable hr, fun c h => h.elim (fun e => e ▸ hov) (hall c)⟩
  refine ⟨fun s r hs ht hm => ⟨?met, fun hr hd0 => ?offer⟩, fun s r hr hd => ?free⟩
  case met =>
    unfold State.exposureMet
    simp [ht, hm]
  case offer =>
    have hport : s.exitPortOf = .d0 :=
      if_neg fun hdiv => absurd (State.hasRole_unique ht hdiv) (by decide)
    have hd : s.downStation s.exitPortOf ≠ 0 := by
      rw [hport]
      exact hd0
    have hmem := (State.mem_of_head (s.head_of_offerable hr)).1
    have hoff (v : State) (hv : v.track = s.track) (hx : v.ex = s.ex) : ∃ q ∈ (v.sendOffer r .d0).track,
        q.id = r.id ∧ q.state = .offered ∧ q.exitPort = some .d0 ∧ q.exitSerial = some s.ex.serial0
          ∧ q.answered = false := by
      rw [State.track_sendOffer]
      exact ⟨_, State.mem_updRec (r := r) v (Rec.offeredAs .d0 _) (hv ▸ hmem), rfl, rfl, rfl, by rw [← hx]; rfl, rfl⟩
    have hstep : s.offerStep = s.sendOffer r .d0 := hport ▸ State.offerStep_of_wired hr hd
    obtain ⟨hcount, hresend, hserial, -, hsend⟩ := State.sendOffer_sends s r .d0
    refine ⟨exec_residenceExposureMet_of_due hs ht hm hr, hstep, ?_⟩
    rw [hstep]
    refine ⟨hoff s rfl rfl, hserial, hcount, hresend, fun hov hall => ?_, hsend⟩
    obtain ⟨u, hu, hround⟩ := State.round_offers (hcalm hr hov hall) hr hd true
    rw [hport] at hround
    have hsettle : s.settle = s.round true := rfl
    rw [hsettle, hround.track, hround.ex]
    obtain ⟨-, -, hser, -, -⟩ := State.sendOffer_sends u r .d0
    exact ⟨hoff u hu.track hu.ex, hser.trans (by rw [State.nextSerial, hu.ex])⟩
  case free =>
    have hfree (b : Bool) (hc : s.Calm) := State.rests_round hr hd hc b
    obtain ⟨hlost, h0, h1⟩ := (s.round_frees true).ex hd
    refine ⟨⟨_, (State.rests_offerStep hr hd).1, rfl, rfl, rfl, rfl, rfl, rfl, rfl, rfl, rfl, rfl⟩,
      State.ex_offerStep_free hr hd,
      s.get_offerStep (b := .en) (by decide) (by decide) (by decide) (by decide) (by decide) (by decide) (by decide),
      s.get_offerStep (b := .dr) (by decide) (by decide) (by decide) (by decide) (by decide) (by decide) (by decide),
      fun h => ⟨State.offerStep_silent (b := .line) hr hd (.inl rfl) h, State.offerStep_silent (b := .att) hr hd (.inr rfl) h⟩,
      fun hov hall => ⟨⟨_, (hfree true (hcalm hr hov hall)).1, rfl, rfl, rfl, rfl, rfl, rfl, rfl, rfl, rfl, rfl⟩,
        ⟨_, (hfree false (hcalm hr hov hall)).1, rfl, rfl, rfl, rfl, rfl, rfl, rfl, rfl, rfl, rfl⟩, hlost, h0, h1⟩,
      fun hs ht hm => exec_residenceExposureMet_of_due hs ht hm hr⟩

end Sys2Proof.Machine

/-! # The landing of a rack (R101, R102, R133) -/

namespace Sys2Proof.Machine

/-- The entries that a landing log keeps. -/
def lastTwo (l : List LandLog) : List LandLog := l.drop (l.length - 2)

/-- What the end of a landing does: the slot is FREE, the landing log of the port keeps the last two, and LANDED goes
upstream, at a LOAD followed by a RACK-IN for an EMPTY. -/
def Landed (s u : State) (q : Rec) (m : SlotName) (x : Slot) (n : RackNo) (a : LandStatus) : Prop :=
  u.slot m = none
    ∧ u.landLog x.port = lastTwo (s.landLog x.port ++ [⟨x.serial, n, a⟩])
    ∧ u.Sends ⟨s.upStation x.port, .landed x.serial n a⟩
    ∧ (s.hasRole .load = true → q.cls = classEmpty → u.Sends ⟨0, .rackIn q.number q.steeredBy⟩)

/-- An operation that may queue frames of routine alone: frames on their way stay so, and three entries free stay
free. -/
structure Routine (s t : State) : Prop where
  sends : ∀ f : Frame, f.plain → s.Sends f → t.Sends f
  room : s.Room 3 → t.Room 3

section
variable {s t u : State} {i : Nat} {m : SlotName} {x : Slot} {r : Rec}

/-! ### The slots -/

theorem State.slotOf_spec (h : s.slotOf i = some (m, x)) : s.slot m = some x ∧ x.landing = some i := by
  unfold State.slotOf at h
  revert h
  cases ha : s.en.slotA <;> cases hb : s.en.slotB <;> dsimp only <;> (repeat' split) <;> intro h <;> cases h
  all_goals exact ⟨by assumption, by assumption⟩

theorem State.slotOf_of (h : s.slot m = some x) (hx : x.landing = some i)
    (ho : ∀ k z, k ≠ m → s.slot k = some z → z.landing ≠ some i) : s.slotOf i = some (m, x) := by
  unfold State.slotOf
  cases m with
  | a =>
    rw [show s.en.slotA = some x from h]
    exact if_pos hx
  | b =>
    rw [show s.en.slotB = some x from h]
    dsimp only
    rw [if_pos hx]
    split
    · next z hz => rw [if_neg (ho .a z (by decide) hz)]
    · rfl

theorem State.newerSlot_spec {k : RackNo} (h : s.newerSlot i k = some (m, x)) :
    s.slot m = some x ∧ x.landing = none ∧ x.image.number = k := by
  have hok {z : Slot} (hz : (z.reserved && z.image.number == k && z.landing != some i) = true) :
      z.landing = none ∧ z.image.number = k := by
    simp only [Bool.and_eq_true, beq_iff_eq, Slot.reserved, Option.isNone_iff_eq_none] at hz
    exact hz.1
  unfold State.newerSlot at h
  revert h
  cases ha : s.en.slotA <;> cases hb : s.en.slotB <;> dsimp only <;> (repeat' split) <;> intro h <;> cases h
  all_goals exact ⟨by assumption, hok (by assumption)⟩

theorem State.landLog_congr (h : t.en = s.en) (p : UpPort) : t.landLog p = s.landLog p := by
  cases p <;> simp only [State.landLog, h]

theorem State.landLog_setSlot (s : State) (n : SlotName) (z : Option Slot) (p : UpPort) :
    (s.setSlot n z).landLog p = s.landLog p := by cases n <;> cases p <;> rfl

/-! ### Frames of routine -/

theorem Routine.trans (h : Routine s t) (k : Routine t u) : Routine s u :=
  ⟨fun f hf => k.sends f hf ∘ h.sends f hf, k.room ∘ h.room⟩

theorem Routine.of_line (hb : t.boot = s.boot) (hl : t.line = s.line) : Routine s t :=
  ⟨fun _ _ => (State.sends_of_line hl).2, fun h => h.congr hb hl⟩

theorem Routine.after (k : Routine t u) (hb : t.boot = s.boot) (hl : t.line = s.line) : Routine s u :=
  (Routine.of_line hb hl).trans k

theorem Routine.refl (s : State) : Routine s s := .of_line rfl rfl

theorem Routine.ite {c : Prop} [Decidable c] (h : c → Routine s t) (k : ¬ c → Routine s u) :
    Routine s (if c then t else u) := by
  split
  · exact h ‹_›
  · exact k ‹_›

theorem State.Room.offerRoutine (h : s.Room 3) (f : Frame) : (s.offerRoutine f).Room 3 := by
  unfold State.offerRoutine
  split
  · next hc =>
    have hfree : s.line.queue.length + 4 ≤ Config.queueSize := of_decide_eq_true (Bool.and_eq_true_iff.1 hc).2
    have hlen := State.length_queue_setQueue (s := s) (s.line.queue ++ [f])
    rw [List.length_append, List.length_singleton] at hlen
    exact ⟨h.1, by omega⟩
  · exact h

theorem State.Room.offerCoalesced (h : s.Room 3) (same : Payload → Bool) (f : Frame) :
    (s.offerCoalesced same f).Room 3 := by
  unfold State.offerCoalesced
  split
  · refine ⟨h.1, le_trans (Nat.add_le_add_right (State.length_queue_setQueue _) 3) ?_⟩
    rw [List.length_map]
    exact h.2
  · exact h.offerRoutine f

theorem State.raise_routine (s : State) (c : Cause) (d : Nat) : Routine s (s.raise c d) := by
  refine ⟨(s.raise_derives c d).sends, fun h => ?_⟩
  unfold State.raise
  extract_lets e b t v
  have ht : t.Room 3 := h.congr rfl rfl
  have hv : v.Room 3 := by
    unfold v
    split
    · exact ht.offerRoutine _
    · exact ht
  split
  · unfold State.recomputeLevel
    split
    · exact hv
    · exact (hv.congr (t := { v with att := { v.att with level := v.levelNow } }) rfl rfl).offerCoalesced _ _
  · exact h.congr rfl rfl

theorem State.wantStep_routine (s : State) : Routine s s.wantStep := by
  refine ⟨s.wantStep_derives.sends, fun h => ?_⟩
  unfold State.wantStep
  dsimp only
  split
  · split
    · exact (h.congr (t := { s with bay := { s.bay with want := s.wantNow } }) rfl rfl).offerCoalesced _ _
    · exact h.congr rfl rfl
  · exact h

theorem State.setNumber_routine (s : State) (i : Nat) (n : RackNo) : Routine s (s.setNumber i n) := by
  unfold State.setNumber
  exact .ite (fun _ => (State.raise_routine _ _ _).after rfl rfl) fun _ => .of_line rfl rfl

theorem State.hopTest_routine (s : State) (i : Nat) : Routine s (s.hopTest i) := by
  unfold State.hopTest
  split
  · exact .refl s
  · exact .ite (fun _ => s.raise_routine _ _) fun _ => .refl s

theorem State.stopFired_routine (s : State) : Routine s s.stopFired := by
  unfold State.stopFired
  split
  · exact .refl s
  · exact .ite (fun _ => .ite (fun _ => (State.raise_routine _ _ _).after rfl rfl)
      fun _ => .of_line rfl rfl) fun _ => .refl s

theorem State.rehead_routine (s : State) : Routine s s.rehead := by
  unfold State.rehead
  split
  · refine .ite (fun _ => .refl s) fun _ => ?_
    extract_lets src t v
    have hv : Routine s v := .ite (fun _ => .of_line rfl rfl) fun _ => .of_line rfl rfl
    unfold State.loadGroup
    extract_lets c k g w
    have hw : Routine v w := .of_line rfl rfl
    exact hv.trans (hw.trans (.ite (fun _ => w.stopFired_routine) fun _ => .refl w))
  · split
    · exact .refl s
    · exact .ite (fun _ => .refl s) fun _ => .of_line rfl rfl

/-! ### The end of a landing -/

theorem State.sendLanded_sends (s : State) (p : UpPort) (k : Serial) (n : RackNo) (a : LandStatus)
    (w : Option (RackNo × Station)) (h : s.Room 2) :
    (s.sendLanded p k n a w).landLog p = lastTwo (s.landLog p ++ [⟨k, n, a⟩])
      ∧ (s.sendLanded p k n a w).Sends ⟨s.upStation p, .landed k n a⟩
      ∧ (∀ z, w = some z → (s.sendLanded p k n a w).Sends ⟨0, .rackIn z.1 z.2⟩)
      ∧ (∀ f, s.Sends f → (s.sendLanded p k n a w).Sends f)
      ∧ (w = none → ∀ j, s.Room (j + 1) → (s.sendLanded p k n a w).Room j) := by
  unfold State.sendLanded
  extract_lets log t v
  have hline : t.line = s.line := State.line_setLandLog _ _ _
  have hboot : t.boot = s.boot := State.boot_setLandLog _ _ _
  have ht : t.Room 2 := h.congr hboot hline
  have hen : v.en = t.en := t.get_sendPrompt (b := .en) _ _ (by decide) (by decide)
  have hlog : v.landLog p = log.drop (log.length - 2) :=
    (State.landLog_congr hen p).trans (State.landLog_setLandLog_self _ _ _)
  have hup : t.upStation p = s.upStation p := State.upStation_congr hboot p
  have hsend (f : Frame) : v.Sends f ↔ s.Sends f ∨ f = ⟨s.upStation p, .landed k n a⟩ :=
    (State.sends_sendPrompt_iff (ht.mono (by decide)) _ _).trans <| by rw [State.sends_of_line hline, hup]
  have hv : v.Room 1 := ht.sendPrompt _ _
  cases w with
  | none =>
    exact ⟨hlog, (hsend _).2 (.inr rfl), nofun, fun f hf => (hsend f).2 (.inl hf),
      fun _ j hj => (hj.congr hboot hline).sendPrompt _ _⟩
  | some z =>
    have hsend' (f : Frame) := State.sends_sendPrompt_iff (f := f) hv 0 (.rackIn z.1 z.2)
    refine ⟨?_, (hsend' _).2 (.inl ((hsend _).2 (.inr rfl))), fun z' hz => ?_,
      fun f hf => (hsend' f).2 (.inl ((hsend f).2 (.inl hf))), nofun⟩
    · exact (State.landLog_congr (v.get_sendPrompt (b := .en) _ _ (by decide) (by decide)) p).trans hlog
    · cases hz
      exact (hsend' _).2 (.inr rfl)

theorem State.endLanding_lands (hr : s.recOf i = some r) (hx : s.slotOf i = some (m, x)) (h : s.Room 2)
    (a : LandStatus) (sent : Option RackNo) :
    Landed s (s.endLanding i a sent) r m x (sent.getD r.number) a ∧ (s.endLanding i a sent).track = s.track
      ∧ ∀ f, s.Sends f → (s.endLanding i a sent).Sends f := by
  refine ⟨?_, State.get_endLanding (b := .track) _ _ _ _ (by decide) (by decide) (by decide), ?_⟩
  all_goals
    unfold State.endLanding
    rw [hx, hr]
    dsimp only
  all_goals
    have hboot := s.boot_setSlot m none
    obtain ⟨hlog, hsend, hin, hkeep, -⟩ := State.sendLanded_sends (s.setSlot m none) x.port x.serial (sent.getD r.number) a
      ((s.setSlot m none).rackInFor r.cls r.number r.steeredBy) (h.congr hboot (State.line_setSlot _ _ _))
  · rw [State.landLog_setSlot] at hlog
    rw [State.upStation_congr hboot] at hsend
    refine ⟨(State.slot_sendLanded _ _ _ _ _ _ _).trans (State.slot_setSlot_self _ _ _), hlog, hsend, fun hl hc => ?_⟩
    refine hin (r.number, r.steeredBy) ?_
    simp [State.rackInFor, State.hasRole_congr hboot, hl, hc]
  · exact fun f hf => hkeep f ((State.sends_of_line (State.line_setSlot _ _ _)).2 hf)

theorem Landed.congr {q : Rec} {n : RackNo} {a : LandStatus} (h : Landed t u q m x n a) (hb : t.boot = s.boot)
    (hl : t.landLog x.port = s.landLog x.port) : Landed s u q m x n a := by
  unfold Landed at h ⊢
  rwa [hl, State.upStation_congr hb, State.hasRole_congr hb] at h

end

end Sys2Proof.Machine

/-! # What a reply says, and where a read ends (R31, R33, R34) -/

namespace Sys2Proof.Machine

/-- The number that a reply brings, if any. -/
def TagReply.result : TagReply → Option RackNo
  | .number n => some n
  | _ => none

/-- The port as a reply to a read leaves it. -/
def TagReply.port (t : TagPort) : TagReply → TagPort
  | .garbled => { t with st := .draining, owner := none }
  | _ => t.idle

section
variable {s : State} {r : Rec} {m : SlotName} {x : Slot}

theorem State.tagReply_of_reading (h : s.tag.st = .reading) (y : TagReply) :
    s.tagReply y = State.tagDeliver { s with tag := y.port s.tag } s.tag.owner y.result := by
  unfold State.tagReply
  rw [h]
  cases y <;> rfl

theorem State.tag_tagDeliver (s : State) (o : Option Nat) (k : Option RackNo) : (s.tagDeliver o k).tag = s.tag := by
  unfold State.tagDeliver
  split
  · exact State.get_tagResult (b := .tag) _ _ _ (by decide) (by decide) (by decide) (by decide) (by decide)
  · rfl

theorem State.track_tagDeliver_none (s : State) (o : Option Nat) : (s.tagDeliver o none).track = s.track := by
  unfold State.tagDeliver
  split
  · exact (s.tagResult_none_ends _).1
  · rfl

theorem State.tag_tagReply (s : State) (y : TagReply) : (s.tagReply y).tag = match s.tag.st with
    | .idle => s.tag
    | .draining => s.tag.idle
    | .reading => y.port s.tag := by
  cases h : s.tag.st with
  | reading => rw [State.tagReply_of_reading h, State.tag_tagDeliver]
  | idle | draining => unfold State.tagReply; rw [h]

/-- A reply without a number, and one to no read, leave the track. -/
theorem State.track_tagReply (h : s.tag.st ≠ .reading ∨ y.result = none) : (s.tagReply y).track = s.track := by
  cases hst : s.tag.st with
  | reading => rw [State.tagReply_of_reading hst, h.resolve_left fun hn => hn hst, State.track_tagDeliver_none]
  | idle | draining => unfold State.tagReply; rw [hst]

section
variable (b0 b1 b2 : Byte)

/-- Three bytes that make a reply that is not garbled (R31). -/
def goodReply : Bool := decide (b0 = 0x3E) && decide (b1.toNat * 256 + b2.toNat ≤ 4095)

theorem tagReplyOf_eq : tagReplyOf b0 b1 b2 = if goodReply b0 b1 b2 then
      if b1.toNat * 256 + b2.toNat = 0 then .noTag else .number (Fin.ofNat 4096 (b1.toNat * 256 + b2.toNat))
    else .garbled := by
  unfold tagReplyOf goodReply
  simp only [Bool.and_eq_true, decide_eq_true_eq]

theorem port_tagReplyOf (t : TagPort) : (tagReplyOf b0 b1 b2).port t =
    if goodReply b0 b1 b2 then t.idle else { t with st := .draining, owner := none } := by
  rw [tagReplyOf_eq]
  split
  · split <;> rfl
  · rfl

theorem result_tagReplyOf : (tagReplyOf b0 b1 b2).result =
    if goodReply b0 b1 b2 = true ∧ 1 ≤ b1.toNat * 256 + b2.toNat then
      some (Fin.ofNat 4096 (b1.toNat * 256 + b2.toNat)) else none := by
  rw [tagReplyOf_eq]
  cases goodReply b0 b1 b2 with
  | false => simp [TagReply.result]
  | true =>
    by_cases h : b1.toNat * 256 + b2.toNat = 0
    · simp [h, TagReply.result]
    · rw [if_pos rfl, if_neg h, if_pos ⟨rfl, Nat.one_le_iff_ne_zero.2 h⟩]
      rfl

/-- Three bytes that bring a number (R31). -/
def readNumber : Bool :=
  decide (b0 = 0x3E) && decide (1 ≤ b1.toNat * 256 + b2.toNat) && decide (b1.toNat * 256 + b2.toNat ≤ 4095)

variable {b0 b1 b2}

theorem result_of_read (h : readNumber b0 b1 b2 = true) :
    (tagReplyOf b0 b1 b2).result = some (Fin.ofNat 4096 (b1.toNat * 256 + b2.toNat))
      ∧ (Fin.ofNat 4096 (b1.toNat * 256 + b2.toNat) : RackNo) ≠ notag
      ∧ (Fin.ofNat 4096 (b1.toNat * 256 + b2.toNat)).val = b1.toNat * 256 + b2.toNat := by
  simp only [readNumber, Bool.and_eq_true, decide_eq_true_eq] at h
  obtain ⟨⟨h0, h1⟩, h2⟩ := h
  have hval : (Fin.ofNat 4096 (b1.toNat * 256 + b2.toNat)).val = b1.toNat * 256 + b2.toNat := Nat.mod_eq_of_lt (by omega)
  refine ⟨?_, fun hz => ?_, hval⟩
  · rw [result_tagReplyOf, if_pos ⟨by simp only [goodReply, h0, h2, decide_true, Bool.and_self], h1⟩]
  · rw [hz] at hval
    exact absurd h1 (by rw [← hval]; decide)

theorem result_of_not_read (h : readNumber b0 b1 b2 = false) : (tagReplyOf b0 b1 b2).result = none := by
  rw [result_tagReplyOf, if_neg]
  rintro ⟨hg, h1⟩
  simp only [goodReply, Bool.and_eq_true, decide_eq_true_eq] at hg
  simp only [readNumber, hg.1, h1, hg.2, decide_true, Bool.and_true] at h
  exact Bool.noConfusion h

end

theorem exec_tagReplyComplete (hr : s.Runs) (hl : s.boot.loaded = true) (hp : s.boot.prof.reader = true)
    (b0 b1 b2 : Byte) :
    exec (.tagReplyComplete b0 b1 b2) s = .next (s.tagReply (tagReplyOf b0 b1 b2)).settle := by
  show live s (s.doTagReplyComplete b0 b1 b2) = _
  rw [live_of_runs hr, State.doTagReplyComplete, State.readerPresent, hl, hp]
  rfl

theorem exec_tagReplyGap (hr : s.Runs) (hl : s.boot.loaded = true) (hp : s.boot.prof.reader = true)
    (b0 : Byte) (b1 : Option Byte) : exec (.tagReplyGap b0 b1) s = .next (s.tagReply .garbled).settle := by
  show live s (s.doTagReplyGap b0 b1) = _
  rw [live_of_runs hr, State.doTagReplyGap, State.readerPresent, hl, hp]
  rfl

theorem exec_readerTimeout_of_reading (hr : s.Runs) (ht : s.tag.timeout = some 0) (hst : s.tag.st = .reading) :
    exec .readerTimeout s =
      .next (State.settle (State.tagDeliver { s with tag := s.tag.idle } s.tag.owner none)) := by
  show live s s.doReaderTimeout = _
  rw [live_of_runs hr, State.doReaderTimeout, ht, hst]
  rfl

theorem exec_readerTimeout_of_draining (hr : s.Runs) (ht : s.tag.timeout = some 0) (hst : s.tag.st = .draining) :
    exec .readerTimeout s = .next (State.settle { s with tag := s.tag.idle }) := by
  show live s s.doReaderTimeout = _
  rw [live_of_runs hr, State.doReaderTimeout, ht, hst]
  rfl

/-! ### The number of a record (R42, R43) -/

/-- A record that takes a number, or is a duplicate where another rack has it. -/
def Rec.numbered (r : Rec) (n : RackNo) (held : Prop) [Decidable held] : Rec :=
  if n ≠ notag ∧ held then Rec.flagged { r with number := notag } { duplicate := true } else { r with number := n }

theorem State.recOf_setNumber_eq {i : Nat} (hr : s.recOf i = some r) (n : RackNo) :
    (s.setNumber i n).recOf i = some (r.numbered n (s.numberHeld i n = true)) := by
  unfold State.setNumber Rec.numbered
  split
  · rw [State.recOf_congr (State.track_raise _ _ _)]
    exact State.recOf_updRec (fun _ => rfl) (State.recOf_updRec (fun _ => rfl) hr)
  · exact State.recOf_updRec (fun _ => rfl) hr

theorem Rec.numbered_spec (r : Rec) (n : RackNo) (held : Prop) [Decidable held] :
    (r.numbered n held).id = r.id ∧ (r.numbered n held).cls = r.cls ∧ (r.numbered n held).origin = r.origin
      ∧ (r.numbered n held).hop = r.hop ∧ (r.numbered n held).steeredBy = r.steeredBy
      ∧ (r.numbered n held).entry = r.entry ∧ (r.numbered n held).front = r.front
      ∧ (r.numbered n held).state = r.state
      ∧ (n ≠ notag → (r.numbered n held).number = if held then notag else n)
      ∧ ((r.numbered n held).number = n ∨ (r.numbered n held).number = notag
          ∧ (r.numbered n held).flags.duplicate = true) := by
  unfold Rec.numbered
  split
  · next h => exact ⟨rfl, rfl, rfl, rfl, rfl, rfl, rfl, rfl, fun _ => (if_pos h.2).symm, .inr ⟨rfl, Bool.or_true _⟩⟩
  · next h => exact ⟨rfl, rfl, rfl, rfl, rfl, rfl, rfl, rfl, fun hn => (if_neg fun hh => h ⟨hn, hh⟩).symm, .inl rfl⟩

theorem State.en_setNumber (s : State) (i : Nat) (n : RackNo) : (s.setNumber i n).en = s.en :=
  s.get_setNumber (b := .en) i n (by decide) (by decide) (by decide)

theorem State.boot_setNumber (s : State) (i : Nat) (n : RackNo) : (s.setNumber i n).boot = s.boot :=
  s.get_setNumber (b := .boot) i n (by decide) (by decide) (by decide)

/-! ### The results of a read (R101 to R105) -/

section
variable (hr : s.recOf r.id = some r) (hx : s.slotOf r.id = some (m, x)) (hroom : s.Room 3)
include hr hx hroom

theorem State.tagResult_noread : Landed s (s.tagResult r.id none) r m x r.number .noread
    ∧ (s.tagResult r.id none).track = s.track := by
  have he : s.tagResult r.id none = s.endLanding r.id .noread none := by
    unfold State.tagResult
    rw [hr, hx]
  rw [he]
  obtain ⟨h, ht, -⟩ := State.endLanding_lands hr hx (hroom.mono (by decide)) .noread none
  exact ⟨h, ht⟩

theorem State.tagResult_own : Landed s (s.tagResult r.id (some r.number)) r m x r.number .ok
    ∧ (s.tagResult r.id (some r.number)).track = s.track := by
  have he : s.tagResult r.id (some r.number) = s.endLanding r.id .ok none := by
    unfold State.tagResult
    rw [hr, hx]
    exact if_pos rfl
  rw [he]
  obtain ⟨h, ht, -⟩ := State.endLanding_lands hr hx (hroom.mono (by decide)) .ok none
  exact ⟨h, ht⟩

variable {k : RackNo}

/-- A record without a number takes the one read, where no other rack has it. -/
theorem State.tagResult_first (hk : k ≠ notag) (hn : r.number = notag) :
    ∃ q ∈ (s.tagResult r.id (some k)).track, q.id = r.id ∧ q.cls = r.cls ∧ q.hop = r.hop
      ∧ q.number = (if s.numberHeld r.id k then notag else k)
      ∧ Landed s (s.tagResult r.id (some k)) q m x q.number .ok := by
  have he : s.tagResult r.id (some k) = (s.setNumber r.id k).endLanding r.id .ok none := by
    unfold State.tagResult
    rw [hr, hx]
    dsimp only
    rw [if_neg (hn ▸ hk), if_pos hn]
  have hq := State.recOf_setNumber_eq hr k
  have hen := s.en_setNumber r.id k
  obtain ⟨h, ht, -⟩ := State.endLanding_lands hq ((State.slotOf_congr _ hen _).trans hx)
    (((s.setNumber_routine r.id k).room hroom).mono (by decide)) .ok none
  obtain ⟨hid, hc, -, hh, -, -, -, -, hnum, -⟩ := r.numbered_spec k (s.numberHeld r.id k = true)
  rw [he, ht]
  exact ⟨_, (State.mem_of_recOf hq).1, hid, hc, hh, hnum hk,
    h.congr (s.boot_setNumber _ _) (State.landLog_congr hen _)⟩

/-- A number that no slot expects relabels its record (R104). -/
theorem State.tagResult_other (hk : k ≠ notag) (ho : k ≠ r.number) (hn : r.number ≠ notag)
    (hnew : s.newerSlot r.id k = none) :
    ((s.tagResult r.id (some k)).cause .tagMismatch).st = .pending
      ∧ ((s.tagResult r.id (some k)).cause .tagMismatch).detail = BitVec.ofNat 16 k.val
      ∧ ∃ q ∈ (s.tagResult r.id (some k)).track, q.id = r.id ∧ q.flags.relabelled = true ∧ q.cls = r.cls ∧ q.hop = r.hop
        ∧ q.number = (if s.numberHeld r.id k then notag else k)
        ∧ Landed s (s.tagResult r.id (some k)) q m x k .mismatch := by
  let v := (s.setNumber r.id k).flagRec r.id { relabelled := true }
  let w := v.raise .tagMismatch k.val
  have he : s.tagResult r.id (some k) = w.endLanding r.id .mismatch (some k) := by
    unfold State.tagResult
    rw [hr, hx]
    dsimp only
    rw [if_neg ho, if_neg hn, hnew]
  have hq : w.recOf r.id = some ((r.numbered k (s.numberHeld r.id k = true)).flagged { relabelled := true }) :=
    (State.recOf_congr (State.track_raise _ _ _) _).trans
      (State.recOf_updRec (fun _ => rfl) (State.recOf_setNumber_eq hr k))
  have hen : w.en = s.en := (v.get_raise (b := .en) _ _ (by decide) (by decide)).trans (s.en_setNumber r.id k)
  have hboot : w.boot = s.boot := (v.get_raise (b := .boot) _ _ (by decide) (by decide)).trans (s.boot_setNumber r.id k)
  have hv : Routine s v := (s.setNumber_routine r.id k).trans (.of_line rfl rfl)
  have hw : w.Room 3 := (hv.trans (v.raise_routine _ _)).room hroom
  obtain ⟨h, ht, -⟩ := State.endLanding_lands hq ((State.slotOf_congr _ hen _).trans hx) (hw.mono (by decide)) .mismatch
    (some k)
  have hcause : (w.endLanding r.id .mismatch (some k)).cause .tagMismatch = w.cause .tagMismatch :=
    (w.endLanding_ends _ _ _).2.1 _ rfl
  obtain ⟨hid, hc, -, hh, -, -, -, -, hnum, -⟩ := r.numbered_spec k (s.numberHeld r.id k = true)
  rw [he, hcause, ht]
  refine ⟨?_, ?_, _, (State.mem_of_recOf hq).1, hid, Bool.or_true _, hc, hh, hnum hk,
    h.congr hboot (State.landLog_congr hen _)⟩
  all_goals
    rw [State.cause_raise, if_pos rfl]

end

end

end Sys2Proof.Machine

/-! # The number of a newer slot (R103), and the landing at the lead edge (R101) -/

namespace Sys2Proof.Machine

/-- The slot of a rack that has not come is FREE, SKIPPED goes upstream, and EXPECTED-MISSING is raised. -/
def State.passedOver (s : State) (m : SlotName) (x : Slot) (k : RackNo) : State :=
  ((s.setSlot m none).sendLanded x.port x.serial k .skipped none).raise .expectedMissing x.image.number.val

/-- What a record takes of the image of a slot besides the number. -/
def Rec.imaged (y : Slot) (r : Rec) : Rec :=
  { r with cls := y.image.cls, origin := y.image.origin, steeredBy := y.image.steeredBy,
           flags := Flags.union y.image.flags r.localFlags, hop := satSucc y.image.hop,
           entry := some ⟨y.port, y.serial⟩ }

/-- A slot is LANDING for a record, which takes its image, and the want follows. -/
def State.landsIn (s : State) (i : Nat) (m : SlotName) (y : Slot) : State :=
  ((s.setSlot m (some { y with landing := some i })).updRec i (Rec.imaged y)).wantStep

/-- The record of a landing has its number, tested against the hop limit. -/
def State.numberedIn (s : State) (i : Nat) (y : Slot) : State := (s.setNumber i y.image.number).hopTest i

section
variable {s : State} {r : Rec} {m n : SlotName} {x y : Slot} {k : RackNo} {i : Nat}

theorem State.skipTo_eq (s : State) (i : Nat) (m : SlotName) (x : Slot) (n : SlotName) (y : Slot) (k : RackNo) :
    s.skipTo i m x n y k = (((s.passedOver m x k).landsIn i n y).numberedIn i y).endLanding i .ok none := rfl

theorem State.passedOver_spec (h : s.Room 8) (m : SlotName) (x : Slot) (k : RackNo) :
    (s.passedOver m x k).boot = s.boot ∧ (s.passedOver m x k).track = s.track
      ∧ (∀ j, (s.passedOver m x k).slot j = (s.setSlot m none).slot j)
      ∧ (s.passedOver m x k).Room 3
      ∧ (s.passedOver m x k).Sends ⟨s.upStation x.port, .landed x.serial k .skipped⟩
      ∧ ((s.passedOver m x k).cause .expectedMissing).st = .pending
      ∧ ((s.passedOver m x k).cause .expectedMissing).detail = BitVec.ofNat 16 x.image.number.val := by
  have hboot := s.boot_setSlot m none
  have hroom : (s.setSlot m none).Room 8 := h.congr hboot (State.line_setSlot _ _ _)
  obtain ⟨-, hsend, -, -, hafter⟩ :=
    State.sendLanded_sends (s.setSlot m none) x.port x.serial k .skipped none (hroom.mono (by decide))
  have hraise := State.raise_routine ((s.setSlot m none).sendLanded x.port x.serial k .skipped none) .expectedMissing
    x.image.number.val
  have hget {b : Block} (h₁ : b ≠ .en) (h₂ : b ≠ .att) (h₃ : b ≠ .line) : (s.passedOver m x k).get b = s.get b :=
    (State.get_raise _ _ _ h₂ h₃).trans ((State.get_sendLanded _ _ _ _ _ _ h₁ h₂ h₃).trans (State.get_setSlot _ _ _ h₁))
  refine ⟨hget (b := .boot) (by decide) (by decide) (by decide), hget (b := .track) (by decide) (by decide) (by decide),
    fun j => ?_, hraise.room ((hafter rfl 7 hroom).mono (by decide)),
    hraise.sends _ ⟨rfl, rfl⟩ (State.upStation_congr hboot _ ▸ hsend), ?_, ?_⟩
  · have hen : (s.passedOver m x k).en = ((s.setSlot m none).sendLanded x.port x.serial k .skipped none).en :=
      State.get_raise (b := .en) _ _ _ (by decide) (by decide)
    rw [← State.slot_sendLanded (s.setSlot m none) x.port x.serial k .skipped none j]
    cases j <;> simp only [State.slot, hen]
  all_goals
    unfold State.passedOver
    rw [State.cause_raise, if_pos rfl]

theorem State.get_numberedIn {b : Block} (h₀ : b ≠ .track) (h₁ : b ≠ .att) (h₂ : b ≠ .line) :
    (s.numberedIn i y).get b = s.get b :=
  (State.get_hopTest _ _ h₁ h₂).trans (State.get_setNumber _ _ _ h₀ h₁ h₂)

theorem State.numberedIn_routine (s : State) (i : Nat) (y : Slot) : Routine s (s.numberedIn i y) :=
  (s.setNumber_routine _ _).trans (State.hopTest_routine _ _)

theorem State.recOf_numberedIn (hr : s.recOf i = some r) :
    (s.numberedIn i y).recOf i = some (r.numbered y.image.number (s.numberHeld i y.image.number = true)) := by
  have hq := State.recOf_setNumber_eq hr y.image.number
  exact (State.recOf_congr (State.hopTest_tests hq).1 _).trans hq

theorem State.cause_numberedIn {c : Cause} (hc : c ≠ .tagMismatch) (hc' : c ≠ .circling) :
    (s.numberedIn i y).cause c = s.cause c := by
  refine Eq.trans ?_ (State.cause_setNumber (i := i) y.image.number hc)
  unfold State.numberedIn State.hopTest
  split
  · rfl
  · split
    · rw [State.cause_raise, if_neg hc']
    · rfl

/-- A record takes the image of a slot, where the other slot is FREE. -/
theorem State.landsIn_spec (hr : s.recOf i = some r) (hm : s.slot m = none) (hne : n ≠ m) (y : Slot) :
    (s.landsIn i n y).boot = s.boot ∧ (s.landsIn i n y).att = s.att ∧ Routine s (s.landsIn i n y)
      ∧ (s.landsIn i n y).recOf i = some (Rec.imaged y r) ∧ (s.landsIn i n y).slot m = none
      ∧ (s.landsIn i n y).slotOf i = some (n, { y with landing := some i }) := by
  have hget {b : Block} (h₁ : b ≠ .en) (h₂ : b ≠ .track) (h₃ : b ≠ .bay) (h₄ : b ≠ .line) :
      (s.landsIn i n y).get b = s.get b :=
    (State.get_wantStep _ h₃ h₄).trans ((State.get_updRec _ _ _ h₂).trans (State.get_setSlot _ _ _ h₁))
  have hslot (j : SlotName) :
      (s.landsIn i n y).slot j = (s.setSlot n (some { y with landing := some i })).slot j := by
    have hen : (s.landsIn i n y).en = (s.setSlot n (some { y with landing := some i })).en :=
      State.get_wantStep (b := .en) _ (by decide) (by decide)
    cases j <;> simp only [State.slot, hen]
  have hfree : (s.landsIn i n y).slot m = none :=
    (hslot m).trans ((State.slot_setSlot_other s _ hne.symm).trans hm)
  refine ⟨hget (b := .boot) (by decide) (by decide) (by decide) (by decide),
    hget (b := .att) (by decide) (by decide) (by decide) (by decide),
    (State.wantStep_routine _).after (State.boot_setSlot _ _ _) (State.line_setSlot _ _ _), ?_, hfree,
    State.slotOf_of ((hslot n).trans (State.slot_setSlot_self _ _ _)) rfl fun j z hj hz => ?_⟩
  · exact (State.recOf_congr (State.get_wantStep (b := .track) _ (by decide) (by decide)) _).trans
      (State.recOf_updRec (fun _ => rfl) ((State.recOf_congr (State.track_setSlot _ _ _) _).trans hr))
  · have hjm : j = m := by cases j <;> cases m <;> cases n <;> first | rfl | exact absurd rfl hj | exact absurd rfl hne
    rw [hjm, hfree] at hz
    cases hz

/-- The number read is that of a newer slot: its image is the record's, and the older slot's rack is missing. -/
theorem State.tagResult_newer (hr : s.recOf r.id = some r) (hx : s.slotOf r.id = some (m, x)) (hroom : s.Room 8)
    (ho : k ≠ r.number) (hn : r.number ≠ notag) (hnew : s.newerSlot r.id k = some (n, y)) :
    let u := s.tagResult r.id (some k)
    s.slot n = some y ∧ y.landing = none ∧ y.image.number = k ∧ n ≠ m ∧ u.slot m = none ∧ u.slot n = none
      ∧ u.Sends ⟨s.upStation x.port, .landed x.serial k .skipped⟩
      ∧ (u.cause .expectedMissing).st = .pending
      ∧ (u.cause .expectedMissing).detail = BitVec.ofNat 16 x.image.number.val
      ∧ ∃ q ∈ u.track, q.id = r.id ∧ q.cls = y.image.cls ∧ q.origin = y.image.origin
        ∧ q.steeredBy = y.image.steeredBy ∧ q.hop = satSucc y.image.hop
        ∧ q.entry = some ⟨y.port, y.serial⟩ ∧ q.front = r.front ∧ q.state = r.state
        ∧ (q.number = k ∨ q.number = notag ∧ q.flags.duplicate = true)
        ∧ u.Sends ⟨s.upStation y.port, .landed y.serial q.number .ok⟩
        ∧ (s.hasRole .load = true → q.cls = classEmpty → u.Sends ⟨0, .rackIn q.number q.steeredBy⟩)
        ∧ (s.boot.prof.hopLimit < q.hop.val → (u.cause .circling).st = .pending) := by
  intro u
  obtain ⟨hslot, hl, hnum⟩ := State.newerSlot_spec hnew
  obtain ⟨hold, hlold⟩ := State.slotOf_spec hx
  have hne : n ≠ m := by
    rintro rfl
    rw [hslot, Option.some.injEq] at hold
    rw [← hold, hl] at hlold
    cases hlold
  obtain ⟨hboot, htrack, hslots, hroom', hsent, hst, hdet⟩ := State.passedOver_spec hroom m x k
  have hfree : (s.passedOver m x k).slot m = none := (hslots m).trans (State.slot_setSlot_self _ _ _)
  let v := (s.passedOver m x k).landsIn r.id n y
  let w := v.numberedIn r.id y
  have hu : u = w.endLanding r.id .ok none := by
    show s.tagResult r.id (some k) = _
    unfold State.tagResult
    rw [hr, hx]
    dsimp only
    rw [if_neg ho, if_neg hn, hnew]
    exact s.skipTo_eq _ _ _ _ _ _
  obtain ⟨hvboot, hvatt, hpv, hrv, hvm, hvof⟩ :=
    State.landsIn_spec (s := s.passedOver m x k) ((State.recOf_congr htrack _).trans hr) hfree hne y
  have hwen : w.en = v.en := State.get_numberedIn (b := .en) (by decide) (by decide) (by decide)
  have hwboot : w.boot = s.boot :=
    (State.get_numberedIn (b := .boot) (by decide) (by decide) (by decide)).trans (hvboot.trans hboot)
  have hwm : w.slot m = none := by
    rw [← hvm]
    cases m <;> simp only [State.slot, hwen] <;> rfl
  have hq := State.recOf_numberedIn (y := y) hrv
  obtain ⟨hid, hcls, horg, hhop, hsteer, hentry, hfront, hstate, -, hqn⟩ :=
    (Rec.imaged y r).numbered_spec y.image.number (v.numberHeld r.id y.image.number = true)
  have hrw : Routine (s.passedOver m x k) w := hpv.trans (v.numberedIn_routine _ _)
  obtain ⟨⟨hlanded, -, hok, hin⟩, ht, hkeep⟩ := State.endLanding_lands hq ((State.slotOf_congr _ hwen _).trans hvof)
    ((hrw.room hroom').mono (by decide)) .ok none
  obtain ⟨-, hcause, hends⟩ := w.endLanding_ends r.id .ok none
  have hmiss : w.cause .expectedMissing = (s.passedOver m x k).cause .expectedMissing :=
    (State.cause_numberedIn (by decide) (by decide)).trans (State.cause_congr hvatt _)
  have hup (p : UpPort) : w.upStation p = s.upStation p := State.upStation_congr hwboot p
  rw [hup] at hok
  rw [hu]
  refine ⟨hslot, hl, hnum, hne, (hends m).elim (fun h => h.trans hwm) id, hlanded,
    hkeep _ (hrw.sends _ ⟨rfl, rfl⟩ hsent), by rw [hcause _ rfl, hmiss]; exact hst,
    by rw [hcause _ rfl, hmiss]; exact hdet, _, ht ▸ (State.mem_of_recOf hq).1, hid, hcls, horg, hsteer, hhop, hentry,
    hfront, hstate, hnum ▸ hqn, hok, fun hload => hin ((State.hasRole_congr hwboot _).trans hload), fun hlim => ?_⟩
  have hvb : (v.setNumber r.id y.image.number).boot = s.boot := (v.boot_setNumber _ _).trans (hvboot.trans hboot)
  rw [hcause _ rfl]
  exact ((State.hopTest_tests (State.recOf_setNumber_eq hrv y.image.number)).2.2.1 (hvb ▸ hlim)).1

/-! ### The landing at the lead edge -/

variable {c : Count}

/-- The record of a RESERVED slot's rack, as its READ is due. -/
theorem State.numberSlot_spec (hs : ∀ q ∈ s.track, q.id < s.nextId)
    (hfree : ∀ j z, s.slot j = some z → z.landing ≠ some s.nextId) (hroom : s.Room 3) :
    (s.numberSlot n y c).boot = s.boot ∧ (s.numberSlot n y c).tag = s.tag
      ∧ (∀ p, (s.numberSlot n y c).landLog p = s.landLog p) ∧ (s.numberSlot n y c).Room 3
      ∧ (s.numberSlot n y c).slot n = some { y with landing := some s.nextId }
      ∧ (s.numberSlot n y c).slotOf s.nextId = some (n, { y with landing := some s.nextId })
      ∧ ∃ q, (s.numberSlot n y c).recOf s.nextId = some q := by
  let t := s.setSlot n (some { y with landing := some s.nextId })
  have hget {b : Block} (h₁ : b ≠ .track) (h₂ : b ≠ .nextId) (h₃ : b ≠ .eyes) (h₄ : b ≠ .gate) (h₅ : b ≠ .att)
      (h₆ : b ≠ .line) (h₇ : b ≠ .marks) (h₈ : b ≠ .bay) : (s.numberSlot n y c).get b = t.get b :=
    (State.get_setNumber _ _ _ h₁ h₅ h₆).trans <| (State.get_hopTest _ _ h₅ h₆).trans <|
      (State.get_rehead _ h₁ h₅ h₆ h₇ h₈).trans <| (State.get_routed _ _ _ h₁ h₄).trans (State.get_enroll _ _ h₁ h₂ h₃)
  have hen : (s.numberSlot n y c).en = t.en :=
    hget (b := .en) (by decide) (by decide) (by decide) (by decide) (by decide) (by decide) (by decide) (by decide)
  have hslot (j : SlotName) : (s.numberSlot n y c).slot j = t.slot j := by
    cases j <;> simp only [State.slot, hen]
  obtain ⟨-, q, -, hq, -⟩ := State.standSlot_stands hs n y c
  have hline : ((t.enroll (s.slotRec y c)).routed s.nextId y.route).line = s.line :=
    (State.get_routed (b := .line) _ _ _ (by decide) (by decide)).trans <|
      (State.get_enroll (b := .line) _ _ (by decide) (by decide) (by decide)).trans (State.line_setSlot _ _ _)
  have hboot : ((t.enroll (s.slotRec y c)).routed s.nextId y.route).boot = s.boot :=
    (State.get_routed (b := .boot) _ _ _ (by decide) (by decide)).trans <|
      (State.get_enroll (b := .boot) _ _ (by decide) (by decide) (by decide)).trans (State.boot_setSlot _ _ _)
  have hr : Routine s (s.numberSlot n y c) :=
    ((State.rehead_routine _).after hboot hline).trans ((State.hopTest_routine _ _).trans (State.setNumber_routine _ _ _))
  refine ⟨(hget (b := .boot) (by decide) (by decide) (by decide) (by decide) (by decide) (by decide) (by decide)
      (by decide)).trans (State.boot_setSlot _ _ _),
    (hget (b := .tag) (by decide) (by decide) (by decide) (by decide) (by decide) (by decide) (by decide)
      (by decide)).trans (State.tag_setSlot _ _ _),
    fun p => (State.landLog_congr hen p).trans (State.landLog_setSlot _ _ _ _), hr.room hroom,
    (hslot n).trans (State.slot_setSlot_self _ _ _),
    State.slotOf_of ((hslot n).trans (State.slot_setSlot_self _ _ _)) rfl fun j z hj hz => hfree j z ?_,
    _, State.recOf_setNumber_eq ((State.recOf_congr (State.hopTest_tests hq).1 _).trans hq) _⟩
  exact (State.slot_setSlot_other s _ hj).symm.trans ((hslot j).symm.trans hz)

/-- The rack of a RESERVED slot at the reader: an idle one begins a read of it, a busy one gives NOREAD at once, and
with none LANDED OK goes up. -/
theorem State.createFromSlot_lands (hs : ∀ q ∈ s.track, q.id < s.nextId)
    (hfree : ∀ j z, s.slot j = some z → z.landing ≠ some s.nextId) (hroom : s.Room 3) :
    let u := s.createFromSlot n y c
    ∃ q, u.recOf s.nextId = some q
      ∧ (s.boot.prof.reader = true → s.tag.st = .idle →
          u.tag = ⟨.reading, some s.nextId, some s.boot.prof.readerTimeout, some 0x3C⟩
          ∧ u.slot n = some { y with landing := some s.nextId } ∧ u.landLog y.port = s.landLog y.port)
      ∧ (s.boot.prof.reader = true → s.tag.st ≠ .idle → u.tag = s.tag ∧ Landed s u q n y q.number .noread)
      ∧ (s.boot.prof.reader = false → u.tag = s.tag ∧ Landed s u q n y q.number .ok) := by
  intro u
  obtain ⟨hboot, htag, hlog, hroom', hslot, hof, q, hq⟩ := State.numberSlot_spec (n := n) (y := y) (c := c) hs hfree hroom
  have hid : q.id = s.nextId := (State.mem_of_recOf hq).2
  have hu : u = if s.boot.prof.reader then (s.numberSlot n y c).readDue s.nextId
      else (s.numberSlot n y c).endLanding s.nextId .ok none := by
    rw [← hboot]
    exact s.createFromSlot_eq n y c
  cases hreader : s.boot.prof.reader with
  | false =>
    rw [hreader, if_neg Bool.false_ne_true] at hu
    obtain ⟨h, ht, -⟩ := State.endLanding_lands hq hof (hroom'.mono (by decide)) .ok none
    have htag' : u.tag = s.tag := by
      rw [hu]
      exact (State.get_endLanding (b := .tag) _ _ _ _ (by decide) (by decide) (by decide)).trans htag
    refine ⟨q, by rw [hu, State.recOf_congr ht, hq], nofun, nofun, fun _ => ⟨htag', hu ▸ ?_⟩⟩
    exact Landed.congr (x := { y with landing := some s.nextId }) h hboot (hlog _)
  | true =>
    rw [hreader, if_pos rfl, State.readDue, if_pos (by rw [hboot, hreader])] at hu
    by_cases hidle : s.tag.st = .idle
    · rw [if_pos (by rw [htag, hidle])] at hu
      rw [hu]
      exact ⟨q, hq, fun _ _ => ⟨by rw [← hboot], hslot, hlog _⟩, fun _ h => absurd hidle h, nofun⟩
    · rw [if_neg (by rw [htag]; exact hidle), ← hid] at hu
      obtain ⟨h, ht⟩ := State.tagResult_noread (r := q) (hid ▸ hq) (hid ▸ hof) hroom'
      have htag' : u.tag = s.tag := by
        rw [hu]
        exact (State.get_tagResult (b := .tag) _ _ _ (by decide) (by decide) (by decide) (by decide)
          (by decide)).trans htag
      refine ⟨q, by rw [hu, State.recOf_congr ht, hq], fun _ h => absurd h hidle, fun _ _ => ⟨htag', hu ▸ ?_⟩, nofun⟩
      exact Landed.congr (x := { y with landing := some s.nextId }) (hid ▸ h) hboot (hlog _)

end

/-! ### The commands -/

section
variable {s : State} {r : Rec} {p : PendEdge} {n : SlotName} {y : Slot}

/-- A complete reply numbers the owner of the read that has no LANDING slot. -/
theorem State.recOf_tagReply {b0 b1 b2 : Byte} (hst : s.tag.st = .reading) (hown : s.tag.owner = some r.id)
    (hrec : s.recOf r.id = some r) (hof : s.slotOf r.id = none) (hgood : goodReply b0 b1 b2 = true)
    (hv : 1 ≤ b1.toNat * 256 + b2.toNat)
    (hheld : s.numberHeld r.id (Fin.ofNat 4096 (b1.toNat * 256 + b2.toNat)) = false) :
    (s.tagReply (tagReplyOf b0 b1 b2)).recOf r.id =
      some { r with number := Fin.ofNat 4096 (b1.toNat * 256 + b2.toNat) } := by
  let w : State := { s with tag := (tagReplyOf b0 b1 b2).port s.tag }
  have hdo : s.tagReply (tagReplyOf b0 b1 b2) = w.setNumber r.id (Fin.ofNat 4096 (b1.toNat * 256 + b2.toNat)) := by
    rw [State.tagReply_of_reading hst, result_tagReplyOf, if_pos ⟨hgood, hv⟩, hown]
    simp only [State.tagDeliver, State.tagResult]
    rw [show w.recOf r.id = some r from hrec, show w.slotOf r.id = none from hof]
  have hfree : ¬w.numberHeld r.id (Fin.ofNat 4096 (b1.toNat * 256 + b2.toNat)) = true := by
    rw [show w.numberHeld r.id _ = false from hheld]
    exact Bool.false_ne_true
  rw [hdo, State.recOf_setNumber_eq (s := w) hrec, Rec.numbered, if_neg fun h => hfree h.2]

/-- The lead edge at ENTRY of a RESERVED slot's rack, as it is confirmed. -/
theorem State.confirm_entryLead_lands (hclear : s.eyes.entry.st = .clear) (hrev : p.reverse = false)
    (hfull : s.trackFull = false) (hold : s.oldestReserved = some (n, y)) (hs : ∀ q ∈ s.track, q.id < s.nextId)
    (hfree : ∀ j z, s.slot j = some z → z.landing ≠ some s.nextId) (hroom : s.Room 3) :
    let u := s.confirm .entry p
    ∃ q, u.recOf s.nextId = some q
      ∧ (s.boot.prof.reader = true → s.tag.st = .idle →
          u.tag = ⟨.reading, some s.nextId, some s.boot.prof.readerTimeout, some 0x3C⟩
          ∧ u.slot n = some { y with landing := some s.nextId } ∧ u.landLog y.port = s.landLog y.port)
      ∧ (s.boot.prof.reader = true → s.tag.st ≠ .idle → u.tag = s.tag ∧ Landed s u q n y q.number .noread)
      ∧ (s.boot.prof.reader = false → u.tag = s.tag ∧ Landed s u q n y q.number .ok) := by
  intro u
  let t := s.leadSeen p
  obtain ⟨q, hq, hidle, hbusy, hnone⟩ :=
    State.createFromSlot_lands (s := t) (n := n) (y := y) (c := p.count) hs hfree hroom
  have hentry : t.entryLead p.count = t.createFromSlot n y p.count := by
    unfold State.entryLead
    rw [show t.trackFull = false from hfull, show t.oldestReserved = some (n, y) from hold]
    rfl
  have hu : u = (t.createFromSlot n y p.count).accounted .entry p.count := by
    rw [← hentry]
    exact State.confirm_entry_lead hclear hrev
  have hget {b : Block} (h : b ≠ .eyes) : u.get b = (t.createFromSlot n y p.count).get b := by
    rw [hu]
    exact State.get_accounted _ _ _ h
  have hslot : u.slot n = (t.createFromSlot n y p.count).slot n := by
    rw [hu]
    exact State.slot_accounted _ _ _ _
  have htag : u.tag = (t.createFromSlot n y p.count).tag := hget (b := .tag) (by decide)
  have hline : u.line = (t.createFromSlot n y p.count).line := hget (b := .line) (by decide)
  have hlog : u.landLog y.port = (t.createFromSlot n y p.count).landLog y.port :=
    State.landLog_congr (hget (b := .en) (by decide)) _
  have hland {a : LandStatus} (h : Landed t (t.createFromSlot n y p.count) q n y q.number a) :
      Landed s u q n y q.number a := by
    obtain ⟨hsl, hlg, hsend, hin⟩ := h
    exact ⟨hslot.trans hsl, hlog.trans hlg, (State.sends_of_line hline).2 hsend,
      fun h₁ h₂ => (State.sends_of_line hline).2 (hin h₁ h₂)⟩
  exact ⟨q, (State.recOf_congr (hget (b := .track) (by decide)) _).trans hq,
    fun h₁ h₂ => (hidle h₁ h₂).imp htag.trans (.imp hslot.trans hlog.trans),
    fun h₁ h₂ => (hbusy h₁ h₂).imp htag.trans hland, fun h₁ => (hnone h₁).imp htag.trans hland⟩

end

/-- Settles O16: what a reply says and where it leaves the port, the results of a read for the record of a LANDING slot,
and the rack of a RESERVED slot at the reader. -/
theorem tagPortEndsItsReads : Obligations.TagPortEndsItsReads := by
  unfold Obligations.TagPortEndsItsReads
  refine ⟨fun s b0 b1 b2 hr hl hp => ?reply, ⟨fun s b0 b1 hr hl hp => ?gap, fun s hr ht hst => ?timeout⟩,
    ⟨fun s r m x hr hst hown hrec hof hcan hlen => ?noread,
      fun s p n y hr hm hl hb hpend hrun hclear hrev hfull hold hs hfree hcan hlen => ?lead⟩,
    fun s r m x b0 b1 b2 hr hl hp hst hown hrec hof hcan hlen => ?result⟩
  case reply =>
    refine ⟨_, exec_tagReplyComplete hr hl hp b0 b1 b2, ?_, fun r hst hgood hv hown hrec hof hheld => ?_,
      fun hst => ?_, ?_⟩
    · rw [State.settle_tag, State.tag_tagReply, port_tagReplyOf]
      show _ = match s.tag.st, goodReply b0 b1 b2 with
        | .idle, _ => s.tag
        | .reading, false => { s.tag with st := .draining, owner := none }
        | .reading, true => s.tag.idle
        | .draining, _ => s.tag.idle
      cases s.tag.st <;> cases goodReply b0 b1 b2 <;> rfl
    · have hle : b1.toNat * 256 + b2.toNat ≤ 4095 := of_decide_eq_true (Bool.and_eq_true_iff.1 hgood).2
      obtain ⟨q, hq, hk⟩ := State.recOf_of_kept (State.kept_settle _) (State.recOf_tagReply hst hown hrec hof hgood hv hheld)
      obtain ⟨hqm, hqi⟩ := State.mem_of_recOf hq
      exact ⟨q, hqm, hqi, (congrArg (fun z : Rec => z.number.val) hk :).trans (Nat.mod_eq_of_lt (by omega)),
        (congrArg Rec.cls hk :), (congrArg Rec.origin hk :)⟩
    · rw [State.track_settle, State.track_tagReply (.inl hst)]
    · rw [State.settle_cu]
      exact s.still_tagReply (b := .cu) _ rfl
  case gap =>
    refine ⟨_, exec_tagReplyGap hr hl hp b0 b1, ?_, ?_⟩
    · rw [State.settle_tag, State.tag_tagReply]
      cases s.tag.st <;> rfl
    · rw [State.track_settle, State.track_tagReply (.inr rfl)]
  case timeout =>
    cases h : s.tag.st with
    | idle => exact absurd h hst
    | reading =>
      refine ⟨_, exec_readerTimeout_of_reading hr ht h, ?_, ?_⟩
      · rw [State.settle_tag, State.tag_tagDeliver]
        rfl
      · rw [State.track_settle, State.track_tagDeliver_none]
    | draining =>
      exact ⟨_, exec_readerTimeout_of_draining hr ht h, State.settle_tag _, State.track_settle _⟩
  case noread =>
    have hend (t : TagPort) := State.tagResult_noread (s := { s with tag := t }) hrec hof ⟨hcan, by
      show s.line.queue.length + 3 ≤ 16
      omega⟩
    refine ⟨fun b0 b1 hl hp => ⟨_, exec_tagReplyGap hr hl hp b0 b1, ?_⟩,
      fun ht => ⟨_, exec_readerTimeout_of_reading hr ht hst, ?_⟩⟩
    · rw [State.tagReply_of_reading hst, hown]
      exact (hend _).symm
    · rw [hown]
      exact (hend _).symm
  case lead =>
    obtain ⟨q, h⟩ := State.confirm_entryLead_lands hclear hrev hfull hold hs hfree ⟨hcan, by
      show s.line.queue.length + 3 ≤ 16
      omega⟩
    exact ⟨_, q, exec_eyeEdgeConfirm_of_due hr hm (State.fitted_entry hl) hb hpend hrun, h⟩
  case result =>
    intro v read k two landed
    let w : State := { s with tag := (tagReplyOf b0 b1 b2).port s.tag }
    have hroom : w.Room 8 := ⟨hcan, by
      show s.line.queue.length + 8 ≤ 16
      omega⟩
    have hroom3 := hroom.mono (m := 3) (by decide)
    have hread : read = true → (tagReplyOf b0 b1 b2).result = some k ∧ k ≠ notag ∧ k.val = v := result_of_read
    have hnone : read = false → (tagReplyOf b0 b1 b2).result = none := result_of_not_read
    refine ⟨w.tagResult r.id (tagReplyOf b0 b1 b2).result, ?_, fun h => ?_, fun h hk => ?_, fun h hn => ?_,
      fun m' y h hk hn hnew => ?_, fun h hk hn hnew => ?_⟩
    · rw [exec_tagReplyComplete hr hl hp, State.tagReply_of_reading hst, hown]
      rfl
    · rw [hnone h]
      exact (State.tagResult_noread (s := w) hrec hof hroom3).symm
    · rw [(hread h).1, hk]
      exact (State.tagResult_own (s := w) hrec hof hroom3).symm
    · rw [(hread h).1]
      exact State.tagResult_first (s := w) hrec hof hroom3 (hread h).2.1 hn
    · rw [(hread h).1]
      exact State.tagResult_newer (s := w) hrec hof hroom hk hn hnew
    · rw [(hread h).1, ← (hread h).2.2]
      exact State.tagResult_other (s := w) hrec hof hroom3 (hread h).2.1 hk hn hnew

end Sys2Proof.Machine

end
